-- ==== Sys2Proof/Word.lean ====
section
/-! DEFINITION. The words of the CT416: octets, the 16-bit and 32-bit counts, and the fixed tables of like things. -/

namespace Sys2Proof

/-- An octet of a frame, of the configuration record or of the service port. -/
abbrev Octet := BitVec 8
/-- A 16-bit sequence or check. -/
abbrev Half := BitVec 16
/-- A 32-bit stamp, sample count, offset or ring time, kept modulo 2^32 (00_scope.md, Arithmetic on counts). -/
abbrev Word := BitVec 32
/-- A station address as it stands in the low five bits of an octet (R7). -/
abbrev Address := BitVec 5
/-- A stream ID, 0 to 63 (R9). -/
abbrev StreamId := BitVec 6
/-- One audio sample: a two's complement value of 16 or 24 bits, held as the integer it stands for (R10, R90, R121). -/
abbrev Sample := Int

/-- The difference of two counts read as a signed 32-bit value (00_scope.md, Arithmetic on counts). -/
def signedDiff (a b : Word) : Int := (a - b).toInt

end Sys2Proof
end

