-- ==== Sys2Proof/Syntax.lean ====
section
/-! DEFINITION. The commands of the CT416: one constructor of `Instr` for each row of spec/opcode_table.json, with
the operands its rule gives it. -/

namespace Sys2Proof

/-- The role strap (R177). -/
inductive Role where
  | venue
  | gallery
  deriving DecidableEq, Repr

/-- The straps latched at the release of RESET_N (R177). -/
structure Straps where
  /-- ADDR0 to ADDR4, ADDR0 the least significant. -/
  address  : Address
  role     : Role
  /-- CLKSRC: high is EXTERNAL. -/
  external : Bool
  /-- MAINT: high is set. -/
  maint    : Bool
  deriving DecidableEq, Repr

/-- A line unit (R1). -/
inductive LineUnit where
  | data (o : Octet)
  | idle
  | start
  | finish   -- END
  | abort
  deriving DecidableEq, Repr

/-- What one unit time of the receive line brings: a valid unit, a code violation, or no signal at all
(02_ring_attachment.md, Watching the receive line). -/
inductive LineEvent where
  | unit (u : LineUnit)
  | violation
  | silence
  deriving DecidableEq, Repr

/-- The commands: the operations and events of spec/opcode_table.json, in the table's order. -/
inductive Instr where
  | resetAsserted
  | resetAbortComplete
  | resetReleased (straps : Straps)
  | configurationLoadEnd
  | lineUnitReceived (e : LineEvent)
  | upstreamLossDeclaration
  | upstreamRestoral
  | joinHoldoffExpiry
  | attach
  | frameArrival
  | txGapComplete
  | repeatFrameStart
  | ownFrameStart
  | frameEndSent
  | leaveDrainComplete
  | leaveLimitExpiry
  | leaveAbortComplete
  | returnTimeout
  | announceTimerExpiry
  /-- The peer address 1 to 30 whose entry expires. -/
  | peerExpiry (address : Nat)
  /-- The REFCLK periods that pass before the edge. -/
  | wclkEdge (periods : Nat)
  | wordClockLoss
  | dividerIncrement
  | qualificationRunSilence
  /-- Each slot's bits as shifted in, the first bit most significant; slots and bits not shifted in are absent or 0. -/
  | clockingFrameComplete (port : Fin 2) (slots : List (BitVec 32))
  /-- Each slot's bits as shifted in, the first bit most significant; fewer than 8 slots are a partial frame. -/
  | captureFrameReceived (port : Fin 2) (slots : List (BitVec 32))
  | blockTick
  | blockBoundary (n : Fin 16)
  | runOutEnd (n : Fin 16)
  | playoutFrameSync (port : Fin 4)
  /-- The raw samples of the 16 inputs, bit i set while input i is pressed. -/
  | keyScan (raw : BitVec 16)
  | fallbackTimerExpiry (p : Fin 4)
  | flashTimerToggle
  | readStation
  | readPeers
  | readStream (n : Octet)
  | readSource (n : Octet)
  | readCounters
  | readEvents
  | clearSeen
  | zeroCounters
  | restartRing
  | identify
  | readConfig
  | writeConfig (octets : List Octet)
  | writeConfigPageReady
  | writeConfigBusyTimeout
  | writeConfigReadbackEnd
  | verifyConfig (octets : List Octet)
  | unsupportedRequest
  | serviceTransactionEnd
  deriving DecidableEq, Repr

end Sys2Proof
end

