-- ==== Sys2Proof/WellFormed.lean ====
section
/-! DEFINITION. Which commands are well formed: operands within the ranges the manual gives them. The ports, positions
and subscriptions carry their ranges in their types. A command that is not well formed names an event that cannot
come about, and changes nothing (log entry 6). -/

namespace Sys2Proof

/-- Station addresses of peers are 1 to 30 (R7, R72). -/
def wfAddress (a : Nat) : Bool := 1 ≤ a && a ≤ 30

/-- A sample frame of a capture port has 8 time slots (R90). -/
def wfSlots (slots : List (BitVec 32)) : Bool := slots.length ≤ 8

/-- The well-formed commands. -/
def Instr.wellFormed : Instr → Bool
  | .peerExpiry a => wfAddress a
  | .clockingFrameComplete _ slots => wfSlots slots
  | .captureFrameReceived _ slots => wfSlots slots
  | .resetAsserted | .resetAbortComplete | .resetReleased _ | .configurationLoadEnd
  | .lineUnitReceived _ | .upstreamLossDeclaration | .upstreamRestoral | .joinHoldoffExpiry
  | .attach | .frameArrival | .txGapComplete | .repeatFrameStart | .ownFrameStart | .frameEndSent
  | .leaveDrainComplete | .leaveLimitExpiry | .leaveAbortComplete | .returnTimeout
  | .announceTimerExpiry | .wclkEdge _ | .wordClockLoss | .dividerIncrement
  | .qualificationRunSilence | .blockTick | .blockBoundary _ | .runOutEnd _
  | .playoutFrameSync _ | .keyScan _ | .fallbackTimerExpiry _ | .flashTimerToggle | .readStation
  | .readPeers | .readStream _ | .readSource _ | .readCounters | .readEvents | .clearSeen
  | .zeroCounters | .restartRing | .identify | .readConfig | .writeConfig _
  | .writeConfigPageReady | .writeConfigBusyTimeout | .writeConfigReadbackEnd | .verifyConfig _
  | .unsupportedRequest | .serviceTransactionEnd => true

end Sys2Proof
end

