-- ==== Sys2Proof/Decode.lean ====
section
/-! DEFINITION. The words of the opcode table. spec/opcode_table.json gives none of its 51 rows any bits, so no word
spells a command (12_service_port.md names requests without giving their octets); log entry 8. -/

namespace Sys2Proof

/-- The command a word of the opcode table spells: none, for the table gives no row any bits. -/
def decodeTableWord (_nbits _w : Nat) : Option Instr := none

end Sys2Proof
end

