-- ==== Sys2Proof/Config.lean ====
section
/-! DEFINITION. The fixed figures of the manual: the model's instants, durations, capacities and codes;
and the one free value, the order in which events of one instant are taken. -/

namespace Sys2Proof.Config

/-- The model counts time in instants of 1/76.8 GHz, of which a unit time (R1, 40 ns) is 3072. -/
def unitTime : Nat := 3072
/-- A REFCLK period, 1/24.576 MHz (00_scope.md, Signal summary), in instants. -/
def refPeriod : Nat := 3125
/-- A microsecond (R51) in instants. -/
def microsecond : Nat := 76800
/-- A millisecond in instants. -/
def millisecond : Nat := 76800000

/-- Unit times without a valid unit that make upstream loss (R20). -/
def lossUnits : Nat := 64
/-- Consecutive valid units that make restoral (R20). -/
def restoralUnits : Nat := 256
/-- The ceiling of the idle-run count (R19). -/
def idleRunCeiling : Nat := 255
/-- The idle run at which a joining station attaches (R23). -/
def joinIdleRun : Nat := 32
/-- The idle run that completes a drain (R28). -/
def drainIdleRun : Nat := 48
/-- The join holdoff in ms (R23). -/
def joinHoldoffMs : Nat := 800
/-- The leave limit in ms (R29). -/
def leaveLimitMs : Nat := 50
/-- ABORT units sent for a reset during transmission (R32). -/
def resetAbortUnits : Nat := 8
/-- ABORT units sent at the leave limit (R29). -/
def leaveAbortUnits : Nat := 1
/-- IDLE units between two frames sent (R2, R41). -/
def gapUnits : Nat := 4
/-- The largest frame in octets (R5, R10, R15). -/
def maxFrame : Nat := 1167
/-- The smallest frame in octets (R15). -/
def minFrame : Nat := 11
/-- The repeat queue in octets (R39). -/
def repeatCapacity : Nat := 4096
/-- The transit list in entries (R52). -/
def transitCapacity : Nat := 128
/-- The expired list in identities (R59). -/
def expiredCapacity : Nat := 16
/-- The cue queue in cues (R48). -/
def cueCapacity : Nat := 4
/-- The own audio queue in frames (R47). -/
def audioCapacity : Nat := 8
/-- A stream context's queue in blocks (R107). -/
def queueCapacity : Nat := 8
/-- The hop count of an own frame as it starts (R4, R8). -/
def startHops : Nat := 31
/-- The address-conflict count that halts the station (R61). -/
def conflictLimit : Nat := 3
/-- The ceiling of the address-conflict count (R61). -/
def conflictCeiling : Nat := 255
/-- The ceiling of every counter (R192). -/
def counterCeiling : Nat := 65535
/-- The destination that names every station (R13). -/
def everyStation : Nat := 31
/-- The position that names all four positions (R13). -/
def allPositions : Nat := 15
/-- The model code (R11). -/
def modelCode : Half := 0x0416#16

/-- REFCLK periods of one increment of the internal divider (R87, R89). -/
def dividerPeriods : Nat := 512
/-- The shortest good interval of WCLK, and the shortest counted one (R87, R88). -/
def goodMin : Nat := 448
/-- The longest good interval of WCLK (R87). -/
def goodMax : Nat := 576
/-- The silence that returns the qualification run to 0 (R89). -/
def silencePeriods : Nat := 577
/-- The silence that is word clock loss (R88). -/
def clockLossPeriods : Nat := 2048
/-- The qualification run that returns the count to the word clock (R89). -/
def qualifyingRun : Nat := 48

/-- The octets of the configuration record (R178, R183). -/
def recordLength : Nat := 271
/-- The octets of a page of the configuration memory (R184). -/
def pageLength : Nat := 32
/-- The pages of a record write (R186). -/
def pageCount : Nat := 9
/-- The longest time the memory may stay busy after a page, in ms (R186). -/
def pageBusyMs : Nat := 20
/-- The latest end of the record's read after the release, in ms (R178). -/
def loadLimitMs : Nat := 1
/-- Half the period of the 2 Hz flash timer, in ms (R160). -/
def flashMs : Nat := 250

/-- FREE VALUE (log entry 4). Which of several events that come about at one instant the station takes
first, where the manual says that either may be taken first (R44, R58, R78, R137 and others). Nothing
constrains it: it is applied to a counter that grows at each such choice. -/
opaque tieBreak : Nat → Nat

end Sys2Proof.Config
end

