-- ==== Sys2Proof/Machine/State.lean ====
section
/-! DEFINITION. The state of the station, block by block, as plain data; the machine right after reset; and the (empty)
lists of reasons to stop. -/

namespace Sys2Proof.Machine

/-! ## Frames (01_ring_frames_and_line_units.md) -/

/-- The format octet's parts (R9, R16). -/
structure Format where
  /-- channels minus 1 -/
  channelCode : BitVec 2
  /-- set for 24-bit samples -/
  wide        : Bool
  blockCode   : BitVec 2
  substituted : Bool
  /-- the class: set for TALKBACK, clear for PROGRAMME -/
  talkback    : Bool
  deriving DecidableEq, Repr

/-- The claim state of a sourced stream (R80). -/
inductive Claim where
  | held
  | yielded
  deriving DecidableEq, Repr

/-- One entry of an ANNOUNCE's stream list (R12). -/
structure StreamEntry where
  id     : StreamId
  format : Format
  claim  : Claim
  deriving DecidableEq, Repr

/-- An AUDIO frame as its builder supplies it (R9, R98). -/
structure AudioFrame where
  origin  : Address
  stream  : StreamId
  seq     : Half
  stamp   : Word
  format  : Format
  payload : List Octet
  deriving DecidableEq, Repr

/-- The three state flags of an ANNOUNCE (R11). -/
structure StateFlags where
  ringClosed   : Bool
  upstreamLoss : Bool
  leaving      : Bool
  deriving DecidableEq, Repr

/-- An ANNOUNCE frame as its builder supplies it (R11, R68). -/
structure AnnounceFrame where
  origin  : Address
  seq     : Octet
  role    : Role
  period  : Half
  flags   : StateFlags
  name    : Vector Octet 10
  model   : Half
  check   : Half
  streams : List StreamEntry
  deriving DecidableEq, Repr

/-- The six cue codes (R13). -/
inductive CueCode where
  | talkRequest
  | talkClear
  | onAir
  | offAir
  | talkbackOpen
  | talkbackClose
  deriving DecidableEq, Repr

/-- A CUE frame as its builder supplies it (R13, R163). -/
structure CueFrame where
  origin      : Address
  destination : Address
  code        : CueCode
  position    : BitVec 4
  tag         : Octet
  deriving DecidableEq, Repr

/-- A frame of one of the three kinds (R7). -/
inductive Frame where
  | audio (f : AudioFrame)
  | announce (f : AnnounceFrame)
  | cue (f : CueFrame)
  deriving DecidableEq, Repr

/-- A frame as the receive side keeps it: at most 1167 octets, and how many arrived (R5). -/
structure RxFrame where
  octets : List Octet
  length : Nat
  deriving DecidableEq, Repr

/-- The line interface's receive side (R5, R6). -/
structure Receiver where
  /-- the frame open now -/
  opened : Option RxFrame
  /-- frames closed by an END whose arrival is still to be taken, oldest first -/
  closed : List RxFrame
  deriving DecidableEq, Repr

/-! ## Attachment (02_ring_attachment.md) -/

/-- The six attachment states (R18). -/
inductive AttachmentState where
  | detached
  | joining
  | proving
  | active
  | leaving
  | halted
  deriving DecidableEq, Repr

/-- The ring closure indicator (R22, R26). -/
inductive Closure where
  | closed
  | opened   -- OPEN
  deriving DecidableEq, Repr

/-- The upstream-signal state (R20). -/
inductive Upstream where
  | present
  | loss
  deriving DecidableEq, Repr

/-- Why the station is leaving (R27). -/
inductive LeaveCause where
  | restart
  | conflict
  deriving DecidableEq, Repr

/-- The Attachment Controller. -/
structure Atc where
  state      : AttachmentState
  /-- the ATTACH output, set while asserted (R17) -/
  attach     : Bool
  idleRun    : Nat
  signalSeen : Bool
  upstream   : Upstream
  /-- unit times since the last valid unit, counted in PRESENT (R20) -/
  quietUnits : Nat
  /-- consecutive valid units, counted in LOSS (R20) -/
  validRun   : Nat
  /-- the instant at which the last unit time of the receive line ended -/
  unitEnd    : Nat
  /-- the join holdoff timer: stopped, or the instant it started (R23) -/
  holdoff    : Option Nat
  /-- the holdoff has expired in JOINING and the ATC waits for an idle run (R23) -/
  awaitIdle  : Bool
  /-- the ATC attaches at this instant (R23) -/
  attachDue  : Bool
  /-- the leave timer: stopped, or the instant it started (R27) -/
  leaveTimer : Option Nat
  leaveCause : Option LeaveCause
  /-- the END of the final announce has been sent: condition 1 of R28 -/
  finalSent  : Bool
  closure    : Closure
  deriving DecidableEq, Repr

/-! ## Forwarding and insertion (03_forwarding_and_insertion.md) -/

/-- A frame on the transmit line: its octets with transit octet and check (R4), and whether it is the final announce. -/
structure LineFrame where
  octets : List Octet
  final  : Bool
  deriving DecidableEq, Repr

/-- A frame that the TX arbiter can choose to start: the head of the repeat queue, or an own frame by its kind (R42,
R43). -/
inductive FrameChoice where
  | repeatHead
  | cue
  | announce
  | audio
  deriving DecidableEq, Repr

/-- The TX arbiter (R41), with an instant from which the transmit line's unit times run: that at which GAP was last
entered, or that of the frame's START (log entry 22). In READY it holds the frame chosen, none while R42 allows none; its
START goes out in the next unit time (R41, R44). -/
inductive Arbiter where
  | disabled
  | gap (since : Nat)
  | ready (since : Nat) (chosen : Option FrameChoice)
  | sending (frame : LineFrame) (since : Nat)
  deriving DecidableEq, Repr

/-- ABORT units sent in place of a frame's units from its next unit on (R3, R29, R32). -/
structure Cut where
  /-- the instant at which the first ABORT unit begins -/
  since   : Nat
  byReset : Bool
  deriving DecidableEq, Repr

/-- The Ring Forwarder. -/
structure Rfw where
  /-- whole frames awaiting forwarding, oldest first, transit octet rewritten (R38, R39) -/
  repeats : List (List Octet)
  arbiter : Arbiter
  cut     : Option Cut
  deriving DecidableEq, Repr

/-- The Insertion Queues (R47, R48, R49), oldest first. -/
structure Inq where
  cues  : List CueFrame
  slot  : Option AnnounceFrame
  audio : List AudioFrame
  deriving DecidableEq, Repr

/-! ## The transit list (04_the_transit_list.md) -/

/-- The identity of an own frame (R35, R52). -/
inductive Identity where
  | audio (stream : StreamId) (seq : Half)
  | announce (seq : Octet)
  | cue (tag : Octet)
  deriving DecidableEq, Repr

/-- What an outcome tells the POS of a cue (R48, R64). -/
structure CueReport where
  tag      : Octet
  code     : CueCode
  position : BitVec 4
  deriving DecidableEq, Repr

/-- A transit entry (R52). -/
structure Entry where
  identity : Identity
  start    : Word
  /-- for a CUE entry, the cue's code and position with its tag; absent for the other kinds -/
  cue      : Option CueReport
  deriving DecidableEq, Repr

/-- The heard state of a sourced stream (R65). -/
inductive Heard where
  | unknown
  | heard
  | unheard
  deriving DecidableEq, Repr

/-- The Transit Monitor. -/
structure Trm where
  transit   : List Entry
  expired   : List Identity
  conflicts : Nat
  lastTrip  : Word
  maxTrip   : Word
  heard     : Vector Heard 4
  deriving DecidableEq, Repr

/-! ## Presence (05_presence_and_stream_claims.md) -/

/-- A place of the peer table (R72). -/
structure Peer where
  present  : Bool
  role     : Role
  name     : Vector Octet 10
  model    : Half
  check    : Half
  /-- the advertised period, clamped, in ms -/
  period   : Nat
  lastSeq  : Octet
  flags    : StateFlags
  streams  : List StreamEntry
  lastTime : Word
  deriving DecidableEq, Repr

/-- The Presence Unit. -/
structure Pru where
  /-- place i is station address i + 1 -/
  peers    : Vector Peer 30
  /-- stopped, or the instant of the attach or of the last expiry taken (R69) -/
  timer    : Option Nat
  seq      : Octet
  claims   : Vector Claim 4
  /-- the claimant last reported for each subscription (R82) -/
  reported : Vector (Option Address) 16
  deriving DecidableEq, Repr

/-! ## Capture (06_capture_and_block_assembly.md) -/

/-- The clock source state (R87). -/
inductive ClockState where
  | internal
  | wordclock
  | holdover
  deriving DecidableEq, Repr

/-- The status of a capture port for one block (R94). -/
inductive BlockStatus where
  | ok
  | short
  | long
  | fault
  deriving DecidableEq, Repr

/-- The 8 samples of one sample frame of a port (R90, R143). -/
abbrev PortFrame := Vector Sample 8

/-- One capture port's block store (R90 to R92). -/
structure PortStore where
  /-- the frames placed for the block in progress, from index 0 -/
  frames     : List PortFrame
  frameCount : Nat
  /-- a CLOCKING port's frame being shifted in: the count value of its increment (R91) -/
  shifting   : Option Word
  /-- the frame most recently placed (R155) -/
  last       : Option PortFrame
  /-- the last block status (R94) -/
  status     : BlockStatus
  deriving DecidableEq, Repr

/-- The Capture Unit. -/
structure Cap where
  count      : Word
  clock      : ClockState
  /-- the instant of the divider's last increment or start (R87, R89) -/
  dividerAt  : Nat
  /-- the previous rising edge of WCLK since the release (R87) -/
  lastEdge   : Option Nat
  /-- the last counted edge, in WORDCLOCK (R88) -/
  countedAt  : Nat
  /-- the qualification run of HOLDOVER (R89); 0 in WORDCLOCK, where the spec gives no value (DESIGN CHOICE, log entry 30) -/
  qualRun    : Nat
  /-- the capture and playout ports are RUNNING; they start together at the opening tick (R93, R143) -/
  running    : Bool
  stores     : Vector PortStore 2
  /-- the count has come to a multiple of B and its block tick is still to be taken (R93) -/
  tickDue    : Bool
  /-- the stamp of the block in progress (R91) -/
  blockStamp : Word
  seqs       : Vector Half 4
  /-- the recorded gates, set while open (R96) -/
  gates      : Vector (Vector Bool 4) 4
  deriving DecidableEq, Repr

/-! ## Reception, alignment and playout (07, 08, 09) -/

/-- The reception state of a stream (R105). -/
inductive StreamState where
  | waiting
  | acquiring
  | locked
  deriving DecidableEq, Repr

/-- A slip decided and not yet applied (R136). -/
inductive Slip where
  | none
  | drop
  | repeated   -- REPEAT
  deriving DecidableEq, Repr

/-- A block record (R107, R121). -/
structure BlockRecord where
  stamp       : Word
  seq         : Half
  channels    : Nat
  substituted : Bool
  lockMark    : Bool
  /-- sample frames in order, each with the samples of its channels, as 24-bit values -/
  samples     : List (List Sample)
  deriving DecidableEq, Repr

/-- A fade of an output block (R149). -/
inductive Fade where
  | none
  | into   -- IN
  | out
  deriving DecidableEq, Repr

/-- The current block of output (R146). -/
structure OutputBlock where
  source : Option BlockRecord
  fade   : Fade
  deriving DecidableEq, Repr

/-- A run-out in progress: the block it fades out (none for a silent one) and the samples sent (R152). -/
structure RunOut where
  block : Option BlockRecord
  sent  : Nat
  deriving DecidableEq, Repr

/-- A stream context with its playout record (R105, R146). -/
structure Context where
  state        : StreamState
  origin       : Option Address
  expSeq       : Half
  expStamp     : Word
  r            : Word
  rPlay        : Word
  /-- E, in sixteenths of a sample -/
  margin       : Int
  holdoff      : Nat
  slip         : Slip
  lateRun      : Nat
  earlyRun     : Nat
  queue        : List BlockRecord
  counters     : Vector Nat 11
  nextBoundary : Word
  output       : OutputBlock
  conceal      : Nat
  lastPlayed   : Option BlockRecord
  runOut       : Option RunOut
  /-- played since lock (R151) -/
  played       : Bool
  /-- the stream channel values of the present count (R146) -/
  values       : Vector Sample 4
  /-- a boundary has been taken at the present count, and its index 0 sent (R147) -/
  begun        : Bool
  deriving DecidableEq, Repr

/-- A position's headphone selection (R154, R173). -/
inductive Selection where
  | sidetone
  | talkback
  | programme   -- RETURN
  deriving DecidableEq, Repr

/-- The Playout Engine's state for the station (R144, R145, R156). -/
structure Ply where
  /-- the source in force of each position's headphone channel; none is silence -/
  inForce  : Vector (Option Selection) 4
  /-- the channel values of the present count (R145) -/
  channels : Vector Sample 32
  /-- the channel values as they last stood in the count before (R144) -/
  before   : Vector Sample 32
  /-- the 8 values of each playout port's frame, begun at its last frame sync; none before the first (R144) -/
  frames   : Vector (Option PortFrame) 4
  deriving DecidableEq, Repr

/-! ## Positions (10_commentary_positions_and_cues.md) -/

/-- The TALK lamp (R161). -/
inductive TalkLamp where
  | off
  | flash
  | on
  deriving DecidableEq, Repr

/-- A fallback timer: standing at 0, running since an instant, or at the fallback time (R170). -/
inductive FallbackTimer where
  | idle
  | running (since : Nat)
  | reached
  deriving DecidableEq, Repr

/-- A venue position's record, its state (R161). -/
structure Position where
  onAir     : Bool
  talk      : TalkLamp
  tag       : Option Octet
  talkback  : Bool
  timer     : FallbackTimer
  latch     : Bool
  selection : Selection
  deriving DecidableEq, Repr

/-- The Position Controller. -/
structure Pos where
  /-- bit i set while input i is HELD (R159) -/
  held      : BitVec 16
  agreement : Vector Nat 16
  /-- the instant of the last scan, or of the good load (R158) -/
  scanAt    : Nat
  cueTag    : Octet
  /-- the last tag seen of origin i + 1 (R166) -/
  lastTags  : Vector (Option Octet) 30
  positions : Vector Position 4
  /-- bit l set while gallery lamp l is ON (R175) -/
  lamps     : BitVec 16
  flashLit  : Bool
  /-- the instant of the flash timer's last change (R160) -/
  flashAt   : Nat
  deriving DecidableEq, Repr

/-! ## Start-up and configuration (11_start_up_and_configuration.md) -/

/-- The block length B (R9, R125). -/
inductive BlockLength where
  | b24
  | b48
  | b96
  deriving DecidableEq, Repr

/-- A gating mode (R96). -/
inductive Gating where
  | always   -- OPEN
  | onAir (p : Fin 4)
  | talk (p : Fin 4)
  deriving DecidableEq, Repr

/-- A capture port's settings (R90). -/
structure CapturePort where
  listen    : Bool
  /-- slot width in bits: 16, 24 or 32 -/
  slotWidth : Nat
  /-- 24-bit samples; clear for 16 -/
  wide      : Bool
  deriving DecidableEq, Repr

/-- A playout port's settings (R143). -/
structure PlayoutPort where
  listen    : Bool
  /-- slot width in bits: 24 or 32 -/
  slotWidth : Nat
  deriving DecidableEq, Repr

/-- A channel of a sourced stream: its capture channel and gating mode (R96, R98). -/
structure SourceChannel where
  capture : Fin 16
  gating  : Gating
  deriving DecidableEq, Repr

/-- A sourced stream as configured (R98). -/
structure Source where
  id       : StreamId
  wide     : Bool
  talkback : Bool
  /-- 1 to 4 channels, channel 0 first -/
  channels : List SourceChannel
  deriving DecidableEq, Repr

/-- The use of a subscribed stream at the positions (R104). -/
inductive Designation where
  | none
  | programme   -- RETURN
  | talkback
  deriving DecidableEq, Repr

/-- A subscription (R104). -/
structure Subscription where
  id          : StreamId
  designation : Designation
  map         : Vector (Option (Fin 32)) 4
  deriving DecidableEq, Repr

/-- A position record's configured fields (R161). -/
structure PositionSetup where
  mic       : Fin 16
  headphone : Fin 32
  returnCh  : Fin 4
  talkCh    : Fin 4
  deriving DecidableEq, Repr

/-- The use of a gallery input (R174). -/
inductive InputUse where
  | unused
  | tally
  | talk
  deriving DecidableEq, Repr

/-- A gallery input's mapping (R174). -/
structure GalleryInput where
  use      : InputUse
  venue    : Address
  position : BitVec 4
  deriving DecidableEq, Repr

/-- The configuration image after clamping (R181 to R183). -/
structure Image where
  name          : Vector Octet 10
  block         : BlockLength
  period        : Nat
  returnTimeout : Nat
  window        : Nat
  target        : Nat
  shift         : Nat
  slipHoldoff   : Nat
  limit         : Nat
  fallback      : Nat
  /-- scans per second -/
  scanRate      : Nat
  debounce      : Nat
  gallery       : Address
  /-- the attention mask, bit f for event flag f (R183; log entry 27 for its octet order) -/
  mask          : BitVec 18
  capture       : Vector CapturePort 2
  playout       : Vector PlayoutPort 4
  sources       : List Source
  subscriptions : List Subscription
  positions     : Vector PositionSetup 4
  inputs        : Vector GalleryInput 16
  /-- none for an unused lamp -/
  lamps         : Vector (Option (Address × Fin 4)) 16
  check         : Half
  deriving DecidableEq, Repr

/-- The load state (R178). -/
inductive LoadState where
  | loading
  | loaded
  | faulted
  | maintenance
  deriving DecidableEq, Repr

/-- The cause of a configuration fault (R180). -/
inductive FaultCause where
  | badAddress
  | noMemory
  | checkMismatch
  | badCode
  | badIndex
  | duplicateId
  | doubleAssignment
  deriving DecidableEq, Repr

/-- The configuration memory: (address, octet) pairs, addresses strictly rising, none reading FFh. -/
abbrev Memory := List Host.Cell

/-- Where a WRITE_CONFIG in progress stands (R186). -/
inductive WritePhase where
  /-- page k has been written at that instant and the memory is busy -/
  | page (k : Nat) (since : Nat)
  | readback
  deriving DecidableEq, Repr

/-- A WRITE_CONFIG in progress (R186). -/
structure Write where
  record : List Octet
  phase  : WritePhase
  deriving DecidableEq, Repr

/-- The Start-up Controller, with the straps, RESET_N and the memory beside the part. -/
structure Stc where
  /-- RESET_N is asserted -/
  held   : Bool
  straps : Straps
  load   : LoadState
  cause  : Option FaultCause
  image  : Option Image
  memory : Memory
  write  : Option Write
  deriving DecidableEq, Repr

/-! ## Service port (12_service_port.md) -/

/-- The 18 event flags, in the order of the attention mask (R183, R190). -/
inductive EventFlag where
  | ringClosed
  | ringOpened
  | upstreamLoss
  | upstreamRestored
  | peerArrived
  | peerExpired
  | claimYielded
  | claimResumed
  | addressConflict
  | streamLocked
  | streamUnlocked
  | streamRelocked
  | captureFault
  | clockHoldover
  | cueUndelivered
  | fallbackLatched
  | audioDropped
  | repeatOverflow
  deriving DecidableEq, Repr

/-- The counters of READ_COUNTERS outside the stream contexts, in its order (R192). -/
inductive Counter where
  | checkFailures
  | unknownKinds
  | abortedFrames
  | orphansRemoved
  | repeatOverflows
  | framesForwarded
  | ownStarted
  | audioDropped
  | cuesRefused
  | announcesReplaced
  | ownDiscarded
  | ownReturned
  | skipLosses
  | timeoutLosses
  | lateReturns
  | foreignFrames
  | abandoned
  | unheard (i : Fin 4)
  | announcesMissed
  | holdoverEntries
  | irregular (q : Fin 2)
  | cuesAccepted
  | cueDuplicates
  | cuesIgnored
  deriving DecidableEq, Repr

/-- The eleven counters of a stream context, in the order of R105. -/
inductive ContextCounter where
  | accepted
  | lost
  | duplicate
  | formatRefused
  | unclaimed
  | late
  | early
  | relocks
  | dropSlips
  | repeatSlips
  | concealed
  deriving DecidableEq, Repr

/-- READ_STATION's items (R189). -/
structure StationAnswer where
  address   : Address
  role      : Role
  external  : Bool
  load      : LoadState
  cause     : Option FaultCause
  state     : AttachmentState
  closure   : Closure
  upstream  : Upstream
  clock     : ClockState
  lastTrip  : Word
  maxTrip   : Word
  conflicts : Nat
  statuses  : Vector BlockStatus 2
  deriving DecidableEq, Repr

/-- What READ_STREAM shows of a queued block (R123). -/
structure QueuedBlock where
  stamp       : Word
  seq         : Half
  channels    : Nat
  substituted : Bool
  lockMark    : Bool
  deriving DecidableEq, Repr

/-- READ_STREAM's items for a configured subscription (R123). -/
structure StreamAnswer where
  subscription : Subscription
  state        : StreamState
  origin       : Option Address
  expSeq       : Half
  expStamp     : Word
  r            : Word
  rPlay        : Word
  margin       : Int
  holdoff      : Nat
  slip         : Slip
  lateRun      : Nat
  earlyRun     : Nat
  queue        : List QueuedBlock
  counters     : List Nat
  deriving DecidableEq, Repr

/-- READ_SOURCE's items for a configured sourced stream (R189). -/
structure SourceAnswer where
  id      : StreamId
  claim   : Claim
  heard   : Heard
  seq     : Half
  unheard : Nat
  deriving DecidableEq, Repr

/-- IDENTIFY's record check status (R185). -/
inductive CheckStatus where
  | agrees   -- MATCH
  | mismatch
  | noMemory
  deriving DecidableEq, Repr

/-- IDENTIFY's items (R185). -/
structure IdentifyAnswer where
  model    : Half
  address  : Address
  role     : Role
  external : Bool
  stored   : Half
  computed : Half
  status   : CheckStatus
  deriving DecidableEq, Repr

/-- The data after an ACK. -/
inductive AnswerData where
  | none
  | station (a : StationAnswer)
  | peers (table : Vector Peer 30)
  /-- `none`: no subscription is configured at that index -/
  | stream (a : Option StreamAnswer)
  /-- `none`: no sourced stream is configured at that index -/
  | source (a : Option SourceAnswer)
  | counters (all : List Nat)
  | events (flags : BitVec 18)
  | identify (a : IdentifyAnswer)
  | record (octets : List Octet)
  deriving DecidableEq, Repr

/-- What the station shifts out (R184, R188). -/
inductive Answer where
  | nak
  | ack (d : AnswerData)
  /-- WAIT octets, while a WRITE_CONFIG's outcome is pending -/
  | wait
  deriving DecidableEq, Repr

/-- The Service Port. -/
structure Svp where
  flags     : BitVec 18
  seen      : BitVec 18
  counters  : Vector Nat 28
  /-- the answer of the open transaction -/
  answer    : Option Answer
  /-- the open transaction is that of the WRITE_CONFIG in progress (R186) -/
  writeOpen : Bool
  deriving DecidableEq, Repr

/-! ## The machine -/

/-- The state of the station. -/
structure State where
  /-- the model's instant, in units of 1/76.8 GHz -/
  now        : Nat
  /-- the instant RESET_N was last released -/
  releasedAt : Nat
  atc        : Atc
  rx         : Receiver
  rfw        : Rfw
  inq        : Inq
  trm        : Trm
  pru        : Pru
  cap        : Cap
  srx        : Vector Context 16
  ply        : Ply
  pos        : Pos
  stc        : Stc
  svp        : Svp
  /-- how many free choices among events of one instant have been made (log entry 4) -/
  ties       : Nat
  /-- the commands that are waiting, oldest first -/
  pending    : List Instr
  deriving DecidableEq, Repr

/-- Reasons for which the station stops with a fault. There is none: the manual names no condition in which the
station stops taking events, and a configuration fault or a halt is a state in which it goes on taking them
(R31, R180). -/
inductive Fault where
  deriving DecidableEq, Repr

/-- Reasons for which the model gives a command no meaning. -/
inductive Refusal where
  /-- Raised by an arm of `exec` whose command has no meaning yet; no arm of this model raises it. Safe: a refused
  command proves nothing of the station. -/
  | notModelled (mnemonic : String)
  deriving DecidableEq, Repr

/-! ## Reset values -/

/-- The ATC after device reset (R19, R20, R22; table "Attachment items after reset and restart"). -/
def Atc.reset : Atc where
  state := .detached
  attach := false
  idleRun := 0
  signalSeen := false
  upstream := .loss
  quietUnits := 0
  validRun := 0
  unitEnd := 0
  holdoff := none
  awaitIdle := false
  attachDue := false
  leaveTimer := none
  leaveCause := none
  finalSent := false
  closure := .opened

/-- After a device reset no frame is open (R6). -/
def Receiver.reset : Receiver := ⟨none, []⟩

/-- The RFW after device reset (R39, R41). -/
def Rfw.reset : Rfw := ⟨[], .disabled, none⟩

/-- The INQ after device reset (R47 to R49). -/
def Inq.reset : Inq := ⟨[], none, []⟩

/-- The TRM after device reset (R67). -/
def Trm.reset : Trm := ⟨[], [], 0, 0#32, 0#32, Vector.replicate 4 .unknown⟩

/-- A place of the peer table at its reset values (R72). -/
def Peer.reset : Peer where
  present := false
  role := .venue
  name := Vector.replicate 10 0x20#8
  model := 0#16
  check := 0#16
  period := 0
  lastSeq := 0#8
  flags := ⟨false, false, false⟩
  streams := []
  lastTime := 0#32

/-- The PRU after device reset (R85). -/
def Pru.reset : Pru where
  peers := Vector.replicate 30 Peer.reset
  timer := none
  seq := 0#8
  claims := Vector.replicate 4 .held
  reported := Vector.replicate 16 none

/-- A capture port after device reset (R94, R103). -/
def PortStore.reset : PortStore := ⟨[], 0, none, none, .ok⟩

/-- The CAP after device reset (R103). The clock source state is set by the strap at the release (R87). DESIGN CHOICE
(log entry 1): INTERNAL before it, and the gates closed before the opening tick records them. -/
def Cap.reset : Cap where
  count := 0#32
  clock := .internal
  dividerAt := 0
  lastEdge := none
  countedAt := 0
  qualRun := 0
  running := false
  stores := Vector.replicate 2 PortStore.reset
  tickDue := false
  blockStamp := 0#32
  seqs := Vector.replicate 4 0#16
  gates := Vector.replicate 4 (Vector.replicate 4 false)

/-- A stream context after device reset (R106, R141, R157). -/
def Context.reset : Context where
  state := .waiting
  origin := none
  expSeq := 0#16
  expStamp := 0#32
  r := 0#32
  rPlay := 0#32
  margin := 0
  holdoff := 0
  slip := .none
  lateRun := 0
  earlyRun := 0
  queue := []
  counters := Vector.replicate 11 0
  nextBoundary := 0#32
  output := ⟨none, .none⟩
  conceal := 0
  lastPlayed := none
  runOut := none
  played := false
  values := Vector.replicate 4 0
  begun := false

/-- The PLY after device reset (R145, R156). -/
def Ply.reset : Ply :=
  ⟨Vector.replicate 4 none, Vector.replicate 32 0, Vector.replicate 32 0, Vector.replicate 4 none⟩

/-- A position after device reset (R161). -/
def Position.reset : Position := ⟨false, .off, none, false, .idle, false, .programme⟩

/-- The POS after device reset (R176). -/
def Pos.reset : Pos where
  held := 0#16
  agreement := Vector.replicate 16 0
  scanAt := 0
  cueTag := 0#8
  lastTags := Vector.replicate 30 none
  positions := Vector.replicate 4 Position.reset
  lamps := 0#16
  flashLit := true
  flashAt := 0

/-- DESIGN CHOICE (log entry 1): the straps before the first release latches them. -/
def Straps.reset : Straps := ⟨0#5, .venue, false, false⟩

/-- The STC at an assertion of RESET_N (R178). DESIGN CHOICE (log entries 1 and 5): reset starts with RESET_N
asserted, and the memory erased. -/
def Stc.reset : Stc := ⟨true, Straps.reset, .loading, none, none, [], none⟩

/-- The SVP after device reset (R190, R192). -/
def Svp.reset : Svp := ⟨0#18, 0#18, Vector.replicate 28 0, none, false⟩

/-- The machine at device reset, with RESET_N asserted. -/
def State.reset : State where
  now := 0
  releasedAt := 0
  atc := Atc.reset
  rx := Receiver.reset
  rfw := Rfw.reset
  inq := Inq.reset
  trm := Trm.reset
  pru := Pru.reset
  cap := Cap.reset
  srx := Vector.replicate 16 Context.reset
  ply := Ply.reset
  pos := Pos.reset
  stc := Stc.reset
  svp := Svp.reset
  ties := 0
  pending := []

end Sys2Proof.Machine
end

