-- ==== Sys2Proof/Machine/Update.lean ====
section
/-! DEFINITION. The updates of the state, one per field. Their laws are in Sys2Proof/Laws/State.lean. -/

namespace Sys2Proof.Machine.State

/-- The state at another instant. -/
def withNow (s : State) (now : Nat) : State := { s with now := now }

/-- The state with another instant of the last release. -/
def withReleasedAt (s : State) (releasedAt : Nat) : State := { s with releasedAt := releasedAt }

/-- The state with another `atc`. -/
def withAtc (s : State) (atc : Atc) : State := { s with atc := atc }

/-- The state with another `rx`. -/
def withRx (s : State) (rx : Receiver) : State := { s with rx := rx }

/-- The state with another `rfw`. -/
def withRfw (s : State) (rfw : Rfw) : State := { s with rfw := rfw }

/-- The state with another `inq`. -/
def withInq (s : State) (inq : Inq) : State := { s with inq := inq }

/-- The state with another `trm`. -/
def withTrm (s : State) (trm : Trm) : State := { s with trm := trm }

/-- The state with another `pru`. -/
def withPru (s : State) (pru : Pru) : State := { s with pru := pru }

/-- The state with another `cap`. -/
def withCap (s : State) (cap : Cap) : State := { s with cap := cap }

/-- The state with another `srx`. -/
def withSrx (s : State) (srx : Vector Context 16) : State := { s with srx := srx }

/-- The state with another `ply`. -/
def withPly (s : State) (ply : Ply) : State := { s with ply := ply }

/-- The state with another `pos`. -/
def withPos (s : State) (pos : Pos) : State := { s with pos := pos }

/-- The state with another `stc`. -/
def withStc (s : State) (stc : Stc) : State := { s with stc := stc }

/-- The state with another `svp`. -/
def withSvp (s : State) (svp : Svp) : State := { s with svp := svp }

/-- The state with another `ties`. -/
def withTies (s : State) (ties : Nat) : State := { s with ties := ties }

/-- The state with another `pending`. -/
def withPending (s : State) (pending : List Instr) : State := { s with pending := pending }

end Sys2Proof.Machine.State
end

