-- ==== Sys2Proof/Machine/Ops.lean ====
section
/-! DEFINITION. The operations shared by all blocks: time, tables of like things, sums that rest at a ceiling, fades, and
the configuration memory. -/

namespace Sys2Proof.Machine

/-! ## Tables -/

/-- A table with one entry changed. -/
def modifyAt {α : Type} {n : Nat} (v : Vector α n) (i : Fin n) (f : α → α) : Vector α n :=
  v.set i.val (f v[i]) i.isLt

/-- A table with every entry changed alike. -/
def mapAll {α β : Type} {n : Nat} (f : α → β) (v : Vector α n) : Vector β n :=
  Vector.ofFn fun i => f v[i]

/-! ## Time -/

/-- The station's ring time: whole microseconds since the release of RESET_N, 32 bits (R51). -/
def State.ringTime (s : State) : Word :=
  if s.stc.held then 0#32 else BitVec.ofNat 32 ((s.now - s.releasedAt) / Config.microsecond)

/-- Time passes up to an instant, if it is still to come. -/
def State.waitUntil (s : State) (t : Nat) : State := s.withNow (max s.now t)

/-- The instant at which ring time will have grown by `us` microseconds. -/
def State.ringInstant (s : State) (us : Nat) : Nat :=
  if us = 0 then s.now
  else s.releasedAt + ((s.now - s.releasedAt) / Config.microsecond + us) * Config.microsecond

/-- The instant at which a ring time `start` is first more than `us` microseconds ago (R57, R77). -/
def State.ageInstant (s : State) (start : Word) (us : Nat) : Nat :=
  s.ringInstant ((us : Int) + 1 - signedDiff s.ringTime start).toNat

/-- What a command answers. -/
abbrev Result := Host.Outcome State Fault Refusal

/-- An event that comes about at an instant, if it comes about at all: time passes up to that instant and the event has
its effect; an event that does not come about changes nothing (log entry 6). -/
def State.takeEvent (s : State) (due : Option Nat) (effect : State → State) : Result :=
  match due with
  | none => .next s
  | some t => .next (effect (s.waitUntil t))

/-- The present instant for an event that comes about now if a condition holds. -/
def State.nowIf (s : State) (c : Bool) : Option Nat := if c then some s.now else none

/-- Whole REFCLK periods since an instant (R87). -/
def State.periodsSince (s : State) (t : Nat) : Nat := (s.now - t) / Config.refPeriod

/-- Whole unit times since an instant (R1). -/
def State.unitsSince (s : State) (t : Nat) : Nat := (s.now - t) / Config.unitTime

/-- The instant at which the next unit time begins of a line whose unit times run from an instant on: now, where one
begins now (R41; log entry 22). -/
def State.nextUnit (s : State) (since : Nat) : Nat :=
  since + (s.now - since + (Config.unitTime - 1)) / Config.unitTime * Config.unitTime

/-- The instant at which the next unit time of the transmit line begins: now, where one begins now; but a START goes out
whole, so after the START of a frame that starts now (R29, R32, R41; log entries 22 and 24). -/
def State.nextTxUnit (s : State) : Nat :=
  match s.rfw.arbiter with
  | .gap since | .ready since _ => s.nextUnit since
  | .sending _ since => s.nextUnit (since + Config.unitTime)
  | .disabled => s.now

/-! ## Arithmetic -/

/-- A count that rests at its ceiling (R19, R61, R192). -/
def addUpTo (ceiling a n : Nat) : Nat := min ceiling (a + n)

/-- A setting taken into its range (R181). -/
def clampTo (lo hi x : Nat) : Nat := max lo (min hi x)

/-- A faded sample of index i of a block of b: the exact product divided by b, truncated toward zero
(R97, R149). -/
def fadeSample (fade : Fade) (b i : Nat) (x : Sample) : Sample :=
  match fade with
  | .none => x
  | .out => (x * ((b : Int) - i)).tdiv b
  | .into => (x * ((i : Int) + 1)).tdiv b

/-- B of a block-length setting (R125). -/
def BlockLength.samples : BlockLength → Nat
  | .b24 => 24
  | .b48 => 48
  | .b96 => 96

/-- The block-length code (R16). -/
def BlockLength.code : BlockLength → BitVec 2
  | .b24 => 0#2
  | .b48 => 1#2
  | .b96 => 2#2

/-- The block length a code names (R16): code 3 names none. -/
def BlockLength.ofCode : BitVec 2 → Option BlockLength
  | 0#2 => some .b24
  | 1#2 => some .b48
  | 2#2 => some .b96
  | _ => none

/-- The place of a station address in a table of the addresses 1 to 30 (R72). -/
def placeOf (a : Nat) : Option (Fin 30) :=
  if h : 1 ≤ a ∧ a ≤ 30 then some ⟨a - 1, by omega⟩ else none

/-- The station address of a place. -/
def addressAt (i : Fin 30) : Address := BitVec.ofNat 5 (i.val + 1)

/-! ## The configuration memory (R184 to R186) -/

/-- An octet nothing has written reads as an erased memory's does (R185). -/
def Memory.blank : Octet := 0xFF#8

/-- The octet at an address. -/
def Memory.read : Memory → Nat → Octet
  | [], _ => Memory.blank
  | (b, v) :: m, a => if b = a then v else Memory.read m a

/-- The memory with one octet written; the list keeps its canonical form. -/
def Memory.write : Memory → Nat → Octet → Memory
  | [], a, v => if v = Memory.blank then [] else [(a, v)]
  | (b, x) :: m, a, v =>
    if a < b then (if v = Memory.blank then (b, x) :: m else (a, v) :: (b, x) :: m)
    else if a = b then (if v = Memory.blank then m else (a, v) :: m)
    else (b, x) :: Memory.write m a v

/-- The octets from an address on. -/
def Memory.readFrom (m : Memory) (a n : Nat) : List Octet := (List.range n).map fun i => m.read (a + i)

/-- The memory with octets written from an address on: a page write (R184). -/
def Memory.writeFrom : Memory → Nat → List Octet → Memory
  | m, _, [] => m
  | m, a, v :: vs => Memory.writeFrom (m.write a v) (a + 1) vs

/-- The canonical form from an address on: addresses strictly rising, none reading FFh. -/
def Memory.wfFrom : Nat → Memory → Bool
  | _, [] => true
  | lo, (a, v) :: m => decide (lo ≤ a) && decide (v ≠ Memory.blank) && Memory.wfFrom (a + 1) m

/-- The canonical form of the configuration memory. -/
def Memory.wf (m : Memory) : Bool := Memory.wfFrom 0 m

/-- The record: the first 271 octets of the memory (R178). -/
def Memory.record (m : Memory) : List Octet := m.readFrom 0 Config.recordLength

/-! ## What the blocks read of each other -/

/-- The latched address strap, the station's strapped address (R177). -/
def State.address (s : State) : Address := s.stc.straps.address

/-- The station assembles, forwards and times frames: PROVING, ACTIVE or LEAVING (R18). -/
def State.attached (s : State) : Bool :=
  match s.atc.state with
  | .proving | .active | .leaving => true
  | .detached | .joining | .halted => false

/-- PROVING or ACTIVE: frames may be copied and announces built (R37, R69). -/
def State.inService (s : State) : Bool :=
  match s.atc.state with
  | .proving | .active => true
  | .detached | .joining | .leaving | .halted => false

/-- The ATC watches the receive line: from the release of RESET_N, except in HALTED and MAINTENANCE (R19, R20, R22). -/
def State.watching (s : State) : Bool :=
  !s.stc.held && s.stc.load != .maintenance && s.atc.state != .halted

/-- The configured sourced stream of an index. -/
def Image.source (g : Image) (i : Fin 4) : Option Source := g.sources[i.val]?

/-- The configured subscription of an index. -/
def Image.subscription (g : Image) (n : Fin 16) : Option Subscription := g.subscriptions[n.val]?

/-- The subscription with a designation, if the configuration has one (R104). -/
def Image.designated (g : Image) (d : Designation) : Option (Fin 16) :=
  (List.finRange 16).find? fun n => (g.subscription n).any (·.designation = d)

/-- The sourced stream with an ID, if the configuration has one. -/
def Image.sourceOf (g : Image) (id : StreamId) : Option (Fin 4) :=
  (List.finRange 4).find? fun i => (g.source i).any (·.id = id)

/-- The subscription to an ID, if the configuration has one (R113). -/
def Image.subscriptionOf (g : Image) (id : StreamId) : Option (Fin 16) :=
  (List.finRange 16).find? fun n => (g.subscription n).any (·.id = id)

end Sys2Proof.Machine
end

