-- ==== Sys2Proof/Machine/Flags.lean ====
section
/-! DEFINITION. The event flags, the seen set, the attention output and the counters (12_service_port.md). -/

namespace Sys2Proof.Machine

/-- A flag's number in the attention mask (R183). -/
def EventFlag.number : EventFlag → Nat
  | .ringClosed => 0
  | .ringOpened => 1
  | .upstreamLoss => 2
  | .upstreamRestored => 3
  | .peerArrived => 4
  | .peerExpired => 5
  | .claimYielded => 6
  | .claimResumed => 7
  | .addressConflict => 8
  | .streamLocked => 9
  | .streamUnlocked => 10
  | .streamRelocked => 11
  | .captureFault => 12
  | .clockHoldover => 13
  | .cueUndelivered => 14
  | .fallbackLatched => 15
  | .audioDropped => 16
  | .repeatOverflow => 17

/-- The set that holds one flag. -/
def EventFlag.bit (f : EventFlag) : BitVec 18 := 1#18 <<< f.number

/-- Raising a flag sets it and takes it out of the seen set (R190). -/
def State.raise (s : State) (f : EventFlag) : State :=
  s.withSvp { s.svp with flags := s.svp.flags ||| f.bit, seen := s.svp.seen &&& ~~~f.bit }

/-- Raising a flag where a condition holds. -/
def State.raiseIf (s : State) (c : Bool) (f : EventFlag) : State := if c then s.raise f else s

/-- A flag is set. -/
def State.flag (s : State) (f : EventFlag) : Bool := s.svp.flags.getLsbD f.number

/-- A flag is in the seen set. -/
def State.seen (s : State) (f : EventFlag) : Bool := s.svp.seen.getLsbD f.number

/-- The ATTN output: a flag is set whose mask bit is clear (R191). The mask is the image's, taken at the good load. -/
def State.attn (s : State) : Bool :=
  match s.stc.image with
  | none => false
  | some g => s.svp.flags &&& ~~~g.mask != 0#18

/-- A counter's place in READ_COUNTERS (R192). -/
def Counter.place : Counter → Fin 28
  | .checkFailures => 0
  | .unknownKinds => 1
  | .abortedFrames => 2
  | .orphansRemoved => 3
  | .repeatOverflows => 4
  | .framesForwarded => 5
  | .ownStarted => 6
  | .audioDropped => 7
  | .cuesRefused => 8
  | .announcesReplaced => 9
  | .ownDiscarded => 10
  | .ownReturned => 11
  | .skipLosses => 12
  | .timeoutLosses => 13
  | .lateReturns => 14
  | .foreignFrames => 15
  | .abandoned => 16
  | .unheard i => ⟨17 + i.val, by omega⟩
  | .announcesMissed => 21
  | .holdoverEntries => 22
  | .irregular q => ⟨23 + q.val, by omega⟩
  | .cuesAccepted => 25
  | .cueDuplicates => 26
  | .cuesIgnored => 27

/-- A counter's value. -/
def State.counter (s : State) (c : Counter) : Nat := s.svp.counters[c.place]

/-- A counter increased; it rests at 65535 (R192). -/
def State.countBy (s : State) (c : Counter) (n : Nat) : State :=
  s.withSvp { s.svp with counters := modifyAt s.svp.counters c.place (addUpTo Config.counterCeiling · n) }

/-- A counter incremented. -/
def State.countOne (s : State) (c : Counter) : State := s.countBy c 1

/-- A context counter's place in the order of R105. -/
def ContextCounter.place : ContextCounter → Fin 11
  | .accepted => 0
  | .lost => 1
  | .duplicate => 2
  | .formatRefused => 3
  | .unclaimed => 4
  | .late => 5
  | .early => 6
  | .relocks => 7
  | .dropSlips => 8
  | .repeatSlips => 9
  | .concealed => 10

/-- A context counter's value. -/
def Context.counter (x : Context) (c : ContextCounter) : Nat := x.counters[c.place]

/-- A context counter increased; it rests at 65535 (R123). -/
def Context.countBy (x : Context) (c : ContextCounter) (n : Nat) : Context :=
  { x with counters := modifyAt x.counters c.place (addUpTo Config.counterCeiling · n) }

/-- A context counter incremented. -/
def Context.countOne (x : Context) (c : ContextCounter) : Context := x.countBy c 1

end Sys2Proof.Machine
end

