-- ==== Sys2Proof/Machine/Operands.lean ====
section
/-! DEFINITION. The octets of frames: checks, layouts in both directions, the transit octet and the verdict on a frame
closed by an END (01_ring_frames_and_line_units.md). -/

namespace Sys2Proof.Machine

/-! ## Checks -/

/-- One bit fed to a CRC register, most significant end first, under a generator. -/
def crcBit {w : Nat} (generator reg : BitVec w) (bit : Bool) : BitVec w :=
  if reg.msb != bit then (reg <<< 1) ^^^ generator else reg <<< 1

/-- One octet fed to a CRC register, most significant bit first (R14, R179). -/
def crcOctet {w : Nat} (generator reg : BitVec w) (o : Octet) : BitVec w :=
  [7, 6, 5, 4, 3, 2, 1, 0].foldl (fun r i => crcBit generator r (o.getLsbD i)) reg

/-- Octets fed to a CRC register in order. -/
def crcOctets {w : Nat} (generator : BitVec w) (reg : BitVec w) (os : List Octet) : BitVec w :=
  os.foldl (crcOctet generator) reg

/-- The frame check over a frame's octets before the check: the transit octet, offset 2, is left out (R14). -/
def frameCheck (body : List Octet) : Word :=
  ~~~(crcOctets 0x04C11DB7#32 0xFFFFFFFF#32 (body.take 2 ++ body.drop 3))

/-- The record check over octets 0 to 268 (R179). -/
def recordCheck (octets : List Octet) : Half := crcOctets 0x1021#16 0xFFFF#16 octets

/-! ## Multi-octet fields, most significant octet first (R16) -/

/-- The two octets of a 16-bit field. -/
def octets16 (x : Half) : List Octet := [x.extractLsb' 8 8, x.extractLsb' 0 8]

/-- The four octets of a 32-bit field. -/
def octets32 (x : Word) : List Octet :=
  [x.extractLsb' 24 8, x.extractLsb' 16 8, x.extractLsb' 8 8, x.extractLsb' 0 8]

/-- An octet at an offset; 0 beyond the end, which no test of R15 lets pass. -/
def octetAt (o : List Octet) (i : Nat) : Octet := o.getD i 0#8

/-- The 16-bit field at an offset. -/
def field16 (o : List Octet) (i : Nat) : Half := (octetAt o i ++ octetAt o (i + 1) : BitVec 16)

/-- The 32-bit field at an offset. -/
def field32 (o : List Octet) (i : Nat) : Word :=
  (octetAt o i ++ octetAt o (i + 1) ++ octetAt o (i + 2) ++ octetAt o (i + 3) : BitVec 32)

/-! ## The format octet (R16) -/

/-- The format octet of a format. -/
def Format.octet (f : Format) : Octet :=
  (0#1 ++ BitVec.ofBool f.talkback ++ BitVec.ofBool f.substituted ++ f.blockCode ++ BitVec.ofBool f.wide
    ++ f.channelCode : BitVec 8)

/-- The format a format octet carries; bit 7 is ignored. -/
def Format.ofOctet (o : Octet) : Format where
  channelCode := o.extractLsb' 0 2
  wide := o.getLsbD 2
  blockCode := o.extractLsb' 3 2
  substituted := o.getLsbD 5
  talkback := o.getLsbD 6

/-- The channels of a format, 1 to 4 (R9). -/
def Format.channels (f : Format) : Nat := f.channelCode.toNat + 1

/-- The octets of one sample (R10). -/
def Format.sampleOctets (f : Format) : Nat := if f.wide then 3 else 2

/-- The payload length P of a format; code 3 gives none (R10). -/
def Format.payloadLength (f : Format) : Option Nat :=
  (BlockLength.ofCode f.blockCode).map fun b => b.samples * f.channels * f.sampleOctets

/-! ## Samples in a payload (R10, R121) -/

/-- The octets of a sample of 24 or 16 bits, most significant first. -/
def sampleOctets (wide : Bool) (x : Sample) : List Octet :=
  if wide then
    let v : BitVec 24 := BitVec.ofInt 24 x
    [v.extractLsb' 16 8, v.extractLsb' 8 8, v.extractLsb' 0 8]
  else octets16 (BitVec.ofInt 16 x)

/-- The sample at an offset of a payload, as the 24-bit value it is kept as: a 16-bit sample is widened (R121). -/
def sampleAt (wide : Bool) (payload : List Octet) (i : Nat) : Sample :=
  if wide then (octetAt payload i ++ octetAt payload (i + 1) ++ octetAt payload (i + 2) : BitVec 24).toInt
  else (field16 payload i).toInt * 256

/-- The sample frames of a payload of b sample frames, in order, channel 0 first (R121). -/
def payloadSamples (b : Nat) (f : Format) (payload : List Octet) : List (List Sample) :=
  (List.range b).map fun i =>
    (List.range f.channels).map fun c => sampleAt f.wide payload ((i * f.channels + c) * f.sampleOctets)

/-! ## Kinds and codes -/

/-- The kind octet of an AUDIO frame (R7). -/
def kindAudio : Octet := 0x1A#8
/-- The kind octet of an ANNOUNCE frame (R7). -/
def kindAnnounce : Octet := 0x2C#8
/-- The kind octet of a CUE frame (R7). -/
def kindCue : Octet := 0x3D#8

/-- A cue code's octet (R13). -/
def CueCode.octet : CueCode → Octet
  | .talkRequest => 0x01#8
  | .talkClear => 0x02#8
  | .onAir => 0x11#8
  | .offAir => 0x12#8
  | .talkbackOpen => 0x13#8
  | .talkbackClose => 0x14#8

/-- The cue code of an octet (R13). -/
def CueCode.ofOctet (o : Octet) : Option CueCode :=
  if o = 0x01#8 then some .talkRequest
  else if o = 0x02#8 then some .talkClear
  else if o = 0x11#8 then some .onAir
  else if o = 0x12#8 then some .offAir
  else if o = 0x13#8 then some .talkbackOpen
  else if o = 0x14#8 then some .talkbackClose
  else none

/-- A cue position: 0 to 3, or 15 for all (R13). -/
def cuePosition (p : Nat) : Bool := decide (p ≤ 3) || p == Config.allPositions

/-- A role's bit in an ANNOUNCE (R16). -/
def roleBit : Role → Bool
  | .venue => false
  | .gallery => true

/-- The role of a bit. -/
def roleOfBit (b : Bool) : Role := if b then .gallery else .venue

/-- A claim state's bit in a stream list entry (R16). -/
def Claim.bit : Claim → Bool
  | .held => false
  | .yielded => true

/-- The claim state of a bit. -/
def claimOfBit (b : Bool) : Claim := if b then .yielded else .held

/-- An octet with a five-bit address in its low bits. -/
def addressOctet (a : Address) : Octet := (0#3 ++ a : BitVec 8)

/-! ## Frames as octets (R16) -/

/-- The transit octet of a hop count and a copied flag (R8). -/
def transitOctet (hops : BitVec 5) (copied : Bool) : Octet := (0#2 ++ BitVec.ofBool copied ++ hops : BitVec 8)

/-- The transit octet an own frame starts with (R4). -/
def startTransit : Octet := transitOctet (BitVec.ofNat 5 Config.startHops) false

/-- The state flags octet (R16). -/
def StateFlags.octet (f : StateFlags) : Octet :=
  (0#5 ++ BitVec.ofBool f.leaving ++ BitVec.ofBool f.upstreamLoss ++ BitVec.ofBool f.ringClosed : BitVec 8)

/-- One stream list entry's octets (R16). -/
def StreamEntry.octets (e : StreamEntry) : List Octet :=
  [(0#2 ++ e.id : BitVec 8), e.format.octet, (0#7 ++ BitVec.ofBool e.claim.bit : BitVec 8)]

/-- A frame's octets before the check, with the transit octet an own frame starts with (R4, R16). -/
def Frame.body : Frame → List Octet
  | .audio f =>
    [kindAudio, addressOctet f.origin, startTransit, (0#2 ++ f.stream : BitVec 8)]
      ++ octets16 f.seq ++ octets32 f.stamp ++ [f.format.octet] ++ f.payload
  | .announce f =>
    [kindAnnounce, addressOctet f.origin, startTransit, f.seq, (0#7 ++ BitVec.ofBool (roleBit f.role) : BitVec 8)]
      ++ octets16 f.period ++ [f.flags.octet] ++ f.name.toList ++ octets16 f.model ++ octets16 f.check
      ++ [BitVec.ofNat 8 f.streams.length] ++ f.streams.flatMap StreamEntry.octets
  | .cue f =>
    [kindCue, addressOctet f.origin, startTransit, addressOctet f.destination, f.code.octet,
      (0#4 ++ f.position : BitVec 8), f.tag]

/-- An own frame's octets as the line interface sends them: its body and its frame check (R4). -/
def Frame.octets (f : Frame) : List Octet := f.body ++ octets32 (frameCheck f.body)

/-! ## Reading a frame (R16) -/

/-- The kind octet. -/
def kindOf (o : List Octet) : Octet := octetAt o 0
/-- The origin: the low five bits of octet 1 (R7). -/
def originOf (o : List Octet) : Address := (octetAt o 1).extractLsb' 0 5
/-- The hop count (R8). -/
def hopsOf (o : List Octet) : BitVec 5 := (octetAt o 2).extractLsb' 0 5
/-- The copied flag (R8). -/
def copiedOf (o : List Octet) : Bool := (octetAt o 2).getLsbD 5
/-- The frame with its transit octet rewritten, every other octet kept (R8, R38). -/
def rewriteTransit (o : List Octet) (hops : BitVec 5) (copied : Bool) : List Octet :=
  o.set 2 (transitOctet hops copied)

/-- An ANNOUNCE's state flags. -/
def stateFlagsOf (o : Octet) : StateFlags := ⟨o.getLsbD 0, o.getLsbD 1, o.getLsbD 2⟩

/-- An AUDIO frame's fields. -/
def readAudio (o : List Octet) : AudioFrame where
  origin := originOf o
  stream := (octetAt o 3).extractLsb' 0 6
  seq := field16 o 4
  stamp := field32 o 6
  format := Format.ofOctet (octetAt o 10)
  payload := (o.drop 11).take (o.length - 15)

/-- The stream list entry at an offset. -/
def readEntry (o : List Octet) (i : Nat) : StreamEntry where
  id := (octetAt o i).extractLsb' 0 6
  format := Format.ofOctet (octetAt o (i + 1))
  claim := claimOfBit ((octetAt o (i + 2)).getLsbD 0)

/-- An ANNOUNCE frame's fields. -/
def readAnnounce (o : List Octet) : AnnounceFrame where
  origin := originOf o
  seq := octetAt o 3
  role := roleOfBit ((octetAt o 4).getLsbD 0)
  period := field16 o 5
  flags := stateFlagsOf (octetAt o 7)
  name := Vector.ofFn fun i => octetAt o (8 + i.val)
  model := field16 o 18
  check := field16 o 20
  streams := (List.range (octetAt o 22).toNat).map fun j => readEntry o (23 + 3 * j)

/-- A CUE frame's fields, if its code is one of the six. -/
def readCue (o : List Octet) : Option CueFrame :=
  (CueCode.ofOctet (octetAt o 4)).map fun code =>
    { origin := originOf o
      destination := (octetAt o 3).extractLsb' 0 5
      code := code
      position := (octetAt o 5).extractLsb' 0 4
      tag := octetAt o 6 }

/-- The frame a frame's octets carry, by its kind. -/
def readFrame (o : List Octet) : Option Frame :=
  if kindOf o = kindAudio then some (.audio (readAudio o))
  else if kindOf o = kindAnnounce then some (.announce (readAnnounce o))
  else if kindOf o = kindCue then (readCue o).map .cue
  else none

/-- The identity of a frame (R35, R52). -/
def Frame.identity : Frame → Identity
  | .audio f => .audio f.stream f.seq
  | .announce f => .announce f.seq
  | .cue f => .cue f.tag

/-- The origin of a frame. -/
def Frame.origin : Frame → Address
  | .audio f => f.origin
  | .announce f => f.origin
  | .cue f => f.origin

/-! ## The verdict (R15) -/

/-- The verdict on a closed frame (R5, R15). -/
inductive Verdict where
  | wellFormed
  | checkFailure
  | unknownKind
  | aborted
  deriving DecidableEq, Repr

/-- The length a frame's kind and fields give it, if they give one (R10, R12, R13; R15 test 5). -/
def lengthForKind (o : List Octet) : Option Nat :=
  if kindOf o = kindAudio then (Format.ofOctet (octetAt o 10)).payloadLength.map (11 + · + 4)
  else if kindOf o = kindAnnounce then
    if (octetAt o 22).toNat ≤ 4 then some (23 + 3 * (octetAt o 22).toNat + 4) else none
  else some 11

/-- The check matches: the last four octets are the check over the octets before them (R14). -/
def checkMatches (o : List Octet) : Bool :=
  frameCheck (o.take (o.length - 4)) == field32 o (o.length - 4)

/-- The verdict on a frame closed by an END: the six tests in order (R15). -/
def judge (r : RxFrame) : Verdict :=
  let o := r.octets
  if r.length < Config.minFrame ∨ Config.maxFrame < r.length then .checkFailure
  else if !checkMatches o then .checkFailure
  else if ¬ (kindOf o = kindAudio ∨ kindOf o = kindAnnounce ∨ kindOf o = kindCue) then .unknownKind
  else if originOf o = 0#5 ∨ originOf o = 31#5 then .checkFailure
  else if lengthForKind o ≠ some r.length then .checkFailure
  else if kindOf o = kindCue ∧ CueCode.ofOctet (octetAt o 4) = none then .unknownKind
  else .wellFormed

end Sys2Proof.Machine
end

