-- ==== Sys2Proof/Machine/Arbiter.lean ====
section
/-! DEFINITION. Which frame the TX arbiter in READY starts next, and when it chooses (03_forwarding_and_insertion.md R42 to
R44). -/

namespace Sys2Proof.Machine

/-- The frame of a choice: the head of the repeat queue has no own frame; an own frame is the oldest of its queue, or the
slot's, where the attachment state allows its kind (R18, R43). -/
def State.ownFrame (s : State) (k : FrameChoice) : Option Frame :=
  match k, s.atc.state with
  | .announce, .proving | .announce, .active => s.inq.slot.map .announce
  | .announce, .leaving => (s.inq.slot.filter (·.flags.leaving)).map .announce
  | .cue, .active => s.inq.cues.head?.map .cue
  | .audio, .active => s.inq.audio.head?.map .audio
  | _, _ => none

/-- The transit list has a free entry (R42, R52). -/
def Trm.hasRoom (m : Trm) : Bool := decide (m.transit.length < Config.transitCapacity)

/-- The frame of a choice is there, and an own frame finds a free transit entry (R42). -/
def State.mayStart (s : State) : FrameChoice → Bool
  | .repeatHead => !s.rfw.repeats.isEmpty
  | k => s.trm.hasRoom && (s.ownFrame k).isSome

/-- What the arbiter chooses: a frame in the repeat queue before any own frame (R42), and of the own frames the oldest cue,
then the announce, then the oldest audio frame (R43). -/
def State.choice (s : State) : Option FrameChoice :=
  [FrameChoice.repeatHead, .cue, .announce, .audio].find? s.mayStart

/-- What the arbiter holds chosen in READY, perhaps no frame; nothing in any other state. -/
def Arbiter.chosen : Arbiter → Option (Option FrameChoice)
  | .ready _ c => some c
  | .disabled | .gap _ | .sending _ _ => none

/-- What the arbiter in READY starts next: what it has chosen, while that frame is there to start, and else what it
chooses now (R41, R44; log entry 22). -/
def State.nextStart (s : State) : Option FrameChoice :=
  match s.rfw.arbiter with
  | .ready _ chosen => (chosen.filter s.mayStart).or s.choice
  | .disabled | .gap _ | .sending _ _ => none

/-- The arbiter acts on an event that has been taken: in READY it chooses the frame it starts next, if it has chosen none
(R44). -/
def State.decideStart (s : State) : State :=
  match s.rfw.arbiter with
  | .ready since _ => s.withRfw { s.rfw with arbiter := .ready since s.nextStart }
  | .disabled | .gap _ | .sending _ _ => s

end Sys2Proof.Machine
end

