-- ==== Sys2Proof/Machine/Panel.lean ====
section
/-! DEFINITION. The position records: selections, cue outcomes, the return fallback and what departures and restarts
clear (10_commentary_positions_and_cues.md). -/

namespace Sys2Proof.Machine

/-- The selection a position's latch and talkback give (R173). -/
def selectionOf (latch talkback : Bool) : Selection :=
  if latch then .sidetone else if talkback then .talkback else .programme

/-- The selection judged again (R173). -/
def Position.judged (p : Position) : Position := { p with selection := selectionOf p.latch p.talkback }

/-- A venue position's record changed, its selection judged again. -/
def State.setPosition (s : State) (p : Fin 4) (f : Position → Position) : State :=
  s.withPos { s.pos with positions := modifyAt s.pos.positions p fun q => (f q).judged }

/-- All four venue positions' records changed, their selections judged again. -/
def State.setPositions (s : State) (f : Position → Position) : State :=
  s.withPos { s.pos with positions := mapAll (fun q => (f q).judged) s.pos.positions }

/-- The station has the role strap VENUE. -/
def State.venue (s : State) : Bool := s.stc.straps.role == .venue

/-- A position's number as a cue carries it: 0 to 3 (R13). -/
def positionOf (p : BitVec 4) : Option (Fin 4) := if h : p.toNat < 4 then some ⟨p.toNat, h⟩ else none

/-- A TALK_REQUEST's outcome at the position it names (R165). -/
def Position.requestOutcome (tag : Octet) (delivered : Bool) (p : Position) : Position :=
  if p.tag = some tag then
    if delivered then { p with talk := if p.talk = .flash then .on else p.talk }
    else { p with talk := .off, tag := none }
  else p

/-- An outcome of an own cue reaches the POS: at a venue a TALK_REQUEST's outcome acts on the position it names; every
other outcome has no effect (R165, R174). -/
def State.cueOutcome (s : State) (c : CueReport) (delivered : Bool) : State :=
  match s.venue, c.code, positionOf c.position with
  | true, .talkRequest, some p => s.setPosition p (Position.requestOutcome c.tag delivered)
  | _, _, _ => s

/-- A cue is reported undelivered: CUE_UNDELIVERED is raised and the POS takes the outcome (R48, R50, R53, R64). -/
def State.cueUndelivered (s : State) (c : CueReport) : State := (s.raise .cueUndelivered).cueOutcome c false

/-- The report of a cue frame. -/
def CueFrame.report (f : CueFrame) : CueReport := ⟨f.tag, f.code, f.position⟩

/-- The subscription designated RETURN (R104). -/
def State.returnStream (s : State) : Option (Fin 16) := s.stc.image.bind (·.designated .programme)

/-- The fallback timers of a venue start from 0 (R170). -/
def State.startFallback (s : State) : State :=
  if s.venue then s.setPositions fun q => { q with timer := .running s.now } else s

/-- The fallback timers of a venue are set to 0 and stop (R170). -/
def State.stopFallback (s : State) : State :=
  if s.venue then s.setPositions fun q => { q with timer := .idle } else s

/-- The gallery's departure clears what the gallery set at a position (R168). -/
def Position.galleryGone (p : Position) : Position :=
  { p with onAir := false, talkback := false, talk := .off, tag := none }

/-- The gallery lamps mapped to a venue, and to a position of it or to any. -/
def Image.lampsOf (g : Image) (venue : Address) (p : Option (Fin 4)) : BitVec 16 :=
  (List.finRange 16).foldl
    (fun m l => match g.lamps[l] with
      | some (v, q) => if v = venue ∧ (p = none ∨ p = some q) then m ||| (1#16 <<< l.val) else m
      | none => m)
    0#16

/-- A peer's departure reaches the POS (R83): its last tag seen becomes none (R166); at a venue the departure of the
gallery clears the positions (R168); at the gallery the venue's lamps go OFF (R175). -/
def State.peerDeparted (s : State) (i : Fin 30) : State :=
  let s := s.withPos { s.pos with lastTags := modifyAt s.pos.lastTags i fun _ => none }
  match s.stc.image with
  | none => s
  | some g =>
    if s.venue then
      if g.gallery = addressAt i then s.setPositions Position.galleryGone else s
    else s.withPos { s.pos with lamps := s.pos.lamps &&& ~~~(g.lampsOf (addressAt i) none) }

/-- What the POS clears at the clearing of a ring restart (R176). -/
def State.clearPositions (s : State) : State :=
  let s := s.withPos { s.pos with lastTags := Vector.replicate 30 none }
  if s.venue then s.setPositions Position.galleryGone else s.withPos { s.pos with lamps := 0#16 }

/-- A position's fallback latch is set, and FALLBACK_LATCHED raised if it was clear (R170). -/
def State.latchFallback (s : State) (p : Fin 4) : State :=
  let was := s.pos.positions[p].latch
  (s.setPosition p fun q => { q with timer := .reached, latch := true }).raiseIf (!was) .fallbackLatched

end Sys2Proof.Machine
end

