-- ==== Sys2Proof/Machine/Insertion.lean ====
section
/-! DEFINITION. The Insertion Queues and the announces the PRU builds for them (03 R47 to R50; 05 R68 to R71). -/

namespace Sys2Proof.Machine

/-! ## Offers -/

/-- A cue offered to the cue queue: appended in ACTIVE with a free place, otherwise refused (R48). -/
def State.offerCue (s : State) (f : CueFrame) : State :=
  if s.atc.state = .active ∧ s.inq.cues.length < Config.cueCapacity then
    s.withInq { s.inq with cues := s.inq.cues ++ [f] }
  else (s.countOne .cuesRefused).cueUndelivered f.report

/-- An announce offered to the slot fills it, or replaces the one in it (R49). -/
def State.offerAnnounce (s : State) (f : AnnounceFrame) : State :=
  let s := if s.inq.slot.isSome then s.countOne .announcesReplaced else s
  s.withInq { s.inq with slot := some f }

/-- An AUDIO frame offered to the own audio queue: a full queue first pushes out its oldest frame (R47). -/
def State.offerAudio (s : State) (f : AudioFrame) : State :=
  if s.inq.audio.length < Config.audioCapacity then s.withInq { s.inq with audio := s.inq.audio ++ [f] }
  else
    ((s.countOne .audioDropped).raise .audioDropped).withInq
      { s.inq with audio := s.inq.audio.drop 1 ++ [f] }

/-- At entry to LEAVING the queued own audio and cues are discarded and counted, and each cue is reported undelivered,
oldest first (R50). -/
def State.discardOwn (s : State) : State :=
  let cues := s.inq.cues
  let s := s.countBy .ownDiscarded (cues.length + s.inq.audio.length)
  let s := s.withInq { s.inq with cues := [], audio := [] }
  cues.foldl (fun s f => s.cueUndelivered f.report) s

/-! ## Building announces -/

/-- The format a sourced stream's configuration gives its frames (R98). -/
def Source.format (c : Source) (b : BlockLength) (substituted : Bool) : Format where
  channelCode := BitVec.ofNat 2 (c.channels.length - 1)
  wide := c.wide
  blockCode := b.code
  substituted := substituted
  talkback := c.talkback

/-- The stream list: one entry per sourced stream, in configuration order (R12, R68). -/
def streamList (g : Image) (claims : Vector Claim 4) : List StreamEntry :=
  (List.finRange 4).filterMap fun i =>
    (g.source i).map fun c => ⟨c.id, c.format g.block false, claims[i]⟩

/-- The announce the PRU builds as the station stands (R68). -/
def State.announceNow (s : State) (g : Image) (leaving : Bool) : AnnounceFrame where
  origin := s.address
  seq := s.pru.seq
  role := s.stc.straps.role
  period := BitVec.ofNat 16 g.period
  flags := ⟨s.atc.closure == .closed, s.atc.upstream == .loss, leaving⟩
  name := g.name
  model := Config.modelCode
  check := g.check
  streams := streamList g s.pru.claims

/-- The PRU builds an announce, its sequence advancing, and offers it to the slot (R68, R49). -/
def State.announce (s : State) (leaving : Bool) : State :=
  match s.stc.image with
  | none => s
  | some g =>
    (s.withPru { s.pru with seq := s.pru.seq + 1 }).offerAnnounce (s.announceNow g leaving)

end Sys2Proof.Machine
end

