-- ==== Sys2Proof/Machine/Attachment.lean ====
section
/-! DEFINITION. Ring closure, entry to LEAVING and the receive line's watch (02_ring_attachment.md). -/

namespace Sys2Proof.Machine

/-- The attachment state changed. -/
def State.setAttachment (s : State) (a : AttachmentState) : State := s.withAtc { s.atc with state := a }

/-! ## Ring closure (R25, R26) -/

/-- The flag of a closure outcome. -/
def Closure.flag : Closure → EventFlag
  | .closed => .ringClosed
  | .opened => .ringOpened

/-- An announce outcome is reported to the ATC: in PROVING it ends proving and raises its flag whatever the indicator
held (R25); in ACTIVE and LEAVING the indicator follows it, the flag raised on a change (R26). -/
def State.closureOutcome (s : State) (c : Closure) : State :=
  match s.atc.state with
  | .proving => (s.withAtc { s.atc with state := .active, closure := c }).raise c.flag
  | .active | .leaving =>
    (s.withAtc { s.atc with closure := c }).raiseIf (s.atc.closure != c) c.flag
  | .detached | .joining | .halted => s

/-! ## Leaving (R27) -/

/-- Entry to LEAVING: the leave timer starts, the INQ discards its queued frames, the announce timer stops and the
final announce is built and offered (R27, R50, R69, R71); then the arbiter acts on the change (R44). -/
def State.enterLeaving (s : State) (cause : LeaveCause) : State :=
  let s := s.withAtc
    { s.atc with state := .leaving, leaveTimer := some s.now, leaveCause := some cause, finalSent := false }
  let s := s.discardOwn
  let s := s.withPru { s.pru with timer := none }
  (s.announce true).decideStart

/-- An address-conflict halt is reported to the ATC (R27). -/
def State.conflictHalt (s : State) : State :=
  match s.atc.state with
  | .proving | .active => s.enterLeaving .conflict
  | .leaving => s.withAtc { s.atc with leaveCause := some .conflict }
  | .detached | .joining | .halted => s

/-! ## The receive line (R19, R20, R23) -/

/-- What a unit time brings is a valid unit (R1). -/
def LineEvent.valid : LineEvent → Bool
  | .unit _ => true
  | .violation | .silence => false

/-- What a unit time brings is an IDLE unit. -/
def LineEvent.idle (e : LineEvent) : Bool := e == .unit .idle

/-- The idle-run count after a unit time (R19). -/
def Atc.idleRunAfter (a : Atc) (e : LineEvent) : Nat :=
  if LineEvent.idle e then addUpTo Config.idleRunCeiling a.idleRun 1 else 0

/-- The ATC takes a unit time of the receive line: the idle-run count, the signal-seen note, the counts of loss and
restoral (R19, R20), and the attach of a joining station on an IDLE unit (R23). -/
def Atc.takeUnit (a : Atc) (e : LineEvent) : Atc :=
  { a with
    idleRun := a.idleRunAfter e
    signalSeen := a.signalSeen || LineEvent.valid e
    quietUnits := match a.upstream with
      | .present => if LineEvent.valid e then 0 else addUpTo Config.lossUnits a.quietUnits 1
      | .loss => a.quietUnits
    validRun := match a.upstream with
      | .present => a.validRun
      | .loss => if LineEvent.valid e then addUpTo Config.restoralUnits a.validRun 1 else 0
    attachDue := a.attachDue
      || (a.state == .joining && a.awaitIdle && LineEvent.idle e && decide (Config.joinIdleRun ≤ a.idleRunAfter e)) }

/-- The join holdoff starts, and the signal-seen note is cleared (R23). -/
def Atc.startHoldoff (a : Atc) (now : Nat) : Atc :=
  { a with holdoff := some now, signalSeen := false, awaitIdle := false, attachDue := false }

/-- In HALTED the ATC does not watch the line: the counts read 0, the note clear and the upstream state LOSS (R19,
R20, R31). -/
def Atc.halt (a : Atc) : Atc :=
  { a with state := .halted, idleRun := 0, signalSeen := false, upstream := .loss, quietUnits := 0, validRun := 0,
           holdoff := none, awaitIdle := false, attachDue := false }

/-! ## The frame receiver (R5) -/

/-- A frame just opened. -/
def RxFrame.empty : RxFrame := ⟨[], 0⟩

/-- A data unit's octet joins the open frame; at most 1167 are kept (R5). -/
def RxFrame.append (f : RxFrame) (o : Octet) : RxFrame :=
  ⟨if f.octets.length < Config.maxFrame then f.octets ++ [o] else f.octets, f.length + 1⟩

/-- The frame receiver takes a unit time: the receiver after it, and whether it closed a frame as ABORTED (R5). -/
def Receiver.takeUnit (r : Receiver) (e : LineEvent) : Receiver × Bool :=
  match r.opened, e with
  | none, .unit .start => ({ r with opened := some .empty }, false)
  | none, _ => (r, false)
  | some f, .unit (.data o) => ({ r with opened := some (f.append o) }, false)
  | some f, .unit .finish => (⟨none, r.closed ++ [f]⟩, false)
  | some _, .unit .start => ({ r with opened := some .empty }, true)
  | some _, .unit .idle => ({ r with opened := none }, true)
  | some _, .unit .abort => ({ r with opened := none }, true)
  | some _, .violation => ({ r with opened := none }, true)
  | some f, .silence => ({ r with opened := some f }, false)

end Sys2Proof.Machine
end

