-- ==== Sys2Proof/Machine/Playout.lean ====
section
/-! DEFINITION. The playout of streams and the channel values: output blocks, run-outs, boundaries, headphone sources
and ports (09_playout_concealment_and_output_ports.md). -/

namespace Sys2Proof.Machine

/-! ## Stream channel values (R146) -/

/-- The sample of a channel of a block record at an index, faded; a channel or index the record lacks is silence
(R146, R149). -/
def BlockRecord.value (k : BlockRecord) (fade : Fade) (b : Nat) (j : Int) (c : Fin 4) : Sample :=
  match j with
  | .ofNat i => fadeSample fade b i (((k.samples[i]?).bind (·[c.val]?)).getD 0)
  | .negSucc _ => 0

/-- The output sample index at a count: the source index minus the current boundary stamp (R146). -/
def Context.outputIndex (x : Context) (b : Nat) (t : Word) : Int :=
  signedDiff (t - x.rPlay) (x.nextBoundary - BitVec.ofNat 32 b)

/-- The run-out's sample last sent; silence before the first (R152). -/
def RunOut.value (o : RunOut) (b : Nat) (c : Fin 4) : Sample :=
  match o.block, o.sent with
  | some k, i + 1 => k.value .out b i c
  | _, _ => 0

/-- The stream channel value of a channel as a count begins (R146). -/
def Context.value (x : Context) (b : Nat) (t : Word) (c : Fin 4) : Sample :=
  match x.state, x.output.source, x.runOut with
  | .locked, some k, _ => k.value x.output.fade b (x.outputIndex b t) c
  | _, _, some o => o.value b c
  | _, _, none => 0

/-- The stream channel values of a count are those its increment, or the boundary taken at it, gives (R144, R147). -/
def Context.settle (x : Context) (b : Nat) (t : Word) : Context := { x with values := Vector.ofFn (x.value b t) }

/-- The values of the count within which an output block ends: silence, whose run-out begins at the next increment; but
the sample that a run-out in progress or a boundary of this count has sent stands (R152, R153; log entry 16). -/
def Context.valuesAtEnd (x : Context) : Vector Sample 4 :=
  if x.begun ∨ x.runOut.isSome then x.values else Vector.replicate 4 0

/-! ## Channel values of the station (R145, R154, R155) -/

/-- The port of a capture channel. -/
def capturePortOf (ch : Fin 16) : Fin 2 := ⟨ch.val / 8, by omega⟩
/-- The slot of a capture channel. -/
def slotOf (ch : Fin 16) : Fin 8 := ⟨ch.val % 8, by omega⟩

/-- A 16-bit capture sample widened to 24 bits (R155). -/
def widenSample (wide : Bool) (x : Sample) : Sample := if wide then x else x * 256

/-- The sidetone value of a capture channel: its sample in the frame its port placed last, before any gating (R155). -/
def State.sidetone (s : State) (g : Image) (ch : Fin 16) : Sample :=
  match s.cap.stores[capturePortOf ch].last with
  | some f => widenSample g.capture[capturePortOf ch].wide f[slotOf ch]
  | none => 0

/-- The stream channel value of a subscription's channel at the present count. -/
def State.streamValue (s : State) (n : Fin 16) (c : Fin 4) : Sample := (s.srx[n]).values[c]

/-- The value of a designated stream's channel, 0 without such a subscription (R154). -/
def State.designatedValue (s : State) (g : Image) (d : Designation) (c : Fin 4) : Sample :=
  match g.designated d with
  | some n => s.streamValue n c
  | none => 0

/-- The value of the source in force at a position (R154, R156). -/
def State.sourceValue (s : State) (g : Image) (p : Fin 4) : Sample :=
  match s.ply.inForce[p] with
  | none => 0
  | some .sidetone => s.sidetone g g.positions[p].mic
  | some .talkback => s.designatedValue g .talkback g.positions[p].talkCh
  | some .programme => s.designatedValue g .programme g.positions[p].returnCh

/-- The assignment of a playout channel (R145). -/
inductive Assignment where
  | stream (n : Fin 16) (c : Fin 4)
  | headphone (p : Fin 4)
  | nothing
  deriving DecidableEq, Repr

/-- The assignment the configuration gives a playout channel: a channel map entry, or at a venue a headphone (R145). -/
def Image.assignment (g : Image) (venue : Bool) (ch : Fin 32) : Assignment :=
  match (List.finRange 16).findSome? fun n =>
      (g.subscription n).bind fun u =>
        ((List.finRange 4).find? fun c => u.map[c] = some ch).map fun c => (n, c) with
  | some (n, c) => .stream n c
  | none =>
    match if venue then (List.finRange 4).find? fun p => g.positions[p].headphone = ch else none with
    | some p => .headphone p
    | none => .nothing

/-- The channel value of a playout channel at the present count (R145). -/
def State.channelValue (s : State) (g : Image) (ch : Fin 32) : Sample :=
  match g.assignment s.venue ch with
  | .stream n c => s.streamValue n c
  | .headphone p => s.sourceValue g p
  | .nothing => 0

/-- The 8 channel values of a playout port (R143). -/
def portValues (channels : Vector Sample 32) (q : Fin 4) : PortFrame :=
  Vector.ofFn fun i => channels[8 * q.val + i.val]

/-- The frames the CLOCKING ports send: the channel values of the count (R144). -/
def clockedFrames (g : Image) (channels : Vector Sample 32) (old : Vector (Option PortFrame) 4) :
    Vector (Option PortFrame) 4 :=
  Vector.ofFn fun q => if g.playout[q].listen then old[q] else some (portValues channels q)

/-- The channel values that a test picks are computed for the present count, and the CLOCKING ports send them; while
the ports are STOPPED nothing is computed (R144, R145). -/
def State.computeChannels (s : State) (which : Assignment → Bool) : State :=
  match s.cap.running, s.stc.image with
  | true, some g =>
    let channels := Vector.ofFn fun ch =>
      if which (g.assignment s.venue ch) then s.channelValue g ch else s.ply.channels[ch]
    s.withPly { s.ply with channels := channels, frames := clockedFrames g channels s.ply.frames }
  | _, _ => s

/-- An assignment takes its value from subscription n. -/
def State.feeds (s : State) (n : Fin 16) (a : Assignment) : Bool :=
  match a with
  | .stream m _ => m == n
  | .headphone p =>
    match s.ply.inForce[p] with
    | some .talkback => s.stc.image.bind (·.designated .talkback) == some n
    | some .programme => s.stc.image.bind (·.designated .programme) == some n
    | _ => false
  | .nothing => false

/-- The channels fed by subscription n are computed again at the present count. -/
def State.refreshStream (s : State) (n : Fin 16) : State := s.computeChannels (s.feeds n)

/-- Every channel is computed for the new count (R144). -/
def State.refreshAll (s : State) : State := s.computeChannels fun _ => true

/-- An assignment is a headphone channel. -/
def Assignment.isHeadphone : Assignment → Bool
  | .headphone _ => true
  | .stream _ _ | .nothing => false

/-- At a block tick each position's selection becomes its source in force, and the headphone channels take its value
at the tick's count (R156). A GALLERY station has no headphone channels (R154). The CLOCKING ports send the channels of
the count, at the opening tick their first frame (R143, R144). -/
def State.switchHeadphones (s : State) : State :=
  (if s.venue then s.withPly { s.ply with inForce := mapAll (fun q => some q.selection) s.pos.positions }
   else s).computeChannels Assignment.isHeadphone

/-! ## Contexts and run-outs -/

/-- A stream context changed. -/
def State.setContext (s : State) (n : Fin 16) (f : Context → Context) : State :=
  s.withSrx (modifyAt s.srx n f)

/-- The run-out a stream starts: of the last played block, or of silence (R152). -/
def Context.newRunOut (x : Context) : RunOut := ⟨if x.conceal ≤ 1 then x.lastPlayed else none, 0⟩

/-- The run-out in progress goes on; without one a new one starts (R152, R153). -/
def Context.runningOut (x : Context) : Option RunOut := some (x.runOut.getD x.newRunOut)

/-- A context leaving LOCKED: the queue and a pending slip go, R_play takes R, the runs are 0 (R111); the output block
ends and the run-out starts (R152). -/
def Context.unlocked (x : Context) (state : StreamState) (origin : Option Address) : Context :=
  { x with state := state, origin := origin, queue := [], slip := .none, rPlay := x.r, lateRun := 0, earlyRun := 0,
           output := ⟨none, .none⟩, runOut := x.runningOut, conceal := 0, played := false, values := x.valuesAtEnd }

/-- A context takes a state other than LOCKED and an origin, leaving LOCKED if it was (R108 to R111). STREAM_UNLOCKED is
raised, and the return programme's fallback timers start (R170). -/
def State.toUnlocked (s : State) (n : Fin 16) (state : StreamState) (origin : Option Address) : State :=
  if s.srx[n].state = .locked then
    let s := (s.setContext n (·.unlocked state origin)).raise .streamUnlocked
    let s := if s.returnStream = some n then s.startFallback else s
    s.refreshStream n
  else s.setContext n fun x => { x with state := state, origin := origin }

/-- At a count increment a run-out in progress sends its next sample, and the stream's values are those of the new
count (R144, R152). -/
def Context.newCount (b : Nat) (t : Word) (x : Context) : Context :=
  Context.settle
    { x with runOut := x.runOut.map fun o => { o with sent := min (b + 1) (o.sent + 1) }, begun := false } b t

/-! ## Boundaries (R147 to R150) -/

/-- The boundary stamp has been reached by the source index (R147). -/
def Context.atBoundary (x : Context) (t : Word) : Bool := x.state == .locked && t - x.rPlay == x.nextBoundary

/-- A boundary plays a block (R148). -/
def Context.playBlock (x : Context) (k : BlockRecord) : Context :=
  { x with
    output := ⟨some k, if 2 ≤ x.conceal ∨ k.lockMark then .into else .none⟩
    conceal := 0
    lastPlayed := some k
    played := true }

/-- A boundary is concealed: repetition, fading repetition, silence (R149). -/
def Context.concealBlock (x : Context) : Context :=
  let n := addUpTo 255 x.conceal 1
  { x.countOne .concealed with
    conceal := n
    output := if n = 1 then ⟨x.lastPlayed, .none⟩ else if n = 2 then ⟨x.lastPlayed, .out⟩ else ⟨none, .none⟩ }

/-- A boundary is taken at a count, up to its sample of index 0: blocks before it leave the queue, it plays or conceals, and the
next boundary stamp advances by B; a run-out ends at the first boundary (R147 steps 1 to 4, R153). -/
def Context.boundary (x : Context) (b : Nat) (t : Word) : Context :=
  let x := { x with queue := x.queue.filter fun k => !decide (signedDiff k.stamp x.nextBoundary < 0), runOut := none }
  let x := match x.queue.head? with
    | some k => if k.stamp = x.nextBoundary then x.playBlock k else x.concealBlock
    | none => x.concealBlock
  Context.settle { x with nextBoundary := x.nextBoundary + BitVec.ofNat 32 b, begun := true } b t

/-- A pending slip is applied (R150). -/
def Context.applySlip (x : Context) : Context := { x with rPlay := x.r, slip := .none }

end Sys2Proof.Machine
end

