-- ==== Sys2Proof/Machine/Reception.lean ====
section
/-! DEFINITION. The Stream Receiver and the alignment arithmetic: claimant events, the tests on an AUDIO frame, locks,
relocks, the margin test, the filter and slips (07_stream_reception.md, 08_playout_alignment.md). -/

namespace Sys2Proof.Machine

/-! ## Claimant events (R108 to R110) -/

/-- A claimant appears or changes: the context takes the origin and is ACQUIRING; it disappears: WAITING without an
origin (R108 to R110). -/
def State.claimantEvent (s : State) (n : Fin 16) (claimant : Option Address) : State :=
  match claimant with
  | some a => s.toUnlocked n .acquiring (some a)
  | none => s.toUnlocked n .waiting none

/-! ## Placing a block -/

/-- The block record of a frame (R121). -/
def AudioFrame.blockRecord (f : AudioFrame) (b : BlockLength) (lockMark : Bool) : BlockRecord where
  stamp := f.stamp
  seq := f.seq
  channels := f.format.channels
  substituted := f.format.substituted
  lockMark := lockMark
  samples := payloadSamples b.samples f.format f.payload

/-- B as a 32-bit amount. -/
def BlockLength.word (b : BlockLength) : Word := BitVec.ofNat 32 b.samples

/-- The expected values moved past a frame (R119). -/
def Context.advance (x : Context) (b : BlockLength) (f : AudioFrame) : Context :=
  { x with expSeq := f.seq + 1, expStamp := f.stamp + b.word }

/-- What a lock and a relock set (R126, R127): the offset A − S + T, E, holdoff, no pending slip, runs at 0, the queue
holding this block alone with its lock mark, the expected values, the next boundary stamp, and the playout record's
part (R151, R153). `runOut` is the bridge. -/
def Context.align (x : Context) (g : Image) (f : AudioFrame) (a : Word) (runOut : Option RunOut) : Context :=
  let r := a - f.stamp + BitVec.ofNat 32 g.target
  ({ x with
    state := .locked
    r := r
    rPlay := r
    margin := 16 * g.target
    holdoff := g.slipHoldoff
    slip := .none
    lateRun := 0
    earlyRun := 0
    queue := [f.blockRecord g.block true]
    nextBoundary := f.stamp
    output := ⟨none, .none⟩
    conceal := 0
    runOut := runOut
    played := false
    values := x.valuesAtEnd }.advance g.block f).countOne .accepted

/-- A lock from ACQUIRING: a run-out in progress goes on, without one there is silence (R126, R153). -/
def Context.lock (x : Context) (g : Image) (f : AudioFrame) (a : Word) : Context := x.align g f a x.runOut

/-- A relock: counted, with a run-out as bridge (R127, R153). -/
def Context.relock (x : Context) (g : Image) (f : AudioFrame) (a : Word) : Context :=
  (x.align g f a x.runningOut).countOne .relocks

/-! ## The filter and slips (R133 to R136) -/

/-- E after an in-range block of margin m: moved toward 16 times the margin, a negative margin taken as 0, by the
difference over 2^k rounded to the nearest, halves upward (R133). -/
def filtered (k : Nat) (e m : Int) : Int := e + ((16 * max m 0 - e + 2 ^ (k - 1)) / 2 ^ k)

/-- The slip test (R135). -/
def Context.slipTest (x : Context) (g : Image) : Context :=
  if 16 * ((g.target : Int) + g.window) ≤ x.margin then
    { x with r := x.r - 1, margin := x.margin - 16, slip := .drop, holdoff := g.slipHoldoff }.countOne .dropSlips
  else if x.margin ≤ 16 * ((g.target : Int) - g.window) then
    { x with r := x.r + 1, margin := x.margin + 16, slip := .repeated, holdoff := g.slipHoldoff }.countOne .repeatSlips
  else x

/-- Step 4 of R132: the holdoff counts down, or at 0 with no slip pending the slip test runs (R134). -/
def Context.holdoffStep (x : Context) (g : Image) : Context :=
  if 0 < x.holdoff then { x with holdoff := x.holdoff - 1 }
  else if x.slip = .none then x.slipTest g else x

/-- The margin of a stamp under the offset R, at an arrival count (R128). -/
def Context.marginOf (x : Context) (stamp a : Word) : Int := signedDiff (stamp + x.r) a

/-- An in-range block: the runs go to 0, the block joins the tail, E is filtered, the holdoff or the slip test follows
(R132). -/
def Context.inRange (x : Context) (g : Image) (f : AudioFrame) (a : Word) : Context :=
  ({ x with
    lateRun := 0
    earlyRun := 0
    queue := x.queue ++ [f.blockRecord g.block false]
    margin := filtered g.shift x.margin (x.marginOf f.stamp a) }.countOne .accepted).holdoffStep g

/-! ## The tests (R113 to R119, R128 to R132) -/

/-- What an offer comes to. -/
inductive Offer where
  | declined
  | placed
  | locked
  | relocked
  deriving DecidableEq, Repr

/-- The SRX's answer: accept exactly when the block was placed (R120). -/
def Offer.accepted : Offer → Bool
  | .declined => false
  | .placed | .locked | .relocked => true

/-- The margin test: late, early, or in range (R129 to R132). -/
def Context.marginTest (x : Context) (g : Image) (f : AudioFrame) (a : Word) : Context × Offer :=
  if signedDiff f.stamp x.nextBoundary < 0 then
    let x := { x.countOne .late with lateRun := x.lateRun + 1, earlyRun := 0 }
    if g.limit ≤ x.lateRun then (x.relock g f a, .relocked) else (x, .declined)
  else if 7 * (g.block.samples : Int) ≤ x.marginOf f.stamp a ∨ Config.queueCapacity ≤ x.queue.length then
    let x := { x.countOne .early with earlyRun := x.earlyRun + 1, lateRun := 0 }
    if g.limit ≤ x.earlyRun then (x.relock g f a, .relocked) else (x, .declined)
  else (x.inRange g f a, .placed)

/-- The sequence and stamp tests on a LOCKED context (R117 to R119). -/
def Context.lockedTest (x : Context) (g : Image) (f : AudioFrame) (a : Word) : Context × Offer :=
  let d := (f.seq - x.expSeq).toNat
  if 32768 ≤ d then (x.countOne .duplicate, .declined)
  else if 256 ≤ d then (x.relock g f a, .relocked)
  else
    let x := x.countBy .lost d
    if f.stamp = x.expStamp + g.block.word * BitVec.ofNat 32 d then (x.advance g.block f).marginTest g f a
    else (x.relock g f a, .relocked)

/-- The tests on a frame of a subscribed stream, in the order of R113: origin, block length, state. -/
def Context.offer (x : Context) (g : Image) (f : AudioFrame) (a : Word) : Context × Offer :=
  if x.origin ≠ some f.origin then (x.countOne .unclaimed, .declined)
  else if f.format.blockCode ≠ g.block.code then (x.countOne .formatRefused, .declined)
  else
    match x.state with
    | .waiting => (x.countOne .unclaimed, .declined)
    | .acquiring => (x.lock g f a, .locked)
    | .locked => x.lockedTest g f a

/-- What an offer raises, and what a lock does to the fallback timers and the stream's channels (R126, R127, R170). -/
def State.offerEffects (s : State) (n : Fin 16) : Offer → State
  | .declined | .placed => s
  | .locked =>
    let s := s.raise .streamLocked
    let s := if s.returnStream = some n then s.stopFallback else s
    s.refreshStream n
  | .relocked => (s.raise .streamRelocked).refreshStream n

/-- The SRX is offered an AUDIO frame: the state after, and its answer (R113, R120, R122). The arrival count is the
sample count as it stands. -/
def State.offerToSrx (s : State) (f : AudioFrame) : State × Bool :=
  match s.inService, s.stc.image with
  | true, some g =>
    match g.subscriptionOf f.stream with
    | none => (s, false)
    | some n =>
      let r := s.srx[n].offer g f s.cap.count
      ((s.setContext n fun _ => r.1).offerEffects n r.2, r.2.accepted)
  | _, _ => (s, false)

end Sys2Proof.Machine
end

