-- ==== Sys2Proof/Machine/Boundaries.lean ====
section
/-! DEFINITION. Boundaries, run-outs and LISTEN playout ports (09 R144, R147 to R153): BLOCK_BOUNDARY, RUN_OUT_END,
PLAYOUT_FRAME_SYNC. -/

namespace Sys2Proof.Machine

/-- Subscription n's source index has reached its next boundary stamp (R147). -/
def State.blockBoundaryAt (s : State) (n : Fin 16) : Option Nat := s.nowIf (s.srx[n].atBoundary s.cap.count)

/-- A boundary of subscription n: the block is fixed and its index 0 sent, and then a pending slip is applied (R147,
R150). -/
def State.takeBoundary (s : State) (n : Fin 16) : State :=
  match s.stc.image with
  | none => s
  | some g =>
    ((s.setContext n (·.boundary g.block.samples s.cap.count)).refreshStream n).setContext n fun x =>
      if x.slip = .none then x else x.applySlip

/-- BLOCK_BOUNDARY (R147). -/
def execBlockBoundary (n : Fin 16) (s : State) : Result := s.takeEvent (s.blockBoundaryAt n) (·.takeBoundary n)

/-- The B samples of subscription n's run-out have been sent: the sample period of the last one is over (R152). -/
def State.runOutEndAt (s : State) (n : Fin 16) : Option Nat :=
  match s.stc.image, s.srx[n].runOut with
  | some g, some o => s.nowIf (decide (g.block.samples < o.sent))
  | _, _ => none

/-- A run-out ends, and the last played block becomes none (R152). -/
def Context.endRunOut (x : Context) : Context := { x with runOut := none, lastPlayed := none }

/-- RUN_OUT_END (R152). -/
def execRunOutEnd (n : Fin 16) (s : State) : Result :=
  s.takeEvent (s.runOutEndAt n) (·.setContext n Context.endRunOut)

/-- A boundary or a block tick of the present count is still to be taken, so its channel values are not yet all those
of the count (R147, R156). -/
def State.countOpen (s : State) : Bool :=
  s.cap.tickDue || (List.finRange 16).any fun n => s.srx[n].atBoundary s.cap.count

/-- The channel values a frame sync edge finds: those of the present count, or, between the increment and a boundary or
tick at it, those of the count before (R144; log entry 16). -/
def State.channelsAtEdge (s : State) : Vector Sample 32 := if s.countOpen then s.ply.before else s.ply.channels

/-- PLAYOUT_FRAME_SYNC (R144): a RUNNING LISTEN port latches its 8 channel values as they stand at the edge. -/
def execPlayoutFrameSync (q : Fin 4) (s : State) : Result :=
  match s.stc.image, s.cap.running with
  | some g, true =>
    if g.playout[q].listen then
      .next (s.withPly { s.ply with frames := modifyAt s.ply.frames q fun _ => some (portValues s.channelsAtEdge q) })
    else .next s
  | _, _ => .next s

end Sys2Proof.Machine
end

