-- ==== Sys2Proof/Machine/Clock.lean ====
section
/-! DEFINITION. The sample count and its clock (06 R86 to R89): WCLK_EDGE, WORD_CLOCK_LOSS, DIVIDER_INCREMENT,
QUALIFICATION_RUN_SILENCE. -/

namespace Sys2Proof.Machine

/-! ## Placing the frames of a CLOCKING port (R91) -/

/-- A sample frame of zeros. -/
def zeroFrame : PortFrame := Vector.replicate 8 0

/-- Frames with one placed at an index; indices before it that hold none take zeros. -/
def putFrame (frames : List PortFrame) (i : Nat) (f : PortFrame) : List PortFrame :=
  frames.take i ++ List.replicate (i - frames.length) zeroFrame ++ [f]

/-- The frame a CLOCKING port has been shifting in is placed at the index of its count increment (R90, R91). -/
def PortStore.finish (p : PortStore) (b : Nat) (stamp : Word) (f : PortFrame) : PortStore :=
  match p.shifting with
  | none => p
  | some t =>
    { p with
      frames := if (t - stamp).toNat < b then putFrame p.frames (t - stamp).toNat f else p.frames
      frameCount := p.frameCount + 1
      shifting := none
      last := some f }

/-- At a count increment a CLOCKING port's unfinished frame is placed as it stands, its bits taken as 0 (R91; log entry
11), and the frame of the new count begins; a LISTEN port keeps its own pace (R92). -/
def PortStore.nextFrame (p : PortStore) (c : CapturePort) (b : Nat) (stamp count : Word) : PortStore :=
  if c.listen then p else { p.finish b stamp zeroFrame with shifting := some count }

/-! ## The count increment (R86) -/

/-- What a count increment does once the configuration is loaded: a CLOCKING capture port begins a frame (R91), a tick
is due at a multiple of B (R93), run-outs go on (R152) and the channel values of the new count are computed (R144). -/
def State.countedOn (s : State) (g : Image) : State :=
  let s := s.withCap { s.cap with
    stores := if s.cap.running then
        Vector.ofFn fun q => (s.cap.stores[q]).nextFrame g.capture[q] g.block.samples s.cap.blockStamp s.cap.count
      else s.cap.stores
    tickDue := decide (s.cap.count.toNat % g.block.samples = 0) }
  let s := s.withSrx (mapAll (Context.newCount g.block.samples s.cap.count) s.srx)
  (s.withPly { s.ply with before := s.ply.channels }).refreshAll

/-- The sample count advances by one (R86). -/
def State.countIncrement (s : State) : State :=
  let s := s.withCap { s.cap with count := s.cap.count + 1 }
  match s.stc.image with
  | some g => s.countedOn g
  | none => s

/-! ## The divider (R87, R89) -/

/-- The internal divider reaches 512 REFCLK periods, in INTERNAL and HOLDOVER, from the release of RESET_N on. -/
def State.dividerIncrementAt (s : State) : Option Nat :=
  match s.stc.held, s.cap.clock with
  | false, .internal | false, .holdover => some (s.cap.dividerAt + Config.dividerPeriods * Config.refPeriod)
  | _, _ => none

/-- The divider increments the count and starts its next 512 periods. -/
def State.dividerIncrement (s : State) : State :=
  (s.withCap { s.cap with dividerAt := s.cap.dividerAt + Config.dividerPeriods * Config.refPeriod }).countIncrement

/-- DIVIDER_INCREMENT (R87, R89). -/
def execDividerIncrement (s : State) : Result := s.takeEvent s.dividerIncrementAt State.dividerIncrement

/-! ## The word clock (R87 to R89) -/

/-- A rising edge now is good: it follows the previous one by 448 to 576 REFCLK periods (R87). -/
def State.edgeGood (s : State) : Bool :=
  match s.cap.lastEdge with
  | none => false
  | some t => decide (Config.goodMin ≤ s.periodsSince t ∧ s.periodsSince t ≤ Config.goodMax)

/-- An edge in WORDCLOCK: counted 448 periods or more after the last counted edge, else ignored (R88). -/
def State.edgeInWordclock (s : State) : State :=
  if Config.goodMin ≤ s.periodsSince s.cap.countedAt then
    (s.withCap { s.cap with countedAt := s.now }).countIncrement
  else s

/-- An edge in HOLDOVER moves the qualification run; the 48th good edge returns the count to the word clock without
incrementing it (R89). What the run holds in WORDCLOCK the spec leaves open: the model sets it to 0 at that edge (DESIGN
CHOICE, log entry 30). -/
def State.edgeInHoldover (s : State) (good : Bool) : State :=
  if !good then s.withCap { s.cap with qualRun := 0 }
  else if s.cap.qualRun + 1 < Config.qualifyingRun then s.withCap { s.cap with qualRun := s.cap.qualRun + 1 }
  else s.withCap { s.cap with clock := .wordclock, qualRun := 0, countedAt := s.now }

/-- A rising edge of WCLK now. It is watched under the EXTERNAL strap from the release of RESET_N (R87). -/
def State.wclkEdge (s : State) : State :=
  if s.stc.held then s
  else
    let good := s.edgeGood
    match s.cap.clock with
    | .internal => s
    | .wordclock => (s.withCap { s.cap with lastEdge := some s.now }).edgeInWordclock
    | .holdover => (s.withCap { s.cap with lastEdge := some s.now }).edgeInHoldover good

/-- WCLK_EDGE (R87 to R89): the REFCLK periods named pass, and WCLK rises. -/
def execWclkEdge (periods : Nat) (s : State) : Result :=
  .next (s.waitUntil (s.now + periods * Config.refPeriod)).wclkEdge

/-- 2048 REFCLK periods after the last counted edge in WORDCLOCK (R88). -/
def State.wordClockLossAt (s : State) : Option Nat :=
  match s.cap.clock with
  | .wordclock => some (s.cap.countedAt + Config.clockLossPeriods * Config.refPeriod)
  | .internal | .holdover => none

/-- CLOCK_HOLDOVER is raised and the entry counted (R88); but until a good load the flags stay clear and the counters at
their reset values (R178, R182, R184, R188, R191; log entry 26). -/
def State.reportHoldover (s : State) : State :=
  if s.stc.load = .loaded then (s.raise .clockHoldover).countOne .holdoverEntries else s

/-- Word clock loss: HOLDOVER, the flag, the counter, and one increment; the divider runs from here (R88, R89). -/
def State.wordClockLost (s : State) : State :=
  let s := s.withCap { s.cap with clock := .holdover, qualRun := 0, dividerAt := s.now }
  s.reportHoldover.countIncrement

/-- A count increment is due by now and still to be taken: the divider's, or that of a word clock loss. An arrival at
its instant latches the count after it, so it is taken first (R113). -/
def State.incrementDue (s : State) : Bool :=
  s.dividerIncrementAt.any (fun t => decide (t ≤ s.now)) || s.wordClockLossAt.any (fun t => decide (t ≤ s.now))

/-- WORD_CLOCK_LOSS (R88). -/
def execWordClockLoss (s : State) : Result := s.takeEvent s.wordClockLossAt State.wordClockLost

/-- 577 REFCLK periods without an edge in HOLDOVER, while a qualification run stands (R89). -/
def State.qualificationSilenceAt (s : State) : Option Nat :=
  match s.cap.clock, s.cap.lastEdge with
  | .holdover, some t =>
    if 0 < s.cap.qualRun then some (t + Config.silencePeriods * Config.refPeriod) else none
  | _, _ => none

/-- The silence returns the qualification run to 0 (R89). -/
def State.qualificationSilence (s : State) : State := s.withCap { s.cap with qualRun := 0 }

/-- QUALIFICATION_RUN_SILENCE (R89). -/
def execQualificationRunSilence (s : State) : Result :=
  s.takeEvent s.qualificationSilenceAt State.qualificationSilence

end Sys2Proof.Machine
end

