-- ==== Sys2Proof/Machine/Capture.lean ====
section
/-! DEFINITION. The capture ports and block assembly (06 R90 to R101): CLOCKING_FRAME_COMPLETE, CAPTURE_FRAME_RECEIVED,
BLOCK_TICK. -/

namespace Sys2Proof.Machine

/-! ## Frames of the ports (R90 to R92) -/

/-- The sample in the first bits of a slot, two's complement of the port's sample width (R90). -/
def slotSample (wide : Bool) (bits : BitVec 32) : Sample :=
  if wide then (bits.extractLsb' 8 24).toInt else (bits.extractLsb' 16 16).toInt

/-- A frame of 8 samples; a slot with no bits shifted in is 0 (R91). -/
def portFrameOf (wide : Bool) (slots : List (BitVec 32)) : PortFrame :=
  Vector.ofFn fun i => slotSample wide (slots.getD i.val 0#32)

/-- A capture port's store changed. -/
def State.setStore (s : State) (q : Fin 2) (f : PortStore → PortStore) : State :=
  s.withCap { s.cap with stores := modifyAt s.cap.stores q f }

/-- CLOCKING_FRAME_COMPLETE (R91): the last bit of slot 7 is in, and the frame is placed. -/
def execClockingFrameComplete (q : Fin 2) (slots : List (BitVec 32)) (s : State) : Result :=
  match s.stc.image, s.cap.running && wfSlots slots with
  | some g, true =>
    if g.capture[q].listen then .next s
    else .next (s.setStore q (·.finish g.block.samples s.cap.blockStamp (portFrameOf g.capture[q].wide slots)))
  | _, _ => .next s

/-- A LISTEN port's whole frame is placed at the next free index, or only counted when B stand (R92). -/
def PortStore.receive (p : PortStore) (b : Nat) (f : PortFrame) : PortStore :=
  if p.frameCount < b then { p with frames := p.frames ++ [f], frameCount := p.frameCount + 1, last := some f }
  else { p with frameCount := p.frameCount + 1 }

/-- CAPTURE_FRAME_RECEIVED (R92): a LISTEN port has shifted in 8 slots; fewer are a partial frame, which is discarded. -/
def execCaptureFrameReceived (q : Fin 2) (slots : List (BitVec 32)) (s : State) : Result :=
  match s.stc.image, s.cap.running && decide (slots.length = 8) with
  | some g, true =>
    if g.capture[q].listen then
      .next (s.setStore q (·.receive g.block.samples (portFrameOf g.capture[q].wide slots)))
    else .next s
  | _, _ => .next s

/-! ## Gates (R96) -/

/-- Key input i is HELD (R159). -/
def State.inputHeld (s : State) (i : Nat) : Bool := s.pos.held.getLsbD i

/-- A gallery input mapped as TALK with position p is held (R96, R174). -/
def State.talkInputHeld (s : State) (g : Image) (p : Fin 4) : Bool :=
  (List.finRange 16).any fun i =>
    g.inputs[i].use == .talk && g.inputs[i].position.toNat == p.val && s.inputHeld i.val

/-- The gate of a gating mode (R96). -/
def State.gateOpen (s : State) (g : Image) : Gating → Bool
  | .always => true
  | .onAir p => !s.venue || !(s.inputHeld (4 * p.val) || s.inputHeld (4 * p.val + 1))
  | .talk p => if s.venue then s.inputHeld (4 * p.val + 1) else s.talkInputHeld g p

/-- The gates of every channel of every sourced stream (R96); a channel that is not configured has none. -/
def State.gatesNow (s : State) (g : Image) : Vector (Vector Bool 4) 4 :=
  Vector.ofFn fun i => Vector.ofFn fun c =>
    match (g.source i).bind (·.channels[c.val]?) with
    | some ch => s.gateOpen g ch.gating
    | none => false

/-! ## Assembly (R97 to R99) -/

/-- A capture sample carried at a stream's width (R98). -/
def convertWidth (portWide streamWide : Bool) (x : Sample) : Sample :=
  match portWide, streamWide with
  | true, false => x / 256
  | false, true => x * 256
  | true, true | false, false => x

/-- A channel's sample of index i of a block of b, gated (R97). -/
def gatedSample (was now : Bool) (b i : Nat) (x : Sample) : Sample :=
  match was, now with
  | true, true => x
  | true, false => fadeSample .out b i x
  | false, true => fadeSample .into b i x
  | false, false => 0

/-- The sample of a capture channel at an index of the block just ended; zero where no frame was received (R94). -/
def Cap.blockSample (c : Cap) (ch : Fin 16) (i : Nat) : Sample :=
  match (c.stores[capturePortOf ch]).frames[i]? with
  | some f => f[slotOf ch]
  | none => 0

/-- The sample a stream carries of a channel at an index (R97, R98). -/
def State.channelSample (s : State) (g : Image) (c : Source) (ch : SourceChannel) (was now : Bool) (i : Nat) : Sample :=
  gatedSample was now g.block.samples i
    (convertWidth g.capture[capturePortOf ch.capture].wide c.wide (s.cap.blockSample ch.capture i))

/-- The payload of a sourced stream's block (R10, R98). -/
def State.blockPayload (s : State) (g : Image) (c : Source) (was now : Vector Bool 4) : List Octet :=
  (List.range g.block.samples).flatMap fun i =>
    (List.finRange 4).flatMap fun k =>
      match c.channels[k.val]? with
      | some ch => sampleOctets c.wide (s.channelSample g c ch was[k] now[k] i)
      | none => []

/-- A stream draws on a port whose status is not OK (R99). -/
def Source.substituted (c : Source) (statuses : Vector BlockStatus 2) : Bool :=
  c.channels.any fun ch => statuses[capturePortOf ch.capture] != .ok

/-- The AUDIO frame of a sourced stream's block (R98, R99). -/
def State.buildAudio (s : State) (g : Image) (i : Fin 4) (c : Source) (gates : Vector (Vector Bool 4) 4)
    (statuses : Vector BlockStatus 2) : AudioFrame where
  origin := s.address
  stream := c.id
  seq := s.cap.seqs[i]
  stamp := s.cap.count - g.block.word
  format := c.format g.block (c.substituted statuses)
  payload := s.blockPayload g c s.cap.gates[i] gates[i]

/-- The block of one sourced stream: built if it is HELD, its sequence advancing, and offered in ACTIVE (R98, R100,
R101). -/
def State.assembleOne (g : Image) (gates : Vector (Vector Bool 4) 4) (statuses : Vector BlockStatus 2) (s : State)
    (i : Fin 4) : State :=
  match g.source i, s.pru.claims[i] with
  | some c, .held =>
    let f := s.buildAudio g i c gates statuses
    let s := s.withCap { s.cap with seqs := modifyAt s.cap.seqs i (· + 1) }
    if s.atc.state = .active then s.offerAudio f else s
  | _, _ => s

/-! ## Block ticks (R93 to R95) -/

/-- A block's status from its frame count (R94). -/
def blockStatus (b n : Nat) : BlockStatus :=
  if n = 0 then .fault else if n < b then .short else if n = b then .ok else .long

/-- A port's status is fixed: recorded, and raised and counted when it is not OK (R94). -/
def State.fixStatus (b : Nat) (s : State) (q : Fin 2) : State :=
  let status := blockStatus b (s.cap.stores[q]).frameCount
  let s := s.setStore q fun p => { p with status := status }
  if status = .ok then s else (s.raise .captureFault).countOne (.irregular q)

/-- A store emptied for the block that begins (R93); the frame being shifted in and the last placed one stay. -/
def PortStore.emptied (p : PortStore) : PortStore := { p with frames := [], frameCount := 0 }

/-- A new block begins at this count: the stores are empty and no tick is due (R93). -/
def Cap.beginBlock (c : Cap) : Cap :=
  { c with stores := mapAll PortStore.emptied c.stores, tickDue := false, blockStamp := c.count }

/-- The opening tick: the ports become RUNNING, a CLOCKING port begins the frame of this count, and the gates are
recorded; no block is built (R93, R96). -/
def State.openingTick (s : State) (g : Image) : State :=
  let gates := s.gatesNow g
  s.withCap { s.cap.beginBlock with
    running := true
    stores := Vector.ofFn fun q =>
      { (s.cap.stores[q]).emptied with shifting := if g.capture[q].listen then none else some s.cap.count }
    gates := gates }

/-- A wrap tick: the stores are emptied and nothing is built (R95). -/
def State.wrapTick (s : State) : State := s.withCap s.cap.beginBlock

/-- A tick that builds blocks: statuses, then the blocks of HELD streams, then empty stores; the gates evaluated become
the recorded ones (R93, R96); then the arbiter acts on the frames that join the queue (R44). -/
def State.buildingTick (s : State) (g : Image) : State :=
  let gates := s.gatesNow g
  let s := (List.finRange 2).foldl (State.fixStatus g.block.samples) s
  let statuses := mapAll (·.status) s.cap.stores
  let s := (List.finRange 4).foldl (State.assembleOne g gates statuses) s
  (s.withCap { s.cap.beginBlock with gates := gates }).decideStart

/-- The count has come to a multiple of B and its tick is to be taken (R93). -/
def State.blockTickAt (s : State) : Option Nat := s.nowIf s.cap.tickDue

/-- A block tick: opening, wrap or building, and then the headphone sources (R93, R95, R156). -/
def State.blockTick (s : State) : State :=
  match s.stc.image with
  | none => s
  | some g =>
    (if !s.cap.running then s.openingTick g
     else if s.cap.count = 0#32 then s.wrapTick
     else s.buildingTick g).switchHeadphones

/-- BLOCK_TICK (R93). -/
def execBlockTick (s : State) : Result := s.takeEvent s.blockTickAt State.blockTick

end Sys2Proof.Machine
end

