-- ==== Sys2Proof/Machine/Cues.lean ====
section
/-! DEFINITION. Cues built and received, key events and lamps (10_commentary_positions_and_cues.md). -/

namespace Sys2Proof.Machine

/-! ## Building cues (R163) -/

/-- A cue the POS builds, with the next cue tag (R163). -/
def State.cueNow (s : State) (destination : Address) (code : CueCode) (position : BitVec 4) : CueFrame :=
  ⟨s.address, destination, code, position, s.pos.cueTag⟩

/-- The POS builds a cue and offers it at once; the cue tag counter advances (R163). -/
def State.buildCue (s : State) (destination : Address) (code : CueCode) (position : BitVec 4) : State :=
  (s.withPos { s.pos with cueTag := s.pos.cueTag + 1 }).offerCue (s.cueNow destination code position)

/-! ## Key events (R159, R162, R164, R171, R174) -/

/-- A position's number as a cue's position field. -/
def positionField (p : Fin 4) : BitVec 4 := BitVec.ofNat 4 p.val

/-- A press of TALK: in ACTIVE a TALK_REQUEST is built, its tag recorded and the lamp set to FLASH; in any other state
nothing (R164). -/
def State.pressTalk (s : State) (g : Image) (p : Fin 4) : State :=
  if s.atc.state = .active then
    (s.setPosition p fun q => { q with tag := some s.pos.cueTag, talk := .flash }).buildCue g.gallery .talkRequest
      (positionField p)
  else s

/-- A release of TALK: the lamp OFF and the tag none; in ACTIVE a TALK_CLEAR is built (R164). -/
def State.releaseTalk (s : State) (g : Image) (p : Fin 4) : State :=
  let s := s.setPosition p fun q => { q with talk := .off, tag := none }
  if s.atc.state = .active then s.buildCue g.gallery .talkClear (positionField p) else s

/-- The return programme's context is LOCKED, and a boundary has played a queued block since (R171). -/
def State.returnHeard (s : State) (g : Image) : Bool :=
  match g.designated .programme with
  | some n => s.srx[n].state == .locked && s.srx[n].played
  | none => false

/-- A press of ACK clears the position's latch when the return is LOCKED and has played (R171). -/
def State.pressAck (s : State) (g : Image) (p : Fin 4) : State :=
  if s.returnHeard g then s.setPosition p fun q => { q with latch := false } else s

/-- The position of a key input at a venue (R161). -/
def positionOfInput (i : Fin 16) : Fin 4 := ⟨i.val / 4, by omega⟩

/-- A key event at a venue: TALK and ACK act, COUGH acts through gating alone, the fourth input is not used
(R161, R162). -/
def State.venueKey (s : State) (g : Image) (i : Fin 16) (press : Bool) : State :=
  match i.val % 4, press with
  | 1, true => s.pressTalk g (positionOfInput i)
  | 1, false => s.releaseTalk g (positionOfInput i)
  | 2, true => s.pressAck g (positionOfInput i)
  | _, _ => s

/-- The cue code of a gallery input's press or release (R174). -/
def InputUse.code : InputUse → Bool → Option CueCode
  | .unused, _ => none
  | .tally, true => some .onAir
  | .tally, false => some .offAir
  | .talk, true => some .talkbackOpen
  | .talk, false => some .talkbackClose

/-- A key event at the gallery builds the mapped cue in ACTIVE (R174). -/
def State.galleryKey (s : State) (g : Image) (i : Fin 16) (press : Bool) : State :=
  match g.inputs[i].use.code press with
  | some code => if s.atc.state = .active then s.buildCue g.inputs[i].venue code g.inputs[i].position else s
  | none => s

/-- A press or release is delivered (R159). -/
def State.keyEvent (s : State) (g : Image) (i : Fin 16) (press : Bool) : State :=
  if s.venue then s.venueKey g i press else s.galleryKey g i press

/-- One input's debounced state set to HELD or RELEASED. -/
def setHeld (held : BitVec 16) (i : Fin 16) (press : Bool) : BitVec 16 :=
  if press then held ||| (1#16 <<< i.val) else held &&& ~~~(1#16 <<< i.val)

/-- One input is judged at the end of a scan (R159). -/
def State.judgeInput (g : Image) (raw : BitVec 16) (s : State) (i : Fin 16) : State :=
  let sample := raw.getLsbD i.val
  if sample = s.pos.held.getLsbD i.val then
    s.withPos { s.pos with agreement := modifyAt s.pos.agreement i fun _ => 0 }
  else if s.pos.agreement[i] + 1 < g.debounce then
    s.withPos { s.pos with agreement := modifyAt s.pos.agreement i (· + 1) }
  else
    (s.withPos { s.pos with
      agreement := modifyAt s.pos.agreement i fun _ => 0
      held := setHeld s.pos.held i sample }).keyEvent g i sample

/-- A scan is judged, its key events delivered in input order (R158, R159). -/
def State.judgeScan (s : State) (g : Image) (raw : BitVec 16) : State :=
  (List.finRange 16).foldl (State.judgeInput g raw) s

/-! ## Receiving cues (R166, R167, R175) -/

/-- The positions a cue's position field names: one, or all four for 15 (R167). -/
def namesPosition (field : BitVec 4) (p : Fin 4) : Bool := field.toNat == p.val || field.toNat == Config.allPositions

/-- An accepted cue's effect on a venue position it names (R167). -/
def CueCode.onPosition (c : CueCode) (p : Position) : Position :=
  match c with
  | .onAir => { p with onAir := true }
  | .offAir => { p with onAir := false }
  | .talkbackOpen => { p with talkback := true }
  | .talkbackClose => { p with talkback := false }
  | .talkRequest | .talkClear => p

/-- An accepted cue at a venue acts on each position it names (R167). -/
def State.venueCue (s : State) (f : CueFrame) : State :=
  s.withPos { s.pos with
    positions := Vector.ofFn fun p =>
      if namesPosition f.position p then (f.code.onPosition s.pos.positions[p]).judged else s.pos.positions[p] }

/-- The gallery lamps a cue names: those mapped to its origin and position, or for position 15 to its origin (R175). -/
def Image.lampsNamed (g : Image) (f : CueFrame) : BitVec 16 :=
  if f.position.toNat = Config.allPositions then g.lampsOf f.origin none
  else match positionOf f.position with
    | some p => g.lampsOf f.origin (some p)
    | none => 0#16

/-- An accepted TALK_REQUEST or TALK_CLEAR at the gallery sets the lamps it names ON or OFF (R175). -/
def State.galleryCue (s : State) (g : Image) (f : CueFrame) : State :=
  match f.code with
  | .talkRequest => s.withPos { s.pos with lamps := s.pos.lamps ||| g.lampsNamed f }
  | .talkClear => s.withPos { s.pos with lamps := s.pos.lamps &&& ~~~(g.lampsNamed f) }
  | .onAir | .offAir | .talkbackOpen | .talkbackClose => s

/-- Test 4 of R166: the cue has a meaning for the station's role. -/
def State.cueMeaningful (s : State) (g : Image) (f : CueFrame) : Bool :=
  cuePosition f.position.toNat &&
    if s.venue then
      f.origin == g.gallery &&
        match f.code with
        | .onAir | .offAir | .talkbackOpen | .talkbackClose => true
        | .talkRequest | .talkClear => false
    else
      match f.code with
      | .talkRequest | .talkClear => g.lampsNamed f != 0#16
      | .onAir | .offAir | .talkbackOpen | .talkbackClose => false

/-- The POS judges an offered CUE in ACTIVE by the tests of R166: origin present, duplicate, destination, meaning. -/
def State.takeCue (s : State) (g : Image) (f : CueFrame) (i : Fin 30) : State × Bool :=
  if !s.pru.peers[i].present then (s.countOne .cuesIgnored, false)
  else if s.pos.lastTags[i] = some f.tag then (s.countOne .cueDuplicates, false)
  else
    let s := s.withPos { s.pos with lastTags := modifyAt s.pos.lastTags i fun _ => some f.tag }
    if ¬ (f.destination = s.address ∨ f.destination = BitVec.ofNat 5 Config.everyStation) then (s, false)
    else if !s.cueMeaningful g f then (s.countOne .cuesIgnored, false)
    else ((if s.venue then s.venueCue f else s.galleryCue g f).countOne .cuesAccepted, true)

/-- The POS is offered a CUE: declined without a look in PROVING and LEAVING (R166). -/
def State.offerToPos (s : State) (f : CueFrame) : State × Bool :=
  match s.atc.state, s.stc.image, placeOf f.origin.toNat with
  | .active, some g, some i => s.takeCue g f i
  | _, _, _ => (s, false)

end Sys2Proof.Machine
end

