-- ==== Sys2Proof/Machine/Controls.lean ====
section
/-! DEFINITION. The panel's own events (10 R158 to R170): KEY_SCAN, FALLBACK_TIMER_EXPIRY, FLASH_TIMER_TOGGLE. -/

namespace Sys2Proof.Machine

/-- The configuration is loaded and the station is out of reset. -/
def State.loaded (s : State) : Bool := !s.stc.held && s.stc.load == .loaded

/-- A second in instants, which every scan rate divides. -/
def secondTime : Nat := 1000 * Config.millisecond

/-- The next scan ends one scan period after the last, or after the good load (R158). -/
def State.keyScanAt (s : State) : Option Nat :=
  match s.loaded, s.stc.image with
  | true, some g => some (s.pos.scanAt + secondTime / g.scanRate)
  | _, _ => none

/-- A scan ends: its samples are judged together (R158, R159), and the arbiter acts on the cues that join the queue
(R44). -/
def State.keyScan (s : State) (raw : BitVec 16) : State :=
  match s.stc.image with
  | none => s
  | some g => ((s.withPos { s.pos with scanAt := s.now }).judgeScan g raw).decideStart

/-- KEY_SCAN (R158, R159). -/
def execKeyScan (raw : BitVec 16) (s : State) : Result := s.takeEvent s.keyScanAt (·.keyScan raw)

/-- The fallback timer of a venue position reaches the fallback time (R170). -/
def State.fallbackTimerAt (s : State) (p : Fin 4) : Option Nat :=
  match s.loaded && s.venue, s.stc.image, s.pos.positions[p].timer with
  | true, some g, .running since => some (since + g.fallback * Config.millisecond)
  | _, _, _ => none

/-- FALLBACK_TIMER_EXPIRY (R170). -/
def execFallbackTimerExpiry (p : Fin 4) (s : State) : Result :=
  s.takeEvent (s.fallbackTimerAt p) (·.latchFallback p)

/-- The flash timer's next change, from the release of RESET_N on (R160). -/
def State.flashTimerAt (s : State) : Option Nat :=
  if s.stc.held then none else some (s.pos.flashAt + Config.flashMs * Config.millisecond)

/-- The flash timer changes between lit and dark (R160). -/
def State.toggleFlash (s : State) : State :=
  s.withPos { s.pos with flashLit := !s.pos.flashLit, flashAt := s.pos.flashAt + Config.flashMs * Config.millisecond }

/-- FLASH_TIMER_TOGGLE (R160). -/
def execFlashTimerToggle (s : State) : Result := s.takeEvent s.flashTimerAt State.toggleFlash

end Sys2Proof.Machine
end

