-- ==== Sys2Proof/Machine/Transit.lean ====
section
/-! DEFINITION. The transit list: entries, matching, losses, late returns, foreign frames and abandonment
(04_the_transit_list.md). -/

namespace Sys2Proof.Machine

/-- The report a cue entry carries; absent for the other kinds (R52). -/
def Frame.cueReport : Frame → Option CueReport
  | .cue f => some f.report
  | .audio _ | .announce _ => none

/-- The transit entry of a frame started at a ring time (R52). -/
def Frame.entry (f : Frame) (start : Word) : Entry := ⟨f.identity, start, f.cueReport⟩

/-- A sourced stream's heard state is set (R63, R65). -/
def State.setHeard (s : State) (i : Fin 4) (h : Heard) : State :=
  s.withTrm { s.trm with heard := modifyAt s.trm.heard i fun _ => h }

/-! ## Outcomes (R62 to R64) -/

/-- The loss outcome of an entry, by its kind (R56). -/
def State.lossOutcome (s : State) (e : Entry) : State :=
  match e.identity, e.cue with
  | .announce _, _ => s.closureOutcome .opened
  | .audio id _, _ =>
    match s.stc.image.bind (·.sourceOf id) with
    | some i => s.setHeard i .unheard
    | none => s
  | .cue _, some c => s.cueUndelivered c
  | .cue _, none => s

/-- A round trip is recorded (R62). -/
def State.recordTrip (s : State) (trip : Word) : State :=
  s.withTrm { s.trm with
    lastTrip := trip
    maxTrip := if s.trm.maxTrip.toInt < trip.toInt then trip else s.trm.maxTrip }

/-- The return outcome of an entry, by its kind and the copied flag (R55, R62 to R64). -/
def State.returnOutcome (s : State) (e : Entry) (copied : Bool) : State :=
  match e.identity, e.cue with
  | .announce _, _ => (s.recordTrip (s.ringTime - e.start)).closureOutcome .closed
  | .audio id _, _ =>
    match s.stc.image.bind (·.sourceOf id) with
    | some i => if copied then s.setHeard i .heard else (s.setHeard i .unheard).countOne (.unheard i)
    | none => s
  | .cue _, some c => if copied then s.cueOutcome c true else s.cueUndelivered c
  | .cue _, none => s

/-! ## Leaving the list -/

/-- The head entry is removed. -/
def State.dropHead (s : State) : State := s.withTrm { s.trm with transit := s.trm.transit.drop 1 }

/-- The head entry is lost by skip (R56). -/
def State.skipHead (s : State) (e : Entry) : State := (s.dropHead.countOne .skipLosses).lossOutcome e

/-- An identity joins the expired list, the oldest of 16 making room (R59). -/
def expire (l : List Identity) (i : Identity) : List Identity :=
  (if l.length < Config.expiredCapacity then l else l.drop 1) ++ [i]

/-- The head entry is lost by timeout (R57). -/
def State.timeoutHead (s : State) (e : Entry) : State :=
  let s := (s.dropHead.countOne .timeoutLosses).lossOutcome e
  s.withTrm { s.trm with expired := expire s.trm.expired e.identity }

/-- The return timeout in microseconds (R57). -/
def State.returnTimeoutUs (s : State) : Nat :=
  match s.stc.image with
  | some g => g.returnTimeout * 1000
  | none => 0

/-- An entry has been out longer than the return timeout (R57). -/
def State.overdue (s : State) (e : Entry) : Bool :=
  decide ((s.returnTimeoutUs : Int) < signedDiff s.ringTime e.start)

/-- Each head that has exceeded the return timeout is lost, in list order, until the head is within it (R55, R57). The
list is the transit list as it stands. Heads of one start microsecond are lost together, also where a frame that
returns at that instant is taken after the timeout (R58; log entry 25). -/
def State.timeoutHeads : List Entry → State → State
  | [], s => s
  | e :: es, s => if s.overdue e then State.timeoutHeads es (s.timeoutHead e) else s

/-! ## A stripped frame (R54 to R61) -/

/-- A head match: the head is removed and counted returned, its return outcome is delivered, and the new head is judged
(R55). -/
def State.headMatch (s : State) (e : Entry) (copied : Bool) : State :=
  let s := (s.dropHead.countOne .ownReturned).returnOutcome e copied
  State.timeoutHeads s.trm.transit s

/-- A late return: the oldest matching identity leaves the expired list (R60). -/
def State.lateReturn (s : State) (i : Identity) : State :=
  (s.withTrm { s.trm with expired := s.trm.expired.erase i }).countOne .lateReturns

/-- A foreign frame; the one that brings the count to 3 halts the station (R61). -/
def State.foreignFrame (s : State) : State :=
  let s := s.countOne .foreignFrames
  let n := addUpTo Config.conflictCeiling s.trm.conflicts 1
  let s := s.withTrm { s.trm with conflicts := n }
  if n = Config.conflictLimit then (s.raise .addressConflict).conflictHalt else s

/-- The TRM settles a stripped frame: the transit list first, then the expired list (R54, R56). The arbiter acts on the
entry freed and on a change of the attachment state (R44). -/
def State.stripped (s : State) (i : Identity) (copied : Bool) : State :=
  let ahead := s.trm.transit.takeWhile (·.identity ≠ i)
  match s.trm.transit.dropWhile (·.identity ≠ i) with
  | e :: _ => ((ahead.foldl State.skipHead s).headMatch e copied).decideStart
  | [] => if i ∈ s.trm.expired then s.lateReturn i else s.foreignFrame

/-! ## Abandonment (R53) -/

/-- An entry on the list at a release is counted abandoned, and a cue reported undelivered (R53). -/
def State.abandon (s : State) (e : Entry) : State :=
  let s := s.countOne .abandoned
  match e.cue with
  | some c => s.cueUndelivered c
  | none => s

/-- At the release ending a leave the transit entries are abandoned, oldest first, the lists emptied and the heard
states UNKNOWN (R53, R65). -/
def State.abandonTransit (s : State) : State :=
  let s := s.trm.transit.foldl State.abandon s
  s.withTrm { s.trm with transit := [], expired := [], heard := Vector.replicate 4 .unknown }

end Sys2Proof.Machine
end

