-- ==== Sys2Proof/Machine/Presence.lean ====
section
/-! DEFINITION. The peer table, claims and claimant events (05_presence_and_stream_claims.md). -/

namespace Sys2Proof.Machine

/-! ## Claims (R79, R80, R82) -/

/-- An entry's stream list names an ID. -/
def Peer.lists (p : Peer) (id : StreamId) : Bool := p.streams.any (·.id = id)

/-- A PRESENT peer at a place lists an ID. -/
def Pru.listedAt (u : Pru) (id : StreamId) (i : Fin 30) : Bool := u.peers[i].present && u.peers[i].lists id

/-- A PRESENT peer of lower address than the station's lists the ID (R80). -/
def Pru.lowerLists (u : Pru) (own : Address) (id : StreamId) : Bool :=
  (List.finRange 30).any fun i => u.listedAt id i && decide (i.val + 1 < own.toNat)

/-- The lowest PRESENT peer that lists an ID: the claimant of a subscribed ID (R79). -/
def Pru.claimant (u : Pru) (id : StreamId) : Option Address :=
  ((List.finRange 30).find? (u.listedAt id)).map addressAt

/-- The claim state that the peer table gives a sourced stream (R80); an entry without a stream stays HELD. -/
def State.claimNow (s : State) (g : Image) (i : Fin 4) : Claim :=
  match g.source i with
  | some c => if s.pru.lowerLists s.address c.id then .yielded else .held
  | none => .held

/-- One sourced stream's claim state is resolved (R80): a yield raises CLAIM_YIELDED and makes the heard state UNKNOWN,
a resumption raises CLAIM_RESUMED. -/
def State.resolveSource (g : Image) (s : State) (i : Fin 4) : State :=
  let c := s.claimNow g i
  if s.pru.claims[i] = c then s
  else
    let s := s.withPru { s.pru with claims := modifyAt s.pru.claims i fun _ => c }
    match c with
    | .yielded => (s.raise .claimYielded).setHeard i .unknown
    | .held => s.raise .claimResumed

/-- One subscription's claimant is compared with the one last reported; a difference is a claimant event (R82). -/
def State.resolveSubscription (g : Image) (s : State) (n : Fin 16) : State :=
  match g.subscription n with
  | none => s
  | some u =>
    let a := s.pru.claimant u.id
    if s.pru.reported[n] = a then s
    else (s.withPru { s.pru with reported := modifyAt s.pru.reported n fun _ => a }).claimantEvent n a

/-- Claims are resolved again: sourced streams, one announce if any changed in PROVING or ACTIVE (R70), then the
claimant events in the order of the subscription table (R80, R82). -/
def State.resolveClaims (s : State) : State :=
  match s.stc.image with
  | none => s
  | some g =>
    let before := s.pru.claims
    let s := (List.finRange 4).foldl (State.resolveSource g) s
    let s := if s.pru.claims ≠ before ∧ s.inService then s.announce false else s
    (List.finRange 16).foldl (State.resolveSubscription g) s

/-! ## Announces (R73 to R76) -/

/-- The entries of a stream list whose ID is not among those seen before it. -/
def onceEachAfter (seen : List StreamId) : List StreamEntry → List StreamEntry
  | [] => []
  | e :: es => if e.id ∈ seen then onceEachAfter seen es else e :: onceEachAfter (e.id :: seen) es

/-- A stream list with an ID named twice taken as naming it once, with its first entry (R73). -/
def onceEach (es : List StreamEntry) : List StreamEntry := onceEachAfter [] es

/-- The advertised period a receiver takes, 4 to 250 ms (R11). -/
def periodTaken (p : Half) : Nat := clampTo 4 250 p.toNat

/-- The entry an announce makes of a peer table place (R72, R74 to R76). -/
def AnnounceFrame.peer (f : AnnounceFrame) (present : Bool) (time : Word) : Peer where
  present := present
  role := f.role
  name := f.name
  model := f.model
  check := f.check
  period := periodTaken f.period
  lastSeq := f.seq
  flags := f.flags
  streams := onceEach f.streams
  lastTime := time

/-- A place of the peer table is replaced. -/
def State.setPeer (s : State) (i : Fin 30) (p : Peer) : State :=
  s.withPru { s.pru with peers := modifyAt s.pru.peers i fun _ => p }

/-- A peer's entry has become ABSENT: PEER_EXPIRED is raised, claims are resolved and the departure is reported
(R76, R77, R83). -/
def State.departure (s : State) (i : Fin 30) : State := ((s.raise .peerExpired).resolveClaims).peerDeparted i

/-- An accepted announce acts on its origin's entry (R74 to R76). -/
def State.takeAnnounce (s : State) (f : AnnounceFrame) (i : Fin 30) : State :=
  let old := s.pru.peers[i]
  let next := s.setPeer i (f.peer (!f.flags.leaving) s.ringTime)
  if f.flags.leaving then
    if old.present then next.departure i else next
  else if old.present then
    let next := next.countBy .announcesMissed (f.seq - old.lastSeq - 1).toNat
    if old.streams = onceEach f.streams then next else next.resolveClaims
  else (next.raise .peerArrived).resolveClaims

/-- The PRU is offered an ANNOUNCE: accepted in PROVING and ACTIVE (R73). -/
def State.offerToPru (s : State) (f : AnnounceFrame) : State × Bool :=
  match s.inService, placeOf f.origin.toNat with
  | true, some i => (s.takeAnnounce f i, true)
  | _, _ => (s, false)

/-! ## Expiry and the restart's clearing (R77, R83) -/

/-- The instant at which a PRESENT entry's age first exceeds three of its periods, while expiry is judged (R77). -/
def State.peerExpiryAt (s : State) (i : Fin 30) : Option Nat :=
  if s.attached && s.pru.peers[i].present then
    some (s.ageInstant s.pru.peers[i].lastTime (3 * s.pru.peers[i].period * 1000))
  else none

/-- An entry expires (R77), and the arbiter acts on an announce that joins the slot (R44, R70). -/
def State.expirePeer (s : State) (i : Fin 30) : State :=
  ((s.setPeer i { s.pru.peers[i] with present := false }).departure i).decideStart

/-- What the PRU clears at the end of a ring restart: every entry ABSENT with its reset values, claims HELD, no claimant
last reported; no event is delivered (R72, R83). -/
def State.clearPresence (s : State) : State :=
  s.withPru { s.pru with
    peers := Vector.replicate 30 Peer.reset
    claims := Vector.replicate 4 .held
    reported := Vector.replicate 16 none }

end Sys2Proof.Machine
end

