-- ==== Sys2Proof/Machine/Forwarding.lean ====
section
/-! DEFINITION. The Ring Forwarder and the TX arbiter (03_forwarding_and_insertion.md): FRAME_ARRIVAL, TX_GAP_COMPLETE,
REPEAT_FRAME_START, OWN_FRAME_START, FRAME_END_SENT. -/

namespace Sys2Proof.Machine

/-! ## The repeat queue (R38 to R40) -/

/-- The occupancy: the sum of the octet counts of the frames held (R39). -/
def Rfw.occupancy (r : Rfw) : Nat := (r.repeats.map List.length).sum

/-- A frame as it is forwarded: one hop fewer, the copied flag set by an accepting copier and else as it arrived
(R8, R38). -/
def forwarded (o : List Octet) (accepted : Bool) : List Octet :=
  rewriteTransit o (hopsOf o - 1) (copiedOf o || accepted)

/-- A frame is appended to the repeat queue, or dropped where the queue cannot take it (R38, R40). -/
def State.appendRepeat (s : State) (o : List Octet) : State :=
  if s.rfw.occupancy + o.length ≤ Config.repeatCapacity then
    s.withRfw { s.rfw with repeats := s.rfw.repeats ++ [o] }
  else (s.countOne .repeatOverflows).raise .repeatOverflow

/-! ## Taking a frame (R33 to R37) -/

/-- A frame is offered to the copier of its kind: the state after, and the answer (R37). -/
def State.offerToCopier (s : State) : Frame → State × Bool
  | .audio f => s.offerToSrx f
  | .announce f => s.offerToPru f
  | .cue f => s.offerToPos f

/-- A well-formed frame is stripped, removed as an orphan, or copied and forwarded (R34 to R36). The arbiter acts once the
frame stands in the repeat queue, on it and on an own frame that its copier has offered (R44; log entry 22). -/
def State.takeFrame (s : State) (o : List Octet) : State :=
  match readFrame o with
  | none => s
  | some f =>
    if f.origin = s.address then s.stripped f.identity (copiedOf o)
    else if hopsOf o = 0#5 then s.countOne .orphansRemoved
    else
      let r := s.offerToCopier f
      (r.1.appendRepeat (forwarded o r.2)).decideStart

/-- A frame closed by an END is judged and taken (R15, R33, R34). -/
def State.judgeFrame (s : State) (r : RxFrame) : State :=
  match judge r with
  | .wellFormed => s.takeFrame r.octets
  | .checkFailure => s.countOne .checkFailures
  | .unknownKind => s.countOne .unknownKinds
  | .aborted => s.countOne .abortedFrames

/-- A frame has arrived: an END has closed it and the RFW has not taken it (R6, R34). A count increment due at the same
instant is taken first (R113). -/
def State.frameArrivalAt (s : State) : Option Nat :=
  s.nowIf (s.attached && !s.rx.closed.isEmpty && !s.incrementDue)

/-- The oldest frame closed by an END is taken. -/
def State.arrival (s : State) : State :=
  match s.rx.closed with
  | [] => s
  | r :: rest => (s.withRx { s.rx with closed := rest }).judgeFrame r

/-- FRAME_ARRIVAL (R34): the frame closed by an END is judged and settled. -/
def execFrameArrival (s : State) : Result := s.takeEvent s.frameArrivalAt State.arrival

/-! ## The TX arbiter (R41 to R46) -/

/-- In GAP the 4th IDLE unit ends (R41). -/
def State.txGapCompleteAt (s : State) : Option Nat :=
  match s.rfw.arbiter with
  | .gap since => some (since + Config.gapUnits * Config.unitTime)
  | .disabled | .ready _ _ | .sending _ _ => none

/-- The arbiter enters READY and at once looks for a frame to start; the line's unit times go on (R41, R42). -/
def State.txReady (s : State) : State :=
  match s.rfw.arbiter with
  | .gap since => (s.withRfw { s.rfw with arbiter := .ready since none }).decideStart
  | .disabled | .ready _ _ | .sending _ _ => s

/-- TX_GAP_COMPLETE (R41): the gap count reaches 4 and the arbiter enters READY. -/
def execTxGapComplete (s : State) : Result := s.takeEvent s.txGapCompleteAt State.txReady

/-- The instant of the START of a frame that the arbiter has chosen: as the line's next unit time begins (R41; log entry
22). -/
def State.startAt (s : State) (chosen : Bool) : Option Nat := if chosen then some s.nextTxUnit else none

/-- In READY the frame at the head of the repeat queue starts when it is the one chosen (R42, R44). -/
def State.repeatFrameStartAt (s : State) : Option Nat := s.startAt (s.nextStart == some .repeatHead)

/-- At its START the head of the repeat queue leaves it and is counted forwarded (R39, R41, R42). -/
def State.startRepeat (s : State) : State :=
  match s.rfw.repeats with
  | [] => s
  | o :: rest =>
    (s.countOne .framesForwarded).withRfw { s.rfw with repeats := rest, arbiter := .sending ⟨o, false⟩ s.now }

/-- REPEAT_FRAME_START (R42). -/
def execRepeatFrameStart (s : State) : Result := s.takeEvent s.repeatFrameStartAt State.startRepeat

/-- The own frame chosen, as it stands in its queue or its slot (R43, R44). -/
def State.chosenOwn (s : State) : Option Frame := s.nextStart.bind s.ownFrame

/-- The INQ without the frame that starts: the oldest of its queue, or the slot's (R45). -/
def Inq.without (q : Inq) : Frame → Inq
  | .cue _ => { q with cues := q.cues.drop 1 }
  | .announce _ => { q with slot := none }
  | .audio _ => { q with audio := q.audio.drop 1 }

/-- A frame is the final announce of a leave (R28, R71). -/
def Frame.isFinal : Frame → Bool
  | .announce f => f.flags.leaving
  | .audio _ | .cue _ => false

/-- In READY an own frame starts when it is the one chosen (R42 to R44). -/
def State.ownFrameStartAt (s : State) : Option Nat := s.startAt s.chosenOwn.isSome

/-- At the START of an own frame the INQ gives it up, the TRM appends its transit entry with the present ring time, and
it is counted and sent with its transit octet and check (R4, R41, R45, R52). -/
def State.startOwn (s : State) (f : Frame) : State :=
  (((s.countOne .ownStarted).withInq (s.inq.without f)).withTrm
      { s.trm with transit := s.trm.transit ++ [f.entry s.ringTime] }).withRfw
    { s.rfw with arbiter := .sending ⟨f.octets, f.isFinal⟩ s.now }

/-- The own frame chosen starts. -/
def State.startChosen (s : State) : State :=
  match s.chosenOwn with
  | some f => s.startOwn f
  | none => s

/-- OWN_FRAME_START (R42, R43, R45). -/
def execOwnFrameStart (s : State) : Result := s.takeEvent s.ownFrameStartAt State.startChosen

/-- The END of the frame on the line, a START, its octets and an END after its start, has been sent (R2); a frame being
cut off sends none (R3). -/
def State.frameEndSentAt (s : State) : Option Nat :=
  match s.rfw.arbiter, s.rfw.cut with
  | .sending f since, none => some (since + (f.octets.length + 2) * Config.unitTime)
  | _, _ => none

/-- The frame on the line is the final announce of a leave. -/
def Rfw.sendingFinal (r : Rfw) : Bool :=
  match r.arbiter with
  | .sending f _ => f.final
  | .disabled | .gap _ | .ready _ _ => false

/-- The repeat queue is empty and the transmit line between frames: condition 2 of R28 (R46). -/
def Rfw.drained (r : Rfw) : Bool :=
  r.repeats.isEmpty &&
    match r.arbiter with
    | .gap _ | .ready _ _ => true
    | .disabled | .sending _ _ => false

/-- The END of a frame is sent: GAP is entered (R41), the END of the final announce noted, and where conditions 1 and 2
of R28 come to hold the idle-run count is set to 0 (R28, R46). -/
def State.endFrame (s : State) : State :=
  let finalSent := s.atc.finalSent || (s.atc.state == .leaving && s.rfw.sendingFinal)
  let s := s.withRfw { s.rfw with arbiter := .gap (s.frameEndSentAt.getD s.now) }
  s.withAtc { s.atc with
    finalSent := finalSent
    idleRun := if s.atc.state = .leaving ∧ finalSent ∧ s.rfw.drained then 0 else s.atc.idleRun }

/-- FRAME_END_SENT (R41, R46). -/
def execFrameEndSent (s : State) : Result := s.takeEvent s.frameEndSentAt State.endFrame

end Sys2Proof.Machine
end

