-- ==== Sys2Proof/Machine/Line.lean ====
section
/-! DEFINITION. The receive line and joining (01 R5, 02 R19 to R24): LINE_UNIT_RECEIVED, UPSTREAM_LOSS_DECLARATION,
UPSTREAM_RESTORAL, JOIN_HOLDOFF_EXPIRY, ATTACH. -/

namespace Sys2Proof.Machine

/-- The frame receiver takes a unit time in the states that assemble frames (R5). -/
def State.assemble (s : State) (e : LineEvent) : State :=
  if s.attached then
    let r := s.rx.takeUnit e
    if r.2 then (s.withRx r.1).countOne .abortedFrames else s.withRx r.1
  else s

/-- A unit time of the receive line ends now: the ATC's watch takes it, and then the frame receiver (R5, R19, R20). -/
def State.takeUnit (s : State) (e : LineEvent) : State :=
  let s := s.withAtc { s.atc with unitEnd := s.now }
  (if s.watching then s.withAtc (s.atc.takeUnit e) else s).assemble e

/-- LINE_UNIT_RECEIVED (R1, R5, R19, R20): one unit time of the receive line passes. -/
def execLineUnitReceived (e : LineEvent) (s : State) : Result :=
  .next ((s.waitUntil (s.atc.unitEnd + Config.unitTime)).takeUnit e)

/-- 64 unit times have passed with no valid unit (R20). -/
def State.upstreamLossAt (s : State) : Option Nat :=
  s.nowIf (s.watching && s.atc.upstream == .present && decide (Config.lossUnits ≤ s.atc.quietUnits))

/-- An open frame is closed with the verdict ABORTED (R6, R21). -/
def State.abortOpen (s : State) : State :=
  if s.rx.opened.isSome then (s.withRx { s.rx with opened := none }).countOne .abortedFrames else s

/-- Upstream loss is declared: the flag and the frame closed while attached, the join holdoff started again after its
expiry (R20, R21, R23). -/
def State.declareLoss (s : State) : State :=
  let s := s.withAtc { s.atc with upstream := .loss, quietUnits := 0, validRun := 0 }
  if s.attached then (s.raise .upstreamLoss).abortOpen
  else if s.atc.state = .joining ∧ s.atc.awaitIdle then s.withAtc (s.atc.startHoldoff s.now)
  else s

/-- UPSTREAM_LOSS_DECLARATION (R20, R21, R23). -/
def execUpstreamLossDeclaration (s : State) : Result := s.takeEvent s.upstreamLossAt State.declareLoss

/-- 256 consecutive valid units have come in LOSS (R20). -/
def State.upstreamRestoralAt (s : State) : Option Nat :=
  s.nowIf (s.watching && s.atc.upstream == .loss && decide (Config.restoralUnits ≤ s.atc.validRun))

/-- Restoral is declared (R20). -/
def State.declareRestoral (s : State) : State :=
  (s.withAtc { s.atc with upstream := .present, quietUnits := 0, validRun := 0 }).raiseIf s.attached .upstreamRestored

/-- UPSTREAM_RESTORAL (R20). -/
def execUpstreamRestoral (s : State) : Result := s.takeEvent s.upstreamRestoralAt State.declareRestoral

/-- The join holdoff reaches 800 ms in JOINING (R23). -/
def State.joinHoldoffExpiryAt (s : State) : Option Nat :=
  match s.atc.state, s.atc.holdoff with
  | .joining, some t => some (t + Config.joinHoldoffMs * Config.millisecond)
  | _, _ => none

/-- The outcome of the holdoff: attach, wait for an idle run, or start again (R23). -/
def State.holdoffExpired (s : State) : State :=
  let a := { s.atc with holdoff := none }
  s.withAtc
    (if !a.signalSeen then { a with attachDue := true }
     else match a.upstream with
      | .present => { a with awaitIdle := true }
      | .loss => a.startHoldoff s.now)

/-- JOIN_HOLDOFF_EXPIRY (R23). -/
def execJoinHoldoffExpiry (s : State) : Result := s.takeEvent s.joinHoldoffExpiryAt State.holdoffExpired

/-- The ATC attaches at this instant (R23). -/
def State.attachAt (s : State) : Option Nat :=
  s.nowIf (s.atc.state == .joining && s.atc.attachDue && s.rfw.cut.isNone)

/-- The attach (R24): ATTACH asserted, PROVING with closure OPEN; the TRM's lists, count, round trips and heard states
at their attach values (R53, R67); no frame open; the arbiter in GAP (R41); the announce timer started and the first
announce offered (R69). -/
def State.attachNow (s : State) : State :=
  let s := s.withAtc { s.atc with
    attach := true, state := .proving, closure := .opened, holdoff := none, awaitIdle := false, attachDue := false }
  let s := ((s.withTrm Trm.reset).withRx Receiver.reset).withRfw { Rfw.reset with arbiter := .gap s.now }
  (s.withPru { s.pru with timer := some s.now }).announce false

/-- ATTACH (R24). -/
def execAttach (s : State) : Result := s.takeEvent s.attachAt State.attachNow

end Sys2Proof.Machine
end

