-- ==== Sys2Proof/Machine/Record.lean ====
section
/-! DEFINITION. The configuration record: its layout, its structural faults and the clamped image
(11_start_up_and_configuration.md R179 to R183). -/

namespace Sys2Proof.Machine

/-- The octet of a record at an offset, as a number. -/
def recordNat (rec : List Octet) (i : Nat) : Nat := (octetAt rec i).toNat

/-- The 16-bit field of a record at an offset, as a number. -/
def recordNat16 (rec : List Octet) (i : Nat) : Nat := (field16 rec i).toNat

/-- A field of some bits of a record's octet. -/
def recordBits (rec : List Octet) (i start len : Nat) : Nat := ((octetAt rec i).extractLsb' start len).toNat

/-! ## The entries in use (R180) -/

/-- The sourced stream entries whose number is below the count; the record holds four. -/
def usedSources (rec : List Octet) : List Nat := List.range (min 4 (recordNat rec 35))

/-- The subscription entries whose number is below the count; the record holds sixteen. -/
def usedSubscriptions (rec : List Octet) : List Nat := List.range (min 16 (recordNat rec 76))

/-- The channels of a sourced stream entry, from its format (R183). -/
def usedChannels (rec : List Octet) (s : Nat) : List Nat := List.range (recordBits rec (37 + 10 * s) 0 2 + 1)

/-- A list names something twice. -/
def hasRepeat {α : Type} [DecidableEq α] : List α → Bool
  | [] => false
  | x :: xs => xs.contains x || hasRepeat xs

/-- The playout channels the channel maps of used subscriptions name, FFh naming none. -/
def mappedChannels (rec : List Octet) : List Nat :=
  (usedSubscriptions rec).flatMap fun n =>
    ((List.range 4).map fun c => recordNat rec (79 + 6 * n + c)).filter (· ≠ 0xFF)

/-- The positions' headphone channels, at a VENUE station. -/
def headphoneChannels (rec : List Octet) (role : Role) : List Nat :=
  match role with
  | .venue => (List.range 4).map fun p => recordNat rec (173 + 4 * p + 1)
  | .gallery => []

/-! ## The structural faults (R180) -/

/-- Order 4, BAD_CODE. An octet code that names no value is a fault (R125 for B; log entry 9). -/
def badCode (rec : List Octet) (role : Role) : Bool :=
  decide (2 < recordNat rec 10) || decide (3 < recordNat rec 23)
    || (List.range 6).any (fun q => decide (recordBits rec (29 + q) 1 2 = 3))
    || (usedSources rec).any (fun s => (usedChannels rec s).any fun c =>
        decide (recordBits rec (39 + 10 * s + 2 * c) 0 2 = 3))
    || (usedSubscriptions rec).any (fun n => decide (2 < recordNat rec (78 + 6 * n)))
    || (role == .gallery && (List.range 16).any fun i => decide (2 < recordNat rec (189 + 3 * i)))

/-- A used gallery input whose venue address or position names none; an unused input has no fields (R174; log entry
10). -/
def badInput (rec : List Octet) (i : Nat) : Bool :=
  recordNat rec (189 + 3 * i) != 0
    && (recordNat rec (190 + 3 * i) == 0 || decide (31 < recordNat rec (190 + 3 * i))
      || !cuePosition (recordNat rec (191 + 3 * i)))

/-- A gallery lamp whose venue address or, when it is used, position names none (R180). -/
def badLamp (rec : List Octet) (l : Nat) : Bool :=
  decide (30 < recordNat rec (237 + 2 * l))
    || (recordNat rec (237 + 2 * l) != 0 && decide (3 < recordNat rec (238 + 2 * l)))

/-- A position record with an index out of range (R180). -/
def badPosition (rec : List Octet) (p : Nat) : Bool :=
  decide (15 < recordNat rec (173 + 4 * p)) || decide (31 < recordNat rec (174 + 4 * p))
    || decide (3 < recordNat rec (175 + 4 * p)) || decide (3 < recordNat rec (176 + 4 * p))

/-- Order 5, BAD_INDEX. -/
def badIndex (rec : List Octet) (role : Role) : Bool :=
  decide (4 < recordNat rec 35) || decide (16 < recordNat rec 76)
    || (usedSources rec).any (fun s => decide (63 < recordNat rec (36 + 10 * s))
        || (usedChannels rec s).any fun c => decide (15 < recordNat rec (38 + 10 * s + 2 * c)))
    || (usedSubscriptions rec).any (fun n => decide (63 < recordNat rec (77 + 6 * n)))
    || (mappedChannels rec).any (fun ch => decide (31 < ch))
    || (match role with
        | .venue => (List.range 4).any (badPosition rec)
        | .gallery => (List.range 16).any (badInput rec) || (List.range 16).any (badLamp rec))

/-- Order 6, BAD_ADDRESS of the gallery, at a VENUE station. -/
def badGallery (rec : List Octet) (straps : Straps) : Bool :=
  straps.role == .venue
    && (recordNat rec 25 == 0 || decide (30 < recordNat rec 25) || recordNat rec 25 == straps.address.toNat)

/-- Order 7, DUPLICATE_ID. -/
def duplicateId (rec : List Octet) : Bool :=
  hasRepeat ((usedSources rec).map (fun s => recordNat rec (36 + 10 * s))
    ++ (usedSubscriptions rec).map fun n => recordNat rec (77 + 6 * n))
  || hasRepeat (((usedSubscriptions rec).map fun n => recordNat rec (78 + 6 * n)).filter fun d => d == 1 || d == 2)

/-- Order 8, DOUBLE_ASSIGNMENT. -/
def doubleAssignment (rec : List Octet) (role : Role) : Bool :=
  hasRepeat (mappedChannels rec ++ headphoneChannels rec role)

/-- The address strap lies outside 1 to 30 (R177). -/
def badStrap (a : Address) : Bool := a == 0#5 || a == 31#5

/-- The first fault found, in the order of R180; none for a good load. -/
def loadFault (rec : List Octet) (straps : Straps) : Option FaultCause :=
  if badStrap straps.address then some .badAddress
  else if rec.all (· == 0xFF#8) then some .noMemory
  else if recordCheck (rec.take 269) ≠ field16 rec 269 then some .checkMismatch
  else if badCode rec straps.role then some .badCode
  else if badIndex rec straps.role then some .badIndex
  else if badGallery rec straps then some .badAddress
  else if duplicateId rec then some .duplicateId
  else if doubleAssignment rec straps.role then some .doubleAssignment
  else none

/-! ## The image (R181, R183) -/

/-- The block length of the B code. -/
def recordBlock (rec : List Octet) : BlockLength :=
  (BlockLength.ofCode (BitVec.ofNat 2 (recordNat rec 10))).getD .b96

/-- The slot width of a code: 0 = 16, 1 = 24, 2 = 32. -/
def slotWidth (code : Nat) : Nat := if code = 0 then 16 else if code = 1 then 24 else 32

/-- Capture port q; a sample wider than its slot is taken as 16 (R90). -/
def readCapturePort (rec : List Octet) (q : Nat) : CapturePort where
  listen := (octetAt rec (29 + q)).getLsbD 0
  slotWidth := slotWidth (recordBits rec (29 + q) 1 2)
  wide := (octetAt rec (29 + q)).getLsbD 3 && decide (24 ≤ slotWidth (recordBits rec (29 + q) 1 2))

/-- Playout port q; a slot width of 16 is taken as 24 (R143). -/
def readPlayoutPort (rec : List Octet) (q : Nat) : PlayoutPort where
  listen := (octetAt rec (31 + q)).getLsbD 0
  slotWidth := max 24 (slotWidth (recordBits rec (31 + q) 1 2))

/-- A gating octet: bits 1–0 the mode, bits 3–2 the position. -/
def readGating (o : Octet) : Gating :=
  let p : Fin 4 := (o.extractLsb' 2 2).toFin
  if o.extractLsb' 0 2 = 1#2 then .onAir p else if o.extractLsb' 0 2 = 2#2 then .talk p else .always

/-- Sourced stream entry s. -/
def readSourceEntry (rec : List Octet) (s : Nat) : Source where
  id := BitVec.ofNat 6 (recordNat rec (36 + 10 * s))
  wide := (octetAt rec (37 + 10 * s)).getLsbD 2
  talkback := (octetAt rec (37 + 10 * s)).getLsbD 6
  channels := (usedChannels rec s).map fun c =>
    { capture := Fin.ofNat 16 (recordNat rec (38 + 10 * s + 2 * c))
      gating := readGating (octetAt rec (39 + 10 * s + 2 * c)) }

/-- A designation code. -/
def readDesignation (code : Nat) : Designation :=
  if code = 1 then .programme else if code = 2 then .talkback else .none

/-- A channel map entry: a playout channel, or FFh for none. -/
def readMapEntry (x : Nat) : Option (Fin 32) := if h : x < 32 then some ⟨x, h⟩ else none

/-- Subscription entry n. -/
def readSubscription (rec : List Octet) (n : Nat) : Subscription where
  id := BitVec.ofNat 6 (recordNat rec (77 + 6 * n))
  designation := readDesignation (recordNat rec (78 + 6 * n))
  map := Vector.ofFn fun c => readMapEntry (recordNat rec (79 + 6 * n + c.val))

/-- Position record p. -/
def readPosition (rec : List Octet) (p : Nat) : PositionSetup where
  mic := Fin.ofNat 16 (recordNat rec (173 + 4 * p))
  headphone := Fin.ofNat 32 (recordNat rec (174 + 4 * p))
  returnCh := Fin.ofNat 4 (recordNat rec (175 + 4 * p))
  talkCh := Fin.ofNat 4 (recordNat rec (176 + 4 * p))

/-- Gallery input i. -/
def readInput (rec : List Octet) (i : Nat) : GalleryInput where
  use := if recordNat rec (189 + 3 * i) = 1 then .tally
    else if recordNat rec (189 + 3 * i) = 2 then .talk else .unused
  venue := BitVec.ofNat 5 (recordNat rec (190 + 3 * i))
  position := BitVec.ofNat 4 (recordNat rec (191 + 3 * i))

/-- Gallery lamp l; a venue address of 0 is an unused lamp. -/
def readLamp (rec : List Octet) (l : Nat) : Option (Address × Fin 4) :=
  if recordNat rec (237 + 2 * l) = 0 then none
  else some (BitVec.ofNat 5 (recordNat rec (237 + 2 * l)), Fin.ofNat 4 (recordNat rec (238 + 2 * l)))

/-- The scans per second of a scan-rate code (R183). -/
def scanRateOf (code : Nat) : Nat :=
  if code = 0 then 250 else if code = 1 then 500 else if code = 2 then 1000 else 2000

/-- The image of a record, every setting clamped, W before T (R181, R182). DEDUCED (log entry 27): the three octets of
the attention mask are most significant octet first, as the fields of two octets are (R183). -/
def readImage (rec : List Octet) : Image :=
  let block := recordBlock rec
  let window := clampTo 1 64 (recordNat rec 14)
  { name := Vector.ofFn fun i => octetAt rec i.val
    block := block
    period := clampTo 4 250 (recordNat16 rec 11)
    returnTimeout := clampTo 2 60 (recordNat rec 13)
    window := window
    target := clampTo window (6 * block.samples - window) (recordNat16 rec 15)
    shift := clampTo 2 8 (recordNat rec 17)
    slipHoldoff := clampTo 2 255 (recordNat16 rec 18)
    limit := clampTo 1 15 (recordNat rec 20)
    fallback := clampTo 50 2000 (recordNat16 rec 21)
    scanRate := scanRateOf (recordNat rec 23)
    debounce := clampTo 2 15 (recordNat rec 24)
    gallery := BitVec.ofNat 5 (recordNat rec 25)
    mask := (octetAt rec 26 ++ octetAt rec 27 ++ octetAt rec 28 : BitVec 24).extractLsb' 0 18
    capture := Vector.ofFn fun q => readCapturePort rec q.val
    playout := Vector.ofFn fun q => readPlayoutPort rec q.val
    sources := (usedSources rec).map (readSourceEntry rec)
    subscriptions := (usedSubscriptions rec).map (readSubscription rec)
    positions := Vector.ofFn fun p => readPosition rec p.val
    inputs := Vector.ofFn fun i => readInput rec i.val
    lamps := Vector.ofFn fun l => readLamp rec l.val
    check := field16 rec 269 }

end Sys2Proof.Machine
end

