-- ==== Sys2Proof/Machine/Service.lean ====
section
/-! DEFINITION. The monitoring requests of the service port (12_service_port.md; 05 R85, 07 R123): READ_STATION to
RESTART_RING, UNSUPPORTED_REQUEST, SERVICE_TRANSACTION_END. -/

namespace Sys2Proof.Machine

/-! ## Answers -/

/-- A request's answer: the request opens a transaction of its own (R184, R188). -/
def State.reply (s : State) (a : Answer) : State := s.withSvp { s.svp with answer := some a, writeOpen := false }

/-- The monitoring requests are answered in LOADED and FAULTED (R188). -/
def State.monitored (s : State) : Bool :=
  match s.stc.load with
  | .loaded | .faulted => true
  | .loading | .maintenance => false

/-- A monitoring request: its effect and answer in LOADED and FAULTED, otherwise NAK (R188). -/
def State.monitor (s : State) (effect : State → State) : Result :=
  .next (if s.monitored then effect s else s.reply .nak)

/-- A read: a snapshot of the state as the request is received (R188). -/
def State.answerWith (data : State → AnswerData) (s : State) : State := s.reply (.ack (data s))

/-! ## Snapshots -/

/-- READ_STATION's items (R189). -/
def State.stationAnswer (s : State) : StationAnswer where
  address := s.address
  role := s.stc.straps.role
  external := s.stc.straps.external
  load := s.stc.load
  cause := s.stc.cause
  state := s.atc.state
  closure := s.atc.closure
  upstream := s.atc.upstream
  clock := s.cap.clock
  lastTrip := s.trm.lastTrip
  maxTrip := s.trm.maxTrip
  conflicts := s.trm.conflicts
  statuses := mapAll (·.status) s.cap.stores

/-- READ_STATION (R189). -/
def execReadStation (s : State) : Result := s.monitor (State.answerWith fun s => .station s.stationAnswer)

/-- READ_PEERS (R85). -/
def execReadPeers (s : State) : Result := s.monitor (State.answerWith fun s => .peers s.pru.peers)

/-- What READ_STREAM shows of a queued block (R123). -/
def BlockRecord.queued (k : BlockRecord) : QueuedBlock := ⟨k.stamp, k.seq, k.channels, k.substituted, k.lockMark⟩

/-- READ_STREAM's items of a subscription's context (R123). -/
def Context.answer (x : Context) (u : Subscription) : StreamAnswer where
  subscription := u
  state := x.state
  origin := x.origin
  expSeq := x.expSeq
  expStamp := x.expStamp
  r := x.r
  rPlay := x.rPlay
  margin := x.margin
  holdoff := x.holdoff
  slip := x.slip
  lateRun := x.lateRun
  earlyRun := x.earlyRun
  queue := x.queue.map BlockRecord.queued
  counters := x.counters.toList

/-- READ_STREAM's answer for an index 0 to 15; without a subscription there it reports that none is configured
(R123). -/
def State.streamAnswer (s : State) (n : Fin 16) : Option StreamAnswer :=
  (s.stc.image.bind (·.subscription n)).map (s.srx[n]).answer

/-- READ_STREAM (R123, R188): an index above 15 is answered NAK. -/
def execReadStream (n : Octet) (s : State) : Result :=
  s.monitor fun s =>
    if h : n.toNat < 16 then s.answerWith fun s => .stream (s.streamAnswer ⟨n.toNat, h⟩) else s.reply .nak

/-- READ_SOURCE's answer for an index 0 to 3 (R189). -/
def State.sourceAnswer (s : State) (i : Fin 4) : Option SourceAnswer :=
  (s.stc.image.bind (·.source i)).map fun c =>
    { id := c.id
      claim := s.pru.claims[i]
      heard := s.trm.heard[i]
      seq := s.cap.seqs[i]
      unheard := s.counter (.unheard i) }

/-- READ_SOURCE (R189, R188): an index above 3 is answered NAK. -/
def execReadSource (n : Octet) (s : State) : Result :=
  s.monitor fun s =>
    if h : n.toNat < 4 then s.answerWith fun s => .source (s.sourceAnswer ⟨n.toNat, h⟩) else s.reply .nak

/-! ## Counters (R192) -/

/-- Every counter in the order of R192: the 28 outside the contexts, and then eleven for each subscription. -/
def State.allCounters (s : State) : List Nat :=
  s.svp.counters.toList ++ (s.srx.toList.map fun x => x.counters.toList).flatten

/-- READ_COUNTERS (R192). -/
def execReadCounters (s : State) : Result := s.monitor (State.answerWith fun s => .counters s.allCounters)

/-- A context with its eleven counters at 0 (R123). -/
def Context.zeroed (x : Context) : Context := { x with counters := Vector.replicate 11 0 }

/-- Every counter is set to 0 (R192). -/
def State.zeroCounters (s : State) : State :=
  (s.withSvp { s.svp with counters := Vector.replicate 28 0 }).withSrx (mapAll Context.zeroed s.srx)

/-- ZERO_COUNTERS (R192). -/
def execZeroCounters (s : State) : Result := s.monitor fun s => s.zeroCounters.reply (.ack .none)

/-! ## Events (R190) -/

/-- READ_EVENTS (R190): the answer shows the flags, and they become the seen set. -/
def execReadEvents (s : State) : Result :=
  s.monitor fun s => (s.withSvp { s.svp with seen := s.svp.flags }).reply (.ack (.events s.svp.flags))

/-- The flags of the seen set are cleared, and it is emptied (R190). -/
def State.clearSeen (s : State) : State :=
  s.withSvp { s.svp with flags := s.svp.flags &&& ~~~s.svp.seen, seen := 0#18 }

/-- CLEAR_SEEN (R190). -/
def execClearSeen (s : State) : Result := s.monitor fun s => s.clearSeen.reply (.ack .none)

/-! ## Ring restart (R193) -/

/-- RESTART_RING (R193): taken in PROVING and ACTIVE, refused in the other states. -/
def execRestartRing (s : State) : Result :=
  s.monitor fun s => if s.inService then (s.enterLeaving .restart).reply (.ack .none) else s.reply .nak

/-! ## Other transactions (R184, R188) -/

/-- UNSUPPORTED_REQUEST (R184, R188): NAK, and no effect. -/
def execUnsupportedRequest (s : State) : Result := .next (s.reply .nak)

/-- SERVICE_TRANSACTION_END (R184, R188): SVC_CS rises, and the rest of the answer is not kept. -/
def execServiceTransactionEnd (s : State) : Result :=
  .next (s.withSvp { s.svp with answer := none, writeOpen := false })

end Sys2Proof.Machine
end

