-- ==== Sys2Proof/Machine/Maintenance.lean ====
section
/-! DEFINITION. The maintenance requests (11 R184 to R187): IDENTIFY, READ_CONFIG, WRITE_CONFIG,
WRITE_CONFIG_PAGE_READY, WRITE_CONFIG_BUSY_TIMEOUT, WRITE_CONFIG_READBACK_END, VERIFY_CONFIG. -/

namespace Sys2Proof.Machine

/-- Maintenance requests are taken in MAINTENANCE while no WRITE_CONFIG is still writing (R184). DEDUCED (log entry 28): it
is still writing until its outcome is known, so through its read-back too. -/
def State.maintained (s : State) : Bool := s.stc.load == .maintenance && s.stc.write.isNone

/-- A maintenance request: its effect and answer where it is taken, otherwise NAK (R184). -/
def State.maintain (s : State) (effect : State → State) : Result :=
  .next (if s.maintained then effect s else s.reply .nak)

/-- A request that carries a record is received with its 271st octet: a transaction that ends before it has no effect
and no answer (R186, R187). -/
def State.received (s : State) (octets : List Octet) (request : List Octet → Result) : Result :=
  if octets.length < Config.recordLength then .next (s.withSvp { s.svp with answer := none, writeOpen := false })
  else request (octets.take Config.recordLength)

/-- The stored check of a record, octets 269 and 270 (R179). -/
def storedCheck (rec : List Octet) : Half := field16 rec 269

/-- The computed check of a record, over octets 0 to 268 (R179). -/
def computedCheck (rec : List Octet) : Half := recordCheck (rec.take 269)

/-- The record check status (R185). -/
def checkStatus (rec : List Octet) : CheckStatus :=
  if rec.all (· == 0xFF#8) then .noMemory
  else if computedCheck rec = storedCheck rec then .agrees else .mismatch

/-- IDENTIFY's items (R185). -/
def State.identifyAnswer (s : State) : IdentifyAnswer where
  model := Config.modelCode
  address := s.address
  role := s.stc.straps.role
  external := s.stc.straps.external
  stored := storedCheck s.stc.memory.record
  computed := computedCheck s.stc.memory.record
  status := checkStatus s.stc.memory.record

/-- IDENTIFY (R185). -/
def execIdentify (s : State) : Result := s.maintain (State.answerWith fun s => .identify s.identifyAnswer)

/-- READ_CONFIG (R185). -/
def execReadConfig (s : State) : Result := s.maintain (State.answerWith fun s => .record s.stc.memory.record)

/-- VERIFY_CONFIG (R187). -/
def execVerifyConfig (octets : List Octet) (s : State) : Result :=
  s.received octets fun rec =>
    s.maintain fun s => s.reply (if s.stc.memory.record = rec then .ack .none else .nak)

/-! ## Writing (R186) -/

/-- Page k of a record: up to 32 octets from 32k; the last page holds 15 (R186). -/
def recordPage (rec : List Octet) (k : Nat) : List Octet := (rec.drop (Config.pageLength * k)).take Config.pageLength

/-- Page k is written to the memory, which is then busy (R186). -/
def State.writePage (s : State) (rec : List Octet) (k : Nat) : State :=
  s.withStc { s.stc with
    memory := s.stc.memory.writeFrom (Config.pageLength * k) (recordPage rec k)
    write := some ⟨rec, .page k s.now⟩ }

/-- WRITE_CONFIG (R186): a bad check is answered NAK with the memory untouched; otherwise the write begins, and the
outcome is pending. -/
def execWriteConfig (octets : List Octet) (s : State) : Result :=
  s.received octets fun rec =>
    s.maintain fun s =>
      if computedCheck rec ≠ storedCheck rec then s.reply .nak
      else
        let s := s.writePage rec 0
        s.withSvp { s.svp with answer := some .wait, writeOpen := true }

/-- The write ends with an outcome, which is answered if its transaction is still open (R186). -/
def State.endWrite (s : State) (ok : Bool) : State :=
  let s := s.withStc { s.stc with write := none }
  if s.svp.writeOpen then s.reply (if ok then .ack .none else .nak) else s

/-- The longest a page may stay busy, in instants (R186). -/
def busyTime : Nat := Config.pageBusyMs * Config.millisecond

/-- The memory shows ready after a page: the next page is written, or all are and the read-back begins (R186). -/
def State.pageReady (s : State) : State :=
  match s.stc.write with
  | some ⟨rec, .page k since⟩ =>
    if s.now ≤ since + busyTime then
      if k + 1 < Config.pageCount then s.writePage rec (k + 1)
      else s.withStc { s.stc with write := some ⟨rec, .readback⟩ }
    else s
  | _ => s

/-- WRITE_CONFIG_PAGE_READY (R186). -/
def execWriteConfigPageReady (s : State) : Result := .next s.pageReady

/-- The memory has stayed busy for more than 20 ms after a page (R186). -/
def State.busyTimeoutAt (s : State) : Option Nat :=
  match s.stc.write with
  | some ⟨_, .page _ since⟩ => some (since + busyTime + 1)
  | _ => none

/-- WRITE_CONFIG_BUSY_TIMEOUT (R186): NAK, and the pages after that page are not written. -/
def execWriteConfigBusyTimeout (s : State) : Result := s.takeEvent s.busyTimeoutAt (·.endWrite false)

/-- The 271 octets are read back and compared with the record (R186). -/
def State.readbackEnd (s : State) : State :=
  match s.stc.write with
  | some ⟨rec, .readback⟩ => s.endWrite (decide (s.stc.memory.record = rec))
  | _ => s

/-- WRITE_CONFIG_READBACK_END (R186): the read-back ends at the instant the command is given; the spec names none (DESIGN
CHOICE, log entry 29). -/
def execWriteConfigReadbackEnd (s : State) : Result := .next s.readbackEnd

end Sys2Proof.Machine
end

