-- ==== Sys2Proof/Machine/Leaving.lean ====
section
/-! DEFINITION. The end of a leave (02_ring_attachment.md R28 to R30): LEAVE_DRAIN_COMPLETE, LEAVE_LIMIT_EXPIRY,
LEAVE_ABORT_COMPLETE. -/

namespace Sys2Proof.Machine

/-- What the blocks clear on entry to DETACHED after a restart (R30): the peer table, claims and reports (R72, R83), the
stream contexts (R106), the position cue states and gallery lamps (R176). -/
def State.restartClearing (s : State) : State :=
  ((List.finRange 16).foldl (fun s n => s.toUnlocked n .waiting none) s.clearPresence).clearPositions

/-- The ATTACH output is released at the end of a leave, and the leave's items stop (R26, R29, R30). -/
def Atc.released (a : Atc) : Atc :=
  { a with attach := false, leaveTimer := none, leaveCause := none, finalSent := false, closure := .opened }

/-- A final announce that has not started is discarded and counted; the queues are left empty (R29, R50). -/
def State.discardSlot (s : State) : State :=
  (if s.inq.slot.isSome then s.countOne .ownDiscarded else s).withInq Inq.reset

/-- The release of ATTACH at the end of a leave, and the entry to DETACHED and JOINING or to HALTED (R30, R31). -/
def State.release (s : State) : State :=
  let cause := s.atc.leaveCause
  let s := ((s.abandonTransit.discardSlot.withRfw Rfw.reset).withRx Receiver.reset)
  let s := s.withAtc s.atc.released
  match cause with
  | some .conflict => s.withAtc s.atc.halt
  | some .restart | none =>
    let s := s.restartClearing
    s.withAtc { s.atc.startHoldoff s.now with state := .joining }

/-- The drain is complete: the three conditions of R28 hold together. The upstream-signal state is no condition (log
entry 23). -/
def State.leaveDrainCompleteAt (s : State) : Option Nat :=
  s.nowIf (s.atc.state == .leaving && s.atc.finalSent && s.rfw.drained && s.rfw.cut.isNone
    && decide (Config.drainIdleRun ≤ s.atc.idleRun))

/-- LEAVE_DRAIN_COMPLETE (R28, R30). -/
def execLeaveDrainComplete (s : State) : Result := s.takeEvent s.leaveDrainCompleteAt State.release

/-- The leave timer reaches 50 ms (R29). -/
def State.leaveLimitExpiryAt (s : State) : Option Nat :=
  match s.atc.state, s.atc.leaveTimer with
  | .leaving, some t => some (t + Config.leaveLimitMs * Config.millisecond)
  | _, _ => none

/-- A frame is on the transmit line. -/
def Rfw.sending (r : Rfw) : Bool :=
  match r.arbiter with
  | .sending _ _ => true
  | .disabled | .gap _ | .ready _ _ => false

/-- At the leave limit ATTACH is released at once between frames; a frame going out is first cut off by one ABORT unit
in place of its next unit, or, with its END on the line, after that END (R29; log entry 24). -/
def State.leaveLimit (s : State) : State :=
  if s.rfw.sending then
    (s.withAtc { s.atc with leaveTimer := none }).withRfw { s.rfw with cut := some ⟨s.nextTxUnit, false⟩ }
  else s.release

/-- LEAVE_LIMIT_EXPIRY (R29). -/
def execLeaveLimitExpiry (s : State) : Result := s.takeEvent s.leaveLimitExpiryAt State.leaveLimit

/-- The ABORT unit sent at the leave limit ends (R29). -/
def State.leaveAbortCompleteAt (s : State) : Option Nat :=
  match s.rfw.cut with
  | some ⟨since, false⟩ => some (since + Config.leaveAbortUnits * Config.unitTime)
  | _ => none

/-- LEAVE_ABORT_COMPLETE (R29, R30). -/
def execLeaveAbortComplete (s : State) : Result := s.takeEvent s.leaveAbortCompleteAt State.release

end Sys2Proof.Machine
end

