-- ==== Sys2Proof/Machine/Startup.lean ====
section
/-! DEFINITION. Reset and start-up (02 R32; 11 R177 to R182): RESET_ASSERTED, RESET_ABORT_COMPLETE, RESET_RELEASED,
CONFIGURATION_LOAD_END. -/

namespace Sys2Proof.Machine

/-! ## Reset (R32) -/

/-- A frame is being transmitted while ATTACH is asserted: the reset cuts it off (R32). -/
def State.cutByReset (s : State) : Bool := s.atc.attach && s.rfw.sending

/-- The ABORT units of a reset: those already under way go on and are counted, else they take the place of the frame's
next unit and those after it (R3, R32; log entries 14 and 24). -/
def State.resetCut (s : State) : Cut :=
  match s.rfw.cut with
  | some t => ⟨t.since, true⟩
  | none => ⟨s.nextTxUnit, true⟩

/-- Every item takes its device-reset value (R32, R178); the memory beside the part, the instant, the receive line's
unit times and the queue are no items of the station. -/
def State.resetItems (s : State) : State :=
  { State.reset with
    now := s.now
    atc := { Atc.reset with unitEnd := s.atc.unitEnd }
    stc := { Stc.reset with memory := s.stc.memory }
    ties := s.ties
    pending := s.pending }

/-- The assertion of RESET_N: with a frame on the line ATTACH stays asserted through the ABORT units, otherwise it is
released at once (R17, R32). -/
def State.assertReset (s : State) : State :=
  if s.cutByReset then
    (s.resetItems.withAtc { s.resetItems.atc with attach := true }).withRfw
      { Rfw.reset with arbiter := s.rfw.arbiter, cut := some s.resetCut }
  else s.resetItems

/-- RESET_ASSERTED (R32): RESET_N is asserted, if it is not already. -/
def execResetAsserted (s : State) : Result := .next (if s.stc.held then s else s.assertReset)

/-- The 8th ABORT unit of a reset ends (R32). -/
def State.resetAbortCompleteAt (s : State) : Option Nat :=
  match s.rfw.cut with
  | some ⟨since, true⟩ => some (since + Config.resetAbortUnits * Config.unitTime)
  | _ => none

/-- ATTACH is released and the arbiter DISABLED (R32, R41). -/
def State.resetAbortDone (s : State) : State :=
  (s.withAtc { s.atc with attach := false }).withRfw { s.rfw with arbiter := .disabled, cut := none }

/-- RESET_ABORT_COMPLETE (R32). -/
def execResetAbortComplete (s : State) : Result := s.takeEvent s.resetAbortCompleteAt State.resetAbortDone

/-! ## The release (R177, R178) -/

/-- The release of RESET_N: the straps are latched, the clocks start, and the station reads its record or enters
MAINTENANCE (R51, R87, R160, R177, R178, R184). -/
def State.releaseReset (s : State) (straps : Straps) : State :=
  let s := s.withStc { s.stc with
    held := false, straps := straps, load := if straps.maint then .maintenance else .loading }
  let s := (s.withReleasedAt s.now).withAtc { s.atc with unitEnd := s.now }
  let s := s.withCap { s.cap with
    clock := if straps.external then .holdover else .internal, dividerAt := s.now }
  s.withPos { s.pos with flashAt := s.now }

/-- RESET_RELEASED (R177, R178). -/
def execResetReleased (straps : Straps) (s : State) : Result := .next (if s.stc.held then s.releaseReset straps else s)

/-! ## The end of the load (R178 to R182) -/

/-- The read of the record is in progress. -/
def State.reading (s : State) : Bool := !s.stc.held && s.stc.load == .loading

/-- A configuration fault: FAULTED with its cause, and HALTED (R22, R180). -/
def State.loadFaulted (s : State) (cause : FaultCause) : State :=
  (s.withStc { s.stc with load := .faulted, cause := some cause }).withAtc s.atc.halt

/-- A good load: the image is handed to the blocks (R182); the ATC enters JOINING with its holdoff started (R22), the
scanner's first scan is one period away (R158), and the fallback timers run if a subscription is designated RETURN
(R170). -/
def State.goodLoad (s : State) (g : Image) : State :=
  let s := s.withStc { s.stc with load := .loaded, image := some g }
  let s := s.withAtc { s.atc.startHoldoff s.now with state := .joining }
  let s := s.withPos { s.pos with scanAt := s.now }
  if s.returnStream.isSome then s.startFallback else s

/-- The image is judged at the instant the last octet is read (R178, R180). -/
def State.endLoad (s : State) : State :=
  match loadFault s.stc.memory.record s.stc.straps with
  | some cause => s.loadFaulted cause
  | none => s.goodLoad (readImage s.stc.memory.record)

/-- CONFIGURATION_LOAD_END (R178): while the record is being read its end may fall at any instant. -/
def execConfigurationLoadEnd (s : State) : Result := s.takeEvent (s.nowIf s.reading) State.endLoad

end Sys2Proof.Machine
end

