-- ==== Sys2Proof/Machine/Timers.lean ====
section
/-! DEFINITION. The timers of transit and presence: RETURN_TIMEOUT (04 R57), ANNOUNCE_TIMER_EXPIRY (05 R69), PEER_EXPIRY
(05 R77). -/

namespace Sys2Proof.Machine

/-- The head of the transit list first exceeds the return timeout, in the attached states (R57). -/
def State.returnTimeoutAt (s : State) : Option Nat :=
  match s.attached, s.trm.transit with
  | true, e :: _ => some (s.ageInstant e.start s.returnTimeoutUs)
  | _, _ => none

/-- Each head beyond the return timeout is lost (R57), and the arbiter acts on the entries freed (R44). -/
def State.returnTimeout (s : State) : State := (State.timeoutHeads s.trm.transit s).decideStart

/-- RETURN_TIMEOUT (R57). -/
def execReturnTimeout (s : State) : Result := s.takeEvent s.returnTimeoutAt State.returnTimeout

/-- The announce period in instants (R69). -/
def Image.periodTime (g : Image) : Nat := g.period * Config.millisecond

/-- The next whole multiple of the announce period after the attach, in PROVING and ACTIVE (R69). -/
def State.announceTimerAt (s : State) : Option Nat :=
  match s.inService, s.pru.timer, s.stc.image with
  | true, some t, some g => some (t + g.periodTime)
  | _, _, _ => none

/-- The announce timer runs on to its next multiple, and an announce is built and offered (R69), on
which the arbiter acts (R44). -/
def State.announceTimer (s : State) : State :=
  match s.pru.timer, s.stc.image with
  | some t, some g => ((s.withPru { s.pru with timer := some (t + g.periodTime) }).announce false).decideStart
  | _, _ => s

/-- ANNOUNCE_TIMER_EXPIRY (R69). -/
def execAnnounceTimerExpiry (s : State) : Result := s.takeEvent s.announceTimerAt State.announceTimer

/-- PEER_EXPIRY (R77) of a station address 1 to 30. -/
def execPeerExpiry (address : Nat) (s : State) : Result :=
  match placeOf address with
  | none => .next s
  | some i => s.takeEvent (s.peerExpiryAt i) (·.expirePeer i)

end Sys2Proof.Machine
end

