-- ==== Sys2Proof/Machine/Dispatch.lean ====
section
/-! DEFINITION. The meaning of every command: one arm for each constructor of `Instr`. -/

namespace Sys2Proof.Machine

def exec (i : Instr) (s : State) : Host.Outcome State Fault Refusal :=
  match i with
  | .resetAsserted => Sys2Proof.Machine.execResetAsserted s
  | .resetAbortComplete => Sys2Proof.Machine.execResetAbortComplete s
  | .resetReleased straps => Sys2Proof.Machine.execResetReleased straps s
  | .configurationLoadEnd => Sys2Proof.Machine.execConfigurationLoadEnd s
  | .lineUnitReceived e => Sys2Proof.Machine.execLineUnitReceived e s
  | .upstreamLossDeclaration => Sys2Proof.Machine.execUpstreamLossDeclaration s
  | .upstreamRestoral => Sys2Proof.Machine.execUpstreamRestoral s
  | .joinHoldoffExpiry => Sys2Proof.Machine.execJoinHoldoffExpiry s
  | .attach => Sys2Proof.Machine.execAttach s
  | .frameArrival => Sys2Proof.Machine.execFrameArrival s
  | .txGapComplete => Sys2Proof.Machine.execTxGapComplete s
  | .repeatFrameStart => Sys2Proof.Machine.execRepeatFrameStart s
  | .ownFrameStart => Sys2Proof.Machine.execOwnFrameStart s
  | .frameEndSent => Sys2Proof.Machine.execFrameEndSent s
  | .leaveDrainComplete => Sys2Proof.Machine.execLeaveDrainComplete s
  | .leaveLimitExpiry => Sys2Proof.Machine.execLeaveLimitExpiry s
  | .leaveAbortComplete => Sys2Proof.Machine.execLeaveAbortComplete s
  | .returnTimeout => Sys2Proof.Machine.execReturnTimeout s
  | .announceTimerExpiry => Sys2Proof.Machine.execAnnounceTimerExpiry s
  | .peerExpiry address => Sys2Proof.Machine.execPeerExpiry address s
  | .wclkEdge periods => Sys2Proof.Machine.execWclkEdge periods s
  | .wordClockLoss => Sys2Proof.Machine.execWordClockLoss s
  | .dividerIncrement => Sys2Proof.Machine.execDividerIncrement s
  | .qualificationRunSilence => Sys2Proof.Machine.execQualificationRunSilence s
  | .clockingFrameComplete q slots => Sys2Proof.Machine.execClockingFrameComplete q slots s
  | .captureFrameReceived q slots => Sys2Proof.Machine.execCaptureFrameReceived q slots s
  | .blockTick => Sys2Proof.Machine.execBlockTick s
  | .blockBoundary n => Sys2Proof.Machine.execBlockBoundary n s
  | .runOutEnd n => Sys2Proof.Machine.execRunOutEnd n s
  | .playoutFrameSync q => Sys2Proof.Machine.execPlayoutFrameSync q s
  | .keyScan raw => Sys2Proof.Machine.execKeyScan raw s
  | .fallbackTimerExpiry p => Sys2Proof.Machine.execFallbackTimerExpiry p s
  | .flashTimerToggle => Sys2Proof.Machine.execFlashTimerToggle s
  | .readStation => Sys2Proof.Machine.execReadStation s
  | .readPeers => Sys2Proof.Machine.execReadPeers s
  | .readStream n => Sys2Proof.Machine.execReadStream n s
  | .readSource n => Sys2Proof.Machine.execReadSource n s
  | .readCounters => Sys2Proof.Machine.execReadCounters s
  | .readEvents => Sys2Proof.Machine.execReadEvents s
  | .clearSeen => Sys2Proof.Machine.execClearSeen s
  | .zeroCounters => Sys2Proof.Machine.execZeroCounters s
  | .restartRing => Sys2Proof.Machine.execRestartRing s
  | .identify => Sys2Proof.Machine.execIdentify s
  | .readConfig => Sys2Proof.Machine.execReadConfig s
  | .writeConfig octets => Sys2Proof.Machine.execWriteConfig octets s
  | .writeConfigPageReady => Sys2Proof.Machine.execWriteConfigPageReady s
  | .writeConfigBusyTimeout => Sys2Proof.Machine.execWriteConfigBusyTimeout s
  | .writeConfigReadbackEnd => Sys2Proof.Machine.execWriteConfigReadbackEnd s
  | .verifyConfig octets => Sys2Proof.Machine.execVerifyConfig octets s
  | .unsupportedRequest => Sys2Proof.Machine.execUnsupportedRequest s
  | .serviceTransactionEnd => Sys2Proof.Machine.execServiceTransactionEnd s

end Sys2Proof.Machine
end

