-- ==== Sys2Proof/Machine/Step.lean ====
section
/-! DEFINITION. One step: the command at the front of the queue, or on an empty queue the station's own next event. -/

namespace Sys2Proof.Machine

/-! ## The station's own events (log entry 3) -/

/-- An event of the station's own, if it comes about, with its instant. -/
def ownEvent (i : Instr) (due : Option Nat) : Option (Nat × Instr) := due.map (·, i)

/-- The instant at which the read of the record ends at the latest (R178). -/
def State.loadLimitAt (s : State) : Option Nat :=
  if s.reading then some (s.releasedAt + Config.loadLimitMs * Config.millisecond) else none

/-- The station's own events that come about if nothing else happens, each with its instant. The count increments
stand first. The end of a WRITE_CONFIG's read-back is not among them: R186 gives it no instant (log entry 29). -/
def State.ownEvents (s : State) : List (Nat × Instr) :=
  ([ownEvent .dividerIncrement s.dividerIncrementAt,
    ownEvent .wordClockLoss s.wordClockLossAt,
    ownEvent .resetAbortComplete s.resetAbortCompleteAt,
    ownEvent .configurationLoadEnd s.loadLimitAt,
    ownEvent .upstreamLossDeclaration s.upstreamLossAt,
    ownEvent .upstreamRestoral s.upstreamRestoralAt,
    ownEvent .joinHoldoffExpiry s.joinHoldoffExpiryAt,
    ownEvent .attach s.attachAt,
    ownEvent .frameArrival s.frameArrivalAt,
    ownEvent .txGapComplete s.txGapCompleteAt,
    ownEvent .repeatFrameStart s.repeatFrameStartAt,
    ownEvent .ownFrameStart s.ownFrameStartAt,
    ownEvent .frameEndSent s.frameEndSentAt,
    ownEvent .leaveDrainComplete s.leaveDrainCompleteAt,
    ownEvent .leaveLimitExpiry s.leaveLimitExpiryAt,
    ownEvent .leaveAbortComplete s.leaveAbortCompleteAt,
    ownEvent .returnTimeout s.returnTimeoutAt,
    ownEvent .announceTimerExpiry s.announceTimerAt,
    ownEvent .qualificationRunSilence s.qualificationSilenceAt,
    ownEvent .blockTick s.blockTickAt,
    ownEvent .flashTimerToggle s.flashTimerAt,
    ownEvent .writeConfigBusyTimeout s.busyTimeoutAt]
  ++ ((List.finRange 30).map fun i => ownEvent (.peerExpiry (i.val + 1)) (s.peerExpiryAt i))
  ++ ((List.finRange 16).map fun n => ownEvent (.blockBoundary n) (s.blockBoundaryAt n))
  ++ ((List.finRange 16).map fun n => ownEvent (.runOutEnd n) (s.runOutEndAt n))
  ++ ((List.finRange 4).map fun p => ownEvent (.fallbackTimerExpiry p) (s.fallbackTimerAt p))).filterMap id

/-- The earliest of some instants. -/
def earliest : List Nat → Option Nat
  | [] => none
  | t :: ts =>
    match earliest ts with
    | none => some t
    | some u => some (min t u)

/-- A count increment. At one instant it is taken before the station's other events (R113). -/
def Instr.increments : Instr → Bool
  | .dividerIncrement | .wordClockLoss => true
  | _ => false

/-- The events of the earliest instant, if that is not after the end of the present unit time of the receive line. -/
def State.dueEvents (s : State) : List Instr :=
  let events := s.ownEvents.map fun e => (max s.now e.1, e.2)
  match earliest (events.map (·.1)) with
  | none => []
  | some t =>
    if t ≤ max s.now (s.atc.unitEnd + Config.unitTime) then (events.filter (·.1 = t)).map (·.2) else []

/-- A command put into an empty queue. -/
def State.queueOwn (s : State) (i : Instr) : State := s.withPending [i]

/-- On an empty queue the station's own next event is queued: a count increment first, the only one due, or a free
choice of several (log entry 4); with none due, a unit time of the receive line that brings nothing. -/
def State.ownNext (s : State) : State :=
  match s.dueEvents with
  | [] => s.queueOwn (.lineUnitReceived .silence)
  | i :: rest =>
    if Instr.increments i ∨ rest = [] then s.queueOwn i
    else
      (s.withTies (s.ties + 1)).queueOwn
        ((i :: rest).getD (Config.tieBreak s.ties % (rest.length + 1)) i)

/-! ## The step -/

/-- One step: the command at the front of the queue runs on the state with the queue's rest. -/
def step (s : State) : Host.Outcome State Fault Refusal :=
  match s.pending with
  | i :: rest => exec i (s.withPending rest)
  | [] => .next s.ownNext

/-- The state with the command a word of the opcode table spells at the front of its queue; unchanged, for the table
spells none (log entry 8). -/
def State.withFetchWord (s : State) (nbits w : Nat) : State :=
  match decodeTableWord nbits w with
  | some i => s.withPending (i :: s.pending)
  | none => s

end Sys2Proof.Machine
end

