-- ==== Sys2Proof/Machine/Outputs.lean ====
section
/-! DEFINITION. The outputs derived from the state: lamps (10 R160, R169, R172), the transmit line (01 R2, R3). The ATTN
output is `State.attn`, the ATTACH output `atc.attach`. The pins of the ports (06 R90, 09 R143). -/

namespace Sys2Proof.Machine

/-- A lamp state (R160). -/
inductive LampState where
  | off
  | on
  | flash
  deriving DecidableEq, Repr

/-- ON where a condition holds, else OFF. -/
def onIf (c : Bool) : LampState := if c then .on else .off

/-- A TALK lamp's state as a lamp shows it (R161). -/
def TalkLamp.lamp : TalkLamp → LampState
  | .off => .off
  | .flash => .flash
  | .on => .on

/-- The return programme's context is LOCKED (R172). -/
def State.returnLocked (s : State) : Bool :=
  match s.returnStream with
  | some n => s.srx[n].state == .locked
  | none => false

/-- The FALLBACK lamp of a position (R172). -/
def State.fallbackLamp (s : State) (p : Fin 4) : LampState :=
  if !s.pos.positions[p].latch then .off else if s.returnLocked then .on else .flash

/-- The LINK lamp of a position: some sourced stream with a channel in ONAIR(p) is HEARD (R169). -/
def State.linkLamp (s : State) (g : Image) (p : Fin 4) : LampState :=
  onIf ((List.finRange 4).any fun i =>
    (g.source i).any (fun c => c.channels.any (·.gating = .onAir p)) && s.trm.heard[i] == .heard)

/-- The lamp of a venue position: ON_AIR, TALK, FALLBACK, LINK (R161). -/
def State.venueLamp (s : State) (g : Image) (l : Fin 16) : LampState :=
  let p := positionOfInput l
  if l.val % 4 = 0 then onIf s.pos.positions[p].onAir
  else if l.val % 4 = 1 then s.pos.positions[p].talk.lamp
  else if l.val % 4 = 2 then s.fallbackLamp p
  else s.linkLamp g p

/-- The state of lamp l (R160). While RESET_N is held the load state is LOADING, and every lamp is OFF. -/
def State.lampState (s : State) (l : Fin 16) : LampState :=
  match s.stc.load, s.stc.image with
  | .faulted, _ => .flash
  | .loaded, some g => if s.venue then s.venueLamp g l else onIf (s.pos.lamps.getLsbD l.val)
  | _, _ => .off

/-- Lamp l is lit now: a flashing lamp follows the flash timer (R160). -/
def State.lit (s : State) (l : Fin 16) : Bool :=
  match s.lampState l with
  | .off => false
  | .on => true
  | .flash => s.pos.flashLit

/-- The unit of a frame's k-th unit time: START, its octets, END (R2). -/
def frameUnit (octets : List Octet) (k : Nat) : LineUnit :=
  match k with
  | 0 => .start
  | i + 1 =>
    match octets[i]? with
    | some o => .data o
    | none => .finish

/-- ABORT units have taken the place of the frame's units by now (R3). -/
def State.aborting (s : State) : Bool := s.rfw.cut.any fun t => decide (t.since ≤ s.now)

/-- The unit on the transmit line in the present unit time: IDLE between frames, the units of a frame from its START on,
and ABORT from the unit at which it is cut off (R2, R3, R41). -/
def State.txUnit (s : State) : LineUnit :=
  match s.rfw.arbiter with
  | .sending f since => if s.aborting then .abort else frameUnit f.octets (s.unitsSince since)
  | .disabled | .gap _ | .ready _ _ => .idle

/-! ## The pins of the capture and playout ports (R90, R143, R144) -/

/-- How a port's bit clock and frame sync pins stand. -/
inductive PortClock where
  /-- CLOCKING, STOPPED: driven low -/
  | low
  /-- CLOCKING, RUNNING: driven, a frame sync at each count increment -/
  | driven
  /-- LISTEN, STOPPED: not watched -/
  | unwatched
  /-- LISTEN, RUNNING: followed -/
  | followed
  deriving DecidableEq, Repr

/-- The bit clock and frame sync pins of a port by its mode and state (R90, R143). -/
def portClock (listen running : Bool) : PortClock :=
  match listen, running with
  | false, false => .low
  | false, true => .driven
  | true, false => .unwatched
  | true, true => .followed

/-- The pins CBCLKn and CFSn of a capture port; without an image no port mode is configured (R90). -/
def State.captureClock (s : State) (q : Fin 2) : Option PortClock :=
  s.stc.image.map fun g => portClock g.capture[q].listen s.cap.running

/-- The pins PBCLKn and PFSn of a playout port; without an image no port mode is configured (R143). -/
def State.playoutClock (s : State) (q : Fin 4) : Option PortClock :=
  s.stc.image.map fun g => portClock g.playout[q].listen s.cap.running

/-- The bits of one slot, in the order they are shifted out: 24 bits of two's complement, most significant first, and
0s up to the slot width (R143). -/
def slotBits (width : Nat) (x : Sample) : List Bool :=
  ((List.range 24).map fun i => (BitVec.ofInt 24 x).getMsbD i) ++ List.replicate (width - 24) false

/-- What the data output PDATn of a playout port carries. -/
inductive PortData where
  /-- STOPPED: driven low -/
  | low
  /-- LISTEN, RUNNING, no frame sync received yet: nothing is sent -/
  | nothing
  /-- the bits of the frame begun at the last frame sync, slot 0 first -/
  | frame (bits : List Bool)
  deriving DecidableEq, Repr

/-- The data output of a playout port (R143, R144). -/
def State.playoutData (s : State) (q : Fin 4) : PortData :=
  match s.stc.image, s.cap.running with
  | some g, true =>
    match s.ply.frames[q] with
    | some f => .frame ((List.finRange 8).flatMap fun i => slotBits g.playout[q].slotWidth f[i])
    | none => .nothing
  | _, _ => .low

end Sys2Proof.Machine
end

