-- ==== Sys2Proof/Safety.lean ====
section
/-! DEFINITION. What a sound state is: the properties of the state that every step keeps, in the terms the claims use.
Each is decidable on a concrete state. -/

namespace Sys2Proof.Machine

/-! ## Runs -/

/-- Commands taken one after another. -/
def execAll : List Instr → State → Result
  | [], s => .next s
  | c :: cs, s =>
    match exec c s with
    | .next t => execAll cs t
    | .fault f => .fault f
    | .refused r => .refused r

/-- A frame is the next to arrive, and the rest of the closed frames wait behind it; no count increment is to be taken
before it (R34, R113). -/
abbrev State.arrives (s : State) (f : RxFrame) (rest : List RxFrame) : Prop :=
  s.attached = true ∧ s.rx.closed = f :: rest ∧ s.incrementDue = false

/-- A well-formed frame is the next to arrive (R15, R34). -/
abbrev State.takes (s : State) (f : RxFrame) (rest : List RxFrame) (fr : Frame) : Prop :=
  s.arrives f rest ∧ judge f = .wellFormed ∧ readFrame f.octets = some fr

/-- The next to arrive is an AUDIO frame of another station for subscription n, of the configured block length, from the
origin of its context, in a state that may copy it (R37, R113 to R116). -/
abbrev State.takesBlock (s : State) (f : RxFrame) (rest : List RxFrame) (a : AudioFrame) (g : Image) (n : Fin 16) :
    Prop :=
  s.takes f rest (.audio a) ∧ s.inService = true ∧ s.stc.image = some g ∧ a.origin ≠ s.address
  ∧ hopsOf f.octets ≠ 0#5 ∧ g.subscriptionOf a.stream = some n ∧ (s.srx[n]).origin = some a.origin
  ∧ a.format.blockCode = g.block.code

/-- An instant at which a unit time begins on a line whose unit times run from another instant on: the first that is not
before now (R41; log entry 22). -/
abbrev State.unitBegins (s : State) (since start : Nat) : Prop :=
  since ≤ start ∧ s.now ≤ start ∧ start < max since s.now + Config.unitTime
  ∧ (start - since) % Config.unitTime = 0

/-- A frame that the arbiter may choose is there to start: one in the repeat queue, or, with a free transit entry, an own
frame of a kind that the attachment state allows (R42, R43). -/
abbrev State.hasFrame (s : State) (k : FrameChoice) : Prop :=
  k = .repeatHead ∧ s.rfw.repeats ≠ []
  ∨ s.trm.transit.length < 128
    ∧ (k = .cue ∧ s.atc.state = .active ∧ s.inq.cues ≠ []
      ∨ k = .announce ∧ (s.inService = true ∧ s.inq.slot.isSome = true
          ∨ s.atc.state = .leaving ∧ s.inq.slot.any (·.flags.leaving) = true)
      ∨ k = .audio ∧ s.atc.state = .active ∧ s.inq.audio ≠ [])

/-- The frames that the arbiter may choose, in the order in which it looks for them: one in the repeat queue, the oldest cue,
the announce, the oldest audio frame (R42, R43). -/
abbrev State.startable (s : State) : List FrameChoice :=
  [FrameChoice.repeatHead, .cue, .announce, .audio].filter fun k => decide (s.hasFrame k)

/-- The arbiter has acted on an event that found the Ring Forwarder so: in READY it holds the frame it had chosen, while
that is there to start, and otherwise the first that it may choose, if there is one. Nothing else of the forwarder
changes (R42 to R44). That a frame chosen is held until its START is the model's choice (log entry 22). -/
abbrev State.arbiterActs (r : Rfw) (t : State) : Prop :=
  t.rfw = { r with arbiter := t.rfw.arbiter }
  ∧ (r.arbiter.chosen = none → t.rfw.arbiter = r.arbiter)
  ∧ ∀ since c, r.arbiter = .ready since c → ∃ d, t.rfw.arbiter = .ready since d
      ∧ (∀ k, c = some k → t.hasFrame k → d = c)
      ∧ ((∀ k, c = some k → ¬ t.hasFrame k) → d = t.startable.head?)

/-- A command that ends a leave, with the instant at which it does: the drain, the leave limit between frames, the end
of the ABORT unit (R28, R29). -/
abbrev State.endsLeave (s : State) (c : Instr) (now : Nat) : Prop :=
  s.atc.state = .leaving ∧
  (c = .leaveDrainComplete ∧ now = s.now ∧ s.atc.finalSent = true ∧ s.rfw.repeats = [] ∧ s.rfw.cut = none
      ∧ (∃ since, (∃ k, s.rfw.arbiter = .ready since k) ∨ s.rfw.arbiter = .gap since) ∧ 48 ≤ s.atc.idleRun
    ∨ c = .leaveLimitExpiry ∧ s.rfw.sending = false
      ∧ (∃ start, s.atc.leaveTimer = some start ∧ now = max s.now (start + 50 * Config.millisecond))
    ∨ c = .leaveAbortComplete
      ∧ (∃ since, s.rfw.cut = some ⟨since, false⟩ ∧ now = max s.now (since + Config.unitTime)))

/-! ## Undelivered cues and losses by timeout -/

/-- A position's selection is the one its latch and its talkback give (R173), and its TALK lamp is OFF exactly while it
holds no talk request tag (R164, R165). -/
abbrev Position.sound (p : Position) : Prop :=
  p.selection = (if p.latch then .sidetone else if p.talkback then .talkback else .programme)
  ∧ (p.talk = .off ↔ p.tag = none)

/-- The cue that the loss outcome of an entry reports undelivered: that of a CUE entry (R56, R64). -/
abbrev Entry.lostCue (e : Entry) : Option CueReport :=
  match e.identity with
  | .cue _ => e.cue
  | .announce _ | .audio _ _ => none

/-- Cues reported undelivered, and what they bring about at the panel: CUE_UNDELIVERED is raised, and at a venue each
position whose talk request tag is that of a TALK_REQUEST among them that names it has its TALK lamp OFF and its tag none.
No other cue, no other position and nothing of the gallery's changes (R50, R53, R64, R165). -/
abbrev State.cuesLost (cues : List CueReport) (s t : State) : Prop :=
  (t.flag .cueUndelivered = true ↔ s.flag .cueUndelivered = true ∨ cues ≠ [])
  ∧ (s.stc.straps.role = .gallery ∨ (∀ r ∈ cues, r.code ≠ .talkRequest) → t.pos = s.pos)
  ∧ t.pos = { s.pos with positions := t.pos.positions }
  ∧ (s.stc.straps.role = .venue → ∀ p : Fin 4,
      let old := s.pos.positions[p]
      let named := ∃ r ∈ cues, r.code = .talkRequest ∧ r.position.toNat = p.val ∧ old.tag = some r.tag
      (named → t.pos.positions[p] =
        { old with talk := .off, tag := none, selection := selectionOf old.latch old.talkback })
      ∧ (¬ named → t.pos.positions[p] = { old with selection := (t.pos.positions[p]).selection }
        ∧ (old.sound → t.pos.positions[p] = old)))

/-- The heads lost by timeout at an instant: each head beyond the return timeout leaves the list, in list order, until the
head is within it or the list is empty. Each is counted, its identity joins the expired list, which keeps the last 16, and
it has the loss outcome of its kind: an ANNOUNCE sets closure OPEN, PROVING ending in ACTIVE with RING_OPENED and elsewhere
RING_OPENED raised on a change; AUDIO leaves its stream UNHEARD; a CUE is reported undelivered. Nothing else changes
(R55 to R57, R59, R62 to R64; log entry 25 for heads of one start microsecond). -/
abbrev State.headsLost (s t : State) : Prop :=
  let beyond := fun e : Entry => decide ((s.returnTimeoutUs : Int) < signedDiff t.ringTime e.start)
  let gone := s.trm.transit.takeWhile beyond
  let ids := s.trm.expired ++ gone.map (·.identity)
  let opens := ∃ e ∈ gone, ∃ q, e.identity = .announce q
  t.trm.transit = s.trm.transit.dropWhile beyond
  ∧ (gone = [] → t.trm.expired = s.trm.expired)
  ∧ (s.trm.expired.length ≤ 16 → t.trm.expired = ids.drop (ids.length - 16))
  ∧ (∀ k : Counter, t.counter k =
      if k = .timeoutLosses ∧ gone ≠ [] then min 65535 (s.counter k + gone.length) else s.counter k)
  ∧ (opens → t.atc = { s.atc with
      closure := .opened, state := if s.atc.state = .proving then .active else s.atc.state })
  ∧ (¬ opens → t.atc = s.atc)
  ∧ (t.flag .ringOpened = true ↔
      s.flag .ringOpened = true ∨ opens ∧ (s.atc.state = .proving ∨ s.atc.closure = .closed))
  ∧ (∀ i : Fin 4,
      let lost := ∃ g ∈ s.stc.image, ∃ e ∈ gone, ∃ id q, e.identity = .audio id q ∧ g.sourceOf id = some i
      (lost → t.trm.heard[i] = .unheard) ∧ (¬ lost → t.trm.heard[i] = s.trm.heard[i]))
  ∧ State.cuesLost (gone.filterMap Entry.lostCue) s t
  ∧ (∀ f : EventFlag, f ≠ .ringOpened → f ≠ .cueUndelivered → t.flag f = s.flag f ∧ t.seen f = s.seen f)
  ∧ t = { s with
      now := t.now, atc := t.atc, rfw := t.rfw, pos := t.pos
      trm := { s.trm with transit := t.trm.transit, expired := t.trm.expired, heard := t.trm.heard }
      svp := { s.svp with flags := t.svp.flags, seen := t.svp.seen, counters := t.svp.counters } }

/-! ## Claims and claimants -/

/-- The claims of the sourced streams after a change of the peer table: each is what the table then gives; a yield
raises CLAIM_YIELDED and makes the heard state UNKNOWN, a resumption raises CLAIM_RESUMED, and one announce follows any
change in PROVING and ACTIVE (R70, R80, R81). -/
abbrev State.claimsMove (g : Image) (s t : State) : Prop :=
  (∀ i : Fin 4, t.pru.claims[i] = .yielded ↔ ∃ c ∈ g.source i, t.pru.lowerLists s.address c.id = true)
  ∧ (t.flag .claimYielded = true ↔
      s.flag .claimYielded = true ∨ ∃ i : Fin 4, s.pru.claims[i] = .held ∧ t.pru.claims[i] = .yielded)
  ∧ (t.flag .claimResumed = true ↔
      s.flag .claimResumed = true ∨ ∃ i : Fin 4, s.pru.claims[i] = .yielded ∧ t.pru.claims[i] = .held)
  ∧ (∀ i : Fin 4, t.trm.heard[i] =
      if s.pru.claims[i] = .held ∧ t.pru.claims[i] = .yielded then .unknown else s.trm.heard[i])
  ∧ (if t.pru.claims ≠ s.pru.claims ∧ s.inService = true then
      t.pru.seq = s.pru.seq + 1
      ∧ ∃ a, t.inq.slot = some a ∧ a.origin = s.address ∧ a.seq = s.pru.seq ∧ a.flags.leaving = false
        ∧ a.streams = streamList g t.pru.claims
    else t.pru.seq = s.pru.seq ∧ t.inq = s.inq)

/-- A context that has left LOCKED: its queue is empty, its slip dropped, its output block ended and its run-out started,
of the last played block or of silence, or the one in progress gone on with (R111, R151, R152; log entry 16 for the
values it leaves the count). -/
abbrev Context.hasLeft (x y : Context) (next : StreamState) (origin : Option Address) : Prop :=
  y = { x with
    state := next, origin := origin, queue := [], slip := .none, rPlay := x.r, lateRun := 0, earlyRun := 0
    output := ⟨none, .none⟩, conceal := 0, played := false, values := x.valuesAtEnd
    runOut := match x.runOut with
      | some o => some o
      | none => some ⟨if x.conceal ≤ 1 then x.lastPlayed else none, 0⟩ }

/-- The claimant event of a subscription whose claimant a change of the peer table has moved: the context takes the new
origin and is ACQUIRING, or without one WAITING; leaving LOCKED empties its queue, drops its slip, ends its output block
and starts its run-out, or leaves one in progress, and raises STREAM_UNLOCKED; the fallback timers start where it is the
return (R108 to R111, R151, R152, R170). A subscription whose claimant stands changes nothing. -/
abbrev State.claimantsMove (g : Image) (s t : State) : Prop :=
  ∀ (n : Fin 16) (u : Subscription), g.subscription n = some u →
    let x : Context := s.srx[n]
    let a := t.pru.claimant u.id
    let next := if a.isSome then StreamState.acquiring else .waiting
    t.pru.reported[n] = a
    ∧ (s.pru.reported[n] = a → t.srx[n] = x)
    ∧ (s.pru.reported[n] ≠ a → x.state ≠ .locked → t.srx[n] = { x with state := next, origin := a })
    ∧ (s.pru.reported[n] ≠ a → x.state = .locked →
      t.flag .streamUnlocked = true
      ∧ x.hasLeft t.srx[n] next a
      ∧ (s.stc.straps.role = .venue → g.designated .programme = some n →
          ∀ p : Fin 4, (t.pos.positions[p]).timer = .running t.now))

/-! ## Departures, channel values and block records -/

/-- A position's lamps, talk request, talkback and latch stand. -/
abbrev Position.stands (p q : Position) : Prop :=
  q.onAir = p.onAir ∧ q.talk = p.talk ∧ q.tag = p.tag ∧ q.talkback = p.talkback ∧ q.latch = p.latch

/-- A peer's departure at the panel: its last tag seen becomes none; at a venue the gallery's departure clears what the
gallery set at every position, and another's nothing; at the gallery the lamps mapped to the peer go OFF (R166, R168,
R175). -/
abbrev State.departureAtPanel (g : Image) (i : Fin 30) (s t : State) : Prop :=
  t.pos.lastTags = s.pos.lastTags.set i.val none i.isLt
  ∧ (s.stc.straps.role = .venue → t.pos.lamps = s.pos.lamps)
  ∧ (s.stc.straps.role = .venue → g.gallery = addressAt i →
    ∀ p : Fin 4, (t.pos.positions[p]).onAir = false ∧ (t.pos.positions[p]).talk = .off
      ∧ (t.pos.positions[p]).tag = none ∧ (t.pos.positions[p]).talkback = false
      ∧ (t.pos.positions[p]).latch = (s.pos.positions[p]).latch)
  ∧ (s.stc.straps.role = .gallery ∨ g.gallery ≠ addressAt i →
    ∀ p : Fin 4, (s.pos.positions[p]).stands t.pos.positions[p])
  ∧ (s.stc.straps.role = .gallery → ∀ l : Fin 16,
      t.pos.lamps.getLsbD l.val = (s.pos.lamps.getLsbD l.val && !(g.lamps[l]).any fun v => v.1 == addressAt i))

/-- What a playout channel carries at the present count: the value of the stream channel mapped to it; at a venue, for a
position's headphone, that of the source in force, the sidetone being the mic's sample in the frame its port placed last;
0 where nothing is assigned (R145, R154, R155). -/
abbrev State.carries (s : State) (g : Image) (ch : Fin 32) (v : Sample) : Prop :=
  let mapped := fun (n : Fin 16) (c : Fin 4) => ∃ u, g.subscription n = some u ∧ u.map[c] = some ch
  let heard := fun (p : Fin 4) => s.stc.straps.role = .venue ∧ (g.positions[p]).headphone = ch
  let designated := fun (d : Designation) (c : Fin 4) =>
    match g.designated d with
    | some n => (s.srx[n]).values[c]
    | none => 0
  (∀ n c, mapped n c → (∀ n' c', mapped n' c' → n' = n ∧ c' = c) → v = (s.srx[n]).values[c])
  ∧ (∀ p, heard p → (∀ n c, ¬ mapped n c) → (∀ p', heard p' → p' = p) →
      let mic := (g.positions[p]).mic
      v = match s.ply.inForce[p] with
        | none => 0
        | some .programme => designated .programme (g.positions[p]).returnCh
        | some .talkback => designated .talkback (g.positions[p]).talkCh
        | some .sidetone =>
          match (s.cap.stores[(⟨mic.val / 8, by omega⟩ : Fin 2)]).last with
          | none => 0
          | some f =>
            if (g.capture[(⟨mic.val / 8, by omega⟩ : Fin 2)]).wide = true then f[mic.val % 8] else f[mic.val % 8] * 256)
  ∧ ((∀ n c, ¬ mapped n c) → (∀ p, ¬ heard p) → v = 0)

/-- What a count increment brings about, whichever event makes it. The count advances by one. Once the configuration is
loaded a block tick is due exactly at a multiple of B (R93), a CLOCKING capture port begins the frame of the new count
(R91), a run-out sends its next sample (R152), each stream takes the value it gives the new count (R146), and while the
ports run each playout channel takes what its assignment gives it and the CLOCKING ports send the channels (R144). -/
abbrev State.countsOn (s t : State) : Prop :=
  t.cap.count = s.cap.count + 1
  ∧ (s.stc.image = none →
      t.cap.stores = s.cap.stores ∧ t.cap.tickDue = s.cap.tickDue ∧ t.srx = s.srx ∧ t.ply = s.ply)
  ∧ ∀ g, s.stc.image = some g →
    (t.cap.tickDue = true ↔ (s.cap.count + 1).toNat % g.block.samples = 0)
    ∧ (∀ q : Fin 2, s.cap.running = true → (g.capture[q]).listen = false →
        (t.cap.stores[q]).shifting = some (s.cap.count + 1)
        ∧ t.cap.stores[q]
          = (s.cap.stores[q]).nextFrame g.capture[q] g.block.samples s.cap.blockStamp (s.cap.count + 1)
        ∧ ((s.cap.stores[q]).shifting = none →
            t.cap.stores[q] = { s.cap.stores[q] with shifting := some (s.cap.count + 1) }))
    ∧ (∀ q : Fin 2, s.cap.running = false ∨ (g.capture[q]).listen = true → t.cap.stores[q] = s.cap.stores[q])
    ∧ (∀ n : Fin 16, t.srx[n] = { s.srx[n] with
        runOut := (s.srx[n]).runOut.map fun o => { o with sent := min (g.block.samples + 1) (o.sent + 1) }
        begun := false
        values := (t.srx[n]).values })
    ∧ (∀ (n : Fin 16) (c : Fin 4), (t.srx[n]).values[c] = (t.srx[n]).value g.block.samples (s.cap.count + 1) c)
    ∧ (s.cap.running = true → ∀ ch : Fin 32, t.carries g ch t.ply.channels[ch])
    ∧ t.ply = { s.ply with
        before := s.ply.channels
        channels := if s.cap.running = true then t.ply.channels else s.ply.channels
        frames := if s.cap.running = true then clockedFrames g t.ply.channels s.ply.frames else s.ply.frames }

/-- The headphone switch of a block tick: at a venue each position's source in force becomes its selection, and its
headphone channel, which no stream is mapped to, takes that source's value at the tick's count; no other channel changes,
and the CLOCKING ports send the channels (R144, R154, R156). -/
abbrev State.headphonesSwitch (g : Image) (s t : State) : Prop :=
  let heard := fun ch : Fin 32 => s.stc.straps.role = .venue ∧ (∃ p : Fin 4, (g.positions[p]).headphone = ch)
    ∧ ∀ n u, g.subscription n = some u → ∀ c : Fin 4, u.map[c] ≠ some ch
  (∀ p : Fin 4, t.ply.inForce[p] =
      if s.stc.straps.role = .venue then some (s.pos.positions[p]).selection else s.ply.inForce[p])
  ∧ (∀ ch, heard ch → t.carries g ch t.ply.channels[ch])
  ∧ (∀ ch, ¬ heard ch → t.ply.channels[ch] = s.ply.channels[ch])
  ∧ t.ply = { s.ply with
      inForce := t.ply.inForce, channels := t.ply.channels, frames := clockedFrames g t.ply.channels s.ply.frames }

/-- A block record holds the samples of a frame's payload: B sample frames, each of the frame's channels, channel 0
first, most significant octet first; a 16-bit sample is held as 256 times its value (R10, R121). -/
abbrev BlockRecord.holds (k : BlockRecord) (a : AudioFrame) (b : Nat) : Prop :=
  k.channels = a.format.channels ∧ k.samples.length = b
  ∧ ∀ j < b, ∃ frame, k.samples[j]? = some frame ∧ frame.length = a.format.channels
    ∧ ∀ c < a.format.channels,
      let octet := fun i => a.payload.getD ((j * a.format.channels + c) * (if a.format.wide = true then 3 else 2) + i) 0#8
      frame[c]? = some (if a.format.wide = true then (octet 0 ++ octet 1 ++ octet 2 : BitVec 24).toInt
        else (octet 0 ++ octet 1 : BitVec 16).toInt * 256)

/-! ## Capacities and ceilings -/

/-- No queue or list holds more than its rule gives it: the repeat queue (R39), the cue queue (R48), the own audio queue
(R47), the transit list (R52), the expired list (R59), the streams' queues (R107) and the frame receiver (R5). -/
abbrev State.withinCapacity (s : State) : Prop :=
  s.rfw.occupancy ≤ 4096 ∧ s.inq.cues.length ≤ 4 ∧ s.inq.audio.length ≤ 8
  ∧ s.trm.transit.length ≤ 128 ∧ s.trm.expired.length ≤ 16
  ∧ (∀ n : Fin 16, (s.srx[n]).queue.length ≤ 8)
  ∧ (∀ f ∈ s.rx.opened, f.octets.length ≤ 1167) ∧ (∀ f ∈ s.rx.closed, f.octets.length ≤ 1167)

/-- Every count rests at its ceiling: the counters (R123, R192), the address-conflict count (R61), the idle-run count
(R19), the counts of loss and restoral (R20), the qualification run (R89; log entry 30 for its value in WORDCLOCK) and the
conceal counts (R146). -/
abbrev State.withinCeilings (s : State) : Prop :=
  (∀ i : Fin 28, s.svp.counters[i] ≤ 65535)
  ∧ (∀ n : Fin 16, ∀ i : Fin 11, (s.srx[n]).counters[i] ≤ 65535)
  ∧ s.trm.conflicts ≤ 255 ∧ s.atc.idleRun ≤ 255 ∧ s.atc.quietUnits ≤ 64 ∧ s.atc.validRun ≤ 256
  ∧ s.cap.qualRun ≤ 47 ∧ (∀ n : Fin 16, (s.srx[n]).conceal ≤ 255)

/-- Every setting lies in its range, T within W of its ends (R125, R181). -/
abbrev Image.clamped (g : Image) : Prop :=
  (4 ≤ g.period ∧ g.period ≤ 250) ∧ (2 ≤ g.returnTimeout ∧ g.returnTimeout ≤ 60)
  ∧ (1 ≤ g.window ∧ g.window ≤ 64)
  ∧ (g.window ≤ g.target ∧ g.target + g.window ≤ 6 * g.block.samples)
  ∧ (2 ≤ g.shift ∧ g.shift ≤ 8) ∧ (2 ≤ g.slipHoldoff ∧ g.slipHoldoff ≤ 255) ∧ (1 ≤ g.limit ∧ g.limit ≤ 15)
  ∧ (50 ≤ g.fallback ∧ g.fallback ≤ 2000) ∧ (2 ≤ g.debounce ∧ g.debounce ≤ 15)
  ∧ g.scanRate ∈ [250, 500, 1000, 2000]
  ∧ g.sources.length ≤ 4 ∧ g.subscriptions.length ≤ 16

/-- The image handed to the blocks is clamped. -/
abbrev State.imageClamped (s : State) : Prop := ∀ g ∈ s.stc.image, g.clamped

/-! ## Start-up and attachment -/

/-- The load state, the fault cause, the image and the attachment state agree (R22, R31, R178, R180). -/
abbrev State.loadSound (s : State) : Prop :=
  (s.stc.held = true → s.stc.load = .loading)
  ∧ (s.stc.image.isSome ↔ s.stc.load = .loaded)
  ∧ (s.stc.cause.isSome ↔ s.stc.load = .faulted)
  ∧ (s.atc.state = .detached ↔ s.stc.load = .loading ∨ s.stc.load = .maintenance)
  ∧ (s.stc.load = .faulted → s.atc.state = .halted)

/-- A reset is cutting a frame off (R32). -/
abbrev State.resetCutting (s : State) : Prop := ∃ t ∈ s.rfw.cut, t.byReset = true

/-- ATTACH is asserted in PROVING, ACTIVE and LEAVING, and through the ABORT units of a reset; the arbiter is DISABLED
exactly while it is released; ABORT units take the place of a frame on the line (R17, R18, R29, R32, R41). -/
abbrev State.lineSound (s : State) : Prop :=
  (s.atc.attach = true ↔ s.attached = true ∨ s.resetCutting)
  ∧ (s.rfw.arbiter = .disabled ↔ s.atc.attach = false)
  ∧ (s.rfw.cut.isSome → s.rfw.sending = true)
  ∧ (s.resetCutting → s.attached = false)
  ∧ (∀ t ∈ s.rfw.cut, t.byReset = false → s.atc.state = .leaving ∧ s.atc.leaveTimer = none)

/-- The timers run in the states their rules give them: the announce timer in PROVING and ACTIVE (R69), the join holdoff
in JOINING until it has expired (R23), the leave timer in LEAVING until it has expired (R27, R29). -/
abbrev State.timersSound (s : State) : Prop :=
  (s.pru.timer.isSome ↔ s.inService = true)
  ∧ (s.atc.state = .joining → (s.atc.holdoff.isSome ↔ s.atc.awaitIdle = false ∧ s.atc.attachDue = false))
  ∧ (s.atc.state ≠ .joining → s.atc.holdoff = none ∧ s.atc.awaitIdle = false ∧ s.atc.attachDue = false)
  ∧ (s.atc.state = .leaving → s.atc.leaveCause.isSome ∧ (s.atc.leaveTimer.isSome ↔ s.rfw.cut = none))
  ∧ (s.atc.state ≠ .leaving → s.atc.leaveTimer = none ∧ s.atc.leaveCause = none ∧ s.atc.finalSent = false)

/-- The arbiter in READY has acted on every event: its choice is of a frame that is there to start, and is none only while
there is none (R41 to R44). -/
abbrev State.choiceSound (s : State) : Prop :=
  ∀ c ∈ s.rfw.arbiter.chosen, (∀ k ∈ c, k ∈ s.startable) ∧ (c = none → s.startable = [])

/-- The attachment is sound: load state, line, timers and the arbiter's choice. -/
abbrev State.attachmentSound (s : State) : Prop := s.loadSound ∧ s.lineSound ∧ s.timersSound ∧ s.choiceSound

/-- A station that is not attached holds nothing of a ring (R6, R18, R26, R30, R39, R50, R52, R65); cues and audio wait
only in ACTIVE (R47, R48, R50), and the announce slot holds the final announce in LEAVING and no final announce
elsewhere (R27, R71). -/
abbrev State.emptySound (s : State) : Prop :=
  (s.attached = false →
    s.rfw.repeats = [] ∧ s.rx = Receiver.reset ∧ s.inq = Inq.reset ∧ s.trm.transit = [] ∧ s.trm.expired = []
    ∧ (∀ i : Fin 4, s.trm.heard[i] = .unknown) ∧ s.atc.closure = .opened)
  ∧ (s.atc.state ≠ .active → s.inq.cues = [] ∧ s.inq.audio = [])
  ∧ (∀ f ∈ s.inq.slot, f.flags.leaving = true ↔ s.atc.state = .leaving)
  ∧ (s.atc.state = .proving → s.atc.closure = .opened)

/-! ## Streams -/

/-- A context's offsets and pending slip agree, and a context that is not LOCKED holds no block, slip, run or output
(R106, R111, R124, R136, R152). -/
abbrev Context.slipSound (x : Context) : Prop :=
  (x.slip = .none → x.r = x.rPlay) ∧ (x.slip = .drop → x.r = x.rPlay - 1)
  ∧ (x.slip = .repeated → x.r = x.rPlay + 1)
  ∧ (x.state ≠ .locked → x.queue = [] ∧ x.slip = .none ∧ x.lateRun = 0 ∧ x.earlyRun = 0
      ∧ x.output = ⟨none, .none⟩ ∧ x.conceal = 0 ∧ x.played = false)

/-- Every context's offsets and slip agree. -/
abbrev State.slipSound (s : State) : Prop := ∀ n : Fin 16, (s.srx[n]).slipSound

/-- The filter's accumulator E never leaves the range of the margins it follows, 0 to 16(7B − 1), and the runs and the
holdoff stay within their settings' ranges (R131, R133, R134). -/
abbrev Context.filterSound (g : Image) (x : Context) : Prop :=
  0 ≤ x.margin ∧ x.margin ≤ 16 * (7 * g.block.samples - 1) ∧ x.holdoff ≤ 255 ∧ x.lateRun ≤ 14 ∧ x.earlyRun ≤ 14

/-- The filters of a loaded station are sound; without an image every context is at its reset values. -/
abbrev State.filterSound (s : State) : Prop :=
  (∀ g ∈ s.stc.image, ∀ n : Fin 16, (s.srx[n]).filterSound g)
  ∧ (s.stc.image = none → s.srx = Vector.replicate 16 Context.reset)

/-! ## Presence -/

/-- Claims and claimants are those the peer table gives (R79, R80, R82, R108 to R110): a sourced stream is YIELDED exactly
while a PRESENT peer of lower address lists it; a subscription's origin is its claimant, the one last reported, and its
context is WAITING exactly without one; the station has no entry of its own. Without an image nothing is recorded. -/
abbrev State.claimsSound (s : State) : Prop :=
  (∀ g ∈ s.stc.image,
    (∀ i : Fin 4, s.pru.claims[i] = .yielded ↔ ∃ c ∈ g.source i, s.pru.lowerLists s.address c.id = true)
    ∧ (∀ n : Fin 16, ∀ u ∈ g.subscription n,
        s.pru.reported[n] = s.pru.claimant u.id ∧ (s.srx[n]).origin = s.pru.claimant u.id
        ∧ ((s.srx[n]).state = .waiting ↔ s.pru.claimant u.id = none))
    ∧ (∀ i : Fin 30, addressAt i = s.address → (s.pru.peers[i]).present = false))
  ∧ (s.stc.image = none →
    s.pru.peers = Vector.replicate 30 Peer.reset ∧ s.pru.claims = Vector.replicate 4 .held
    ∧ s.pru.reported = Vector.replicate 16 none)

/-! ## Panel, outputs, events -/

/-- Every position is sound. -/
abbrev State.panelSound (s : State) : Prop := ∀ p : Fin 4, (s.pos.positions[p]).sound

/-- A CLOCKING playout port sends the channel values as they stand; while the ports are STOPPED all are 0 and no port has
a frame (R143, R144, R145). -/
abbrev State.portsSound (s : State) : Prop :=
  if s.cap.running then
    s.stc.image.isSome
    ∧ ∀ g ∈ s.stc.image, ∀ q : Fin 4, (g.playout[q]).listen = false →
        s.ply.frames[q] = some (portValues s.ply.channels q)
  else
    s.ply.channels = Vector.replicate 32 0 ∧ s.ply.before = Vector.replicate 32 0
    ∧ s.ply.frames = Vector.replicate 4 none

/-- Every flag in the seen set is set (R190). -/
abbrev State.eventsSound (s : State) : Prop := s.svp.seen &&& ~~~s.svp.flags = 0#18

/-- The configuration memory stands in its one canonical form. -/
abbrev State.memorySound (s : State) : Prop := s.stc.memory.wf = true

end Sys2Proof.Machine
end

