-- ==== Sys2Proof/Certificates/Slice0/Obligations.lean ====
section
/-! DEFINITION. The statements for the provers: each names what it says; OBLIGATIONS.json gives the rules it rests on.
Instants are those of log entry 2, and the words `Config.unitTime`, `Config.millisecond` and the like are 40 ns, 1 ms
and the like in them. That a timer's command lets time pass up to its expiry, and that an event that has not come about
changes nothing, is the model's choice (log entry 6). -/

open Sys2Proof Sys2Proof.Machine

/-! ## The queue of commands -/

/-- Step takes the command at the front of the queue and runs it on the state with the queue's rest. -/
def Obligations.StepRunsFrontCommand : Prop :=
  ∀ (c : Instr) (rest : List Instr) (s : State), s.pending = c :: rest → step s = exec c { s with pending := rest }

/-- Every command completes on every state: it never stops the station (R31, R180 name states, not stops), it takes
nothing from the queue and it lets time pass or stand, never run back.

On an empty queue the station queues one command and changes nothing else: an event of its own that comes about
next, a count increment first, or a unit time of the receive line that brings nothing (the model's choice, log
entries 3 and 4). -/
def Obligations.EveryStepCompletes : Prop :=
  (∀ (c : Instr) (s : State),
      ∃ t, exec c s = .next t ∧ t.pending = s.pending ∧ t.ties = s.ties ∧ s.now ≤ t.now)
  ∧ (∀ s : State, s.pending = [] →
      ∃ (c : Instr) (k : Nat), step s = .next { s with ties := k, pending := [c] }
        ∧ (s.dueEvents = [] → c = .lineUnitReceived .silence ∧ k = s.ties)
        ∧ (s.dueEvents ≠ [] → c ∈ s.dueEvents)
        ∧ (∀ d rest, s.dueEvents = d :: rest → Sys2Proof.Machine.Instr.increments d = true → c = d))

/-! ## Reset and start-up -/

/-- The values every block holds after device reset, and that every soundness property below holds there. -/
def Obligations.ResetValues : Prop :=
  let s := State.reset
  (s.atc.state = .detached ∧ s.atc.attach = false ∧ s.atc.idleRun = 0 ∧ s.atc.signalSeen = false
    ∧ s.atc.upstream = .loss ∧ s.atc.holdoff = none ∧ s.atc.leaveTimer = none ∧ s.atc.closure = .opened)
  ∧ (s.rx.opened = none ∧ s.rfw.repeats = [] ∧ s.rfw.arbiter = .disabled)
  ∧ (s.inq.cues = [] ∧ s.inq.slot = none ∧ s.inq.audio = [])
  ∧ (s.trm.transit = [] ∧ s.trm.expired = [] ∧ s.trm.conflicts = 0 ∧ s.trm.lastTrip = 0 ∧ s.trm.maxTrip = 0
    ∧ ∀ i : Fin 4, s.trm.heard[i] = .unknown)
  ∧ (s.pru.timer = none ∧ s.pru.seq = 0 ∧ (∀ i : Fin 4, s.pru.claims[i] = .held)
    ∧ (∀ n : Fin 16, s.pru.reported[n] = none) ∧ ∀ i : Fin 30, (s.pru.peers[i]).present = false)
  ∧ (s.cap.count = 0 ∧ s.cap.running = false ∧ s.cap.qualRun = 0
    ∧ (∀ q : Fin 2, (s.cap.stores[q]).status = .ok) ∧ ∀ i : Fin 4, s.cap.seqs[i] = 0)
  ∧ (∀ n : Fin 16, (s.srx[n]).state = .waiting ∧ (s.srx[n]).origin = none ∧ (s.srx[n]).queue = []
    ∧ (s.srx[n]).expSeq = 0 ∧ (s.srx[n]).expStamp = 0 ∧ (s.srx[n]).r = 0 ∧ (s.srx[n]).rPlay = 0
    ∧ (s.srx[n]).margin = 0 ∧ (s.srx[n]).holdoff = 0 ∧ (s.srx[n]).slip = .none
    ∧ (s.srx[n]).conceal = 0 ∧ (s.srx[n]).lastPlayed = none ∧ (s.srx[n]).played = false
    ∧ ∀ i : Fin 11, (s.srx[n]).counters[i] = 0)
  ∧ (∀ p : Fin 4, (s.pos.positions[p]).onAir = false ∧ (s.pos.positions[p]).talk = .off
    ∧ (s.pos.positions[p]).tag = none ∧ (s.pos.positions[p]).talkback = false
    ∧ (s.pos.positions[p]).latch = false ∧ (s.pos.positions[p]).selection = .programme)
  ∧ (s.pos.cueTag = 0 ∧ s.pos.held = 0 ∧ s.pos.lamps = 0 ∧ ∀ i : Fin 30, s.pos.lastTags[i] = none)
  ∧ (s.stc.load = .loading ∧ s.stc.cause = none ∧ s.stc.image = none)
  ∧ (s.svp.flags = 0 ∧ s.svp.seen = 0 ∧ (∀ i : Fin 28, s.svp.counters[i] = 0) ∧ s.attn = false)
  ∧ (s.withinCapacity ∧ s.withinCeilings ∧ s.imageClamped ∧ s.attachmentSound ∧ s.emptySound ∧ s.slipSound
    ∧ s.filterSound ∧ s.claimsSound ∧ s.panelSound ∧ s.portsSound ∧ s.eventsSound ∧ s.memorySound)

/-- RESET_ASSERTED with ATTACH released, or with the transmit line between frames: every item takes its device-reset
value, ATTACH is released at the assertion and no ABORT unit is sent. The memory beside the part, the line's unit times
and the model's own instant and queue go on. A RESET_N that is asserted already stays so.

RESET_ASSERTED while a frame is being transmitted: the frame's next unit and each unit after it is an ABORT unit, the
unit on the line going out whole, and ATTACH stays asserted; every other item takes its device-reset value at the
assertion. ABORT units already under way, those of an earlier reset among them, go on.

RESET_ABORT_COMPLETE: the 8 ABORT units of a reset take 8 unit times, and as the 8th ends ATTACH is released, the
arbiter is DISABLED and the line carries IDLE units, whether or not RESET_N has been released; nothing else changes.

The model's choices, not the spec's device-reset values: the straps 0 and VENUE, the clock source state INTERNAL, the
recorded gates closed, the flash timer lit and no answer (log entry 1); the memory kept through the reset (log entry 5);
the line's unit times going on (log entry 20); that the command lets time pass up to its instant, and that an event that
has not come about changes nothing (log entry 6); that a frame closed by its END and not yet taken is discarded
uncounted (log entry 15); that the arbiter stays SENDING through those units, and that units
under way at a further reset are counted (log entry 14); where the line's unit times begin (log entry 22); and that a
frame whose START begins at that instant, or whose END is on the line, is cut off after that unit (log entry 24). -/
def Obligations.ResetReleasesAttach : Prop :=
  (∀ s : State,
      (s.stc.held = true → exec .resetAsserted s = .next s)
      ∧ (s.stc.held = false → s.atc.attach = false ∨ s.rfw.sending = false →
        ∃ t, exec .resetAsserted s = .next t
          ∧ t = { State.reset with
              now := s.now
              atc := { State.reset.atc with unitEnd := s.atc.unitEnd }
              stc := { State.reset.stc with memory := s.stc.memory }
              ties := s.ties
              pending := s.pending }
          ∧ t.atc.attach = false ∧ t.txUnit = .idle))
  ∧ (∀ (s : State) (f : LineFrame) (since start : Nat),
      s.stc.held = false → s.atc.attach = true → s.rfw.arbiter = .sending f since →
      (s.rfw.cut = none → s.unitBegins (since + Config.unitTime) start) → (∀ c ∈ s.rfw.cut, start = c.since) →
      ∃ t, exec .resetAsserted s = .next t
        ∧ t = { State.reset with
            now := s.now
            atc := { State.reset.atc with unitEnd := s.atc.unitEnd, attach := true }
            rfw := { State.reset.rfw with arbiter := .sending f since, cut := some ⟨start, true⟩ }
            stc := { State.reset.stc with memory := s.stc.memory }
            ties := s.ties
            pending := s.pending }
        ∧ t.txUnit = if start ≤ s.now then .abort else s.txUnit)
  ∧ (∀ (s : State) (since : Nat), s.rfw.cut = some ⟨since, true⟩ →
      ∃ t, exec .resetAbortComplete s = .next t
        ∧ t = { s with
            now := max s.now (since + 8 * Config.unitTime)
            atc := { s.atc with attach := false }
            rfw := { s.rfw with arbiter := .disabled, cut := none } }
        ∧ t.txUnit = .idle)

/-- RESET_RELEASED: the straps are latched, the load state becomes MAINTENANCE or stays LOADING by the MAINT strap, the
clock source state follows the CLKSRC strap, and ring time, the internal divider, the flash timer and the watch of the
receive line run from here; nothing else changes. Outside reset the release has no effect.

That an event that has not come about changes nothing is the model's choice (log entry 6). -/
def Obligations.ReleaseLatchesStraps : Prop :=
  ∀ (s : State) (straps : Straps),
    (s.stc.held = false → exec (.resetReleased straps) s = .next s)
    ∧ (s.stc.held = true →
      ∃ t, exec (.resetReleased straps) s = .next t
        ∧ t = { s with
            releasedAt := s.now
            atc := { s.atc with unitEnd := s.now }
            cap := { s.cap with
              clock := if straps.external = true then .holdover else .internal
              dividerAt := s.now }
            pos := { s.pos with flashAt := s.now }
            stc := { s.stc with
              held := false
              straps := straps
              load := if straps.maint = true then .maintenance else .loading } }
        ∧ t.ringTime = 0)

/-- CONFIGURATION_LOAD_END: with a fault the load state is FAULTED with the first fault's cause and the station HALTED,
its receive line unwatched; without one the state is LOADED with the clamped image, the station is JOINING with the join
holdoff started and the signal-seen note clear, the scanner's period starts, and at a venue with a RETURN subscription
the fallback timers start. Nothing else changes, and no flag is raised. -/
def Obligations.LoadEndDecides : Prop :=
  ∀ s : State, s.stc.held = false → s.stc.load = .loading →
    (∀ cause, loadFault s.stc.memory.record s.stc.straps = some cause →
      exec .configurationLoadEnd s = .next { s with
        stc := { s.stc with load := .faulted, cause := some cause }
        atc := { s.atc with
          state := .halted, idleRun := 0, signalSeen := false, upstream := .loss, quietUnits := 0, validRun := 0,
          holdoff := none, awaitIdle := false, attachDue := false } })
    ∧ (loadFault s.stc.memory.record s.stc.straps = none →
      let g := readImage s.stc.memory.record
      exec .configurationLoadEnd s = .next { s with
        stc := { s.stc with load := .loaded, image := some g }
        atc := { s.atc with
          state := .joining, holdoff := some s.now, signalSeen := false, awaitIdle := false, attachDue := false }
        pos := { s.pos with
          scanAt := s.now
          positions :=
            if s.stc.straps.role = .venue ∧ (∃ u ∈ g.subscriptions.take 16, u.designation = .programme) then
              Vector.ofFn fun p =>
                { s.pos.positions[p] with
                  timer := .running s.now
                  selection := selectionOf (s.pos.positions[p]).latch (s.pos.positions[p]).talkback }
            else s.pos.positions } })

/-- The order of R180: each cause is the one recorded exactly when its own test finds a fault and no test before it
does, each test being that of R180's table over the fields of the record.

A load without a fault has distinct used stream IDs, all at most 63, each designation at most once, and no playout
channel named twice, all at most 31.

That a B code that is no value of R125 is a BAD_CODE whatever its other bits is log entry 9's reading, and that the
fields of an unused gallery input are not looked at is log entry 10's: the model's choices. -/
def Obligations.FaultsAreJudgedInOrder : Prop :=
  (∀ (rec : List Octet) (straps : Straps),
      let r := recordNat rec
      let venue := straps.role = .venue
      let strap := straps.address = 0#5 ∨ straps.address = 31#5
      let blank := ∀ o ∈ rec, o = 0xFF#8
      let unchecked := recordCheck (rec.take 269) ≠ field16 rec 269
      let source := fun i => i < min 4 (r 35)
      let channel := fun i c => source i ∧ c ≤ r (37 + 10 * i) % 4
      let subscription := fun n => n < min 16 (r 76)
      let code := 2 < r 10 ∨ 3 < r 23 ∨ (∃ q < 6, r (29 + q) / 2 % 4 = 3)
        ∨ (∃ i c, channel i c ∧ r (39 + 10 * i + 2 * c) % 4 = 3) ∨ (∃ n, subscription n ∧ 2 < r (78 + 6 * n))
        ∨ ¬ venue ∧ ∃ i < 16, 2 < r (189 + 3 * i)
      let index := 4 < r 35 ∨ 16 < r 76 ∨ (∃ i, source i ∧ 63 < r (36 + 10 * i))
        ∨ (∃ i c, channel i c ∧ 15 < r (38 + 10 * i + 2 * c)) ∨ (∃ n, subscription n ∧ 63 < r (77 + 6 * n))
        ∨ (∃ n, subscription n ∧ ∃ c < 4, 31 < r (79 + 6 * n + c) ∧ r (79 + 6 * n + c) ≠ 255)
        ∨ venue ∧ (∃ p < 4,
            15 < r (173 + 4 * p) ∨ 31 < r (174 + 4 * p) ∨ 3 < r (175 + 4 * p) ∨ 3 < r (176 + 4 * p))
        ∨ ¬ venue ∧ ((∃ i < 16, r (189 + 3 * i) ≠ 0 ∧ (r (190 + 3 * i) = 0 ∨ 31 < r (190 + 3 * i)
              ∨ 3 < r (191 + 3 * i) ∧ r (191 + 3 * i) ≠ 15))
            ∨ ∃ l < 16, 30 < r (237 + 2 * l) ∨ r (237 + 2 * l) ≠ 0 ∧ 3 < r (238 + 2 * l))
      let gallery := venue ∧ (r 25 = 0 ∨ 30 < r 25 ∨ r 25 = straps.address.toNat)
      let ids := (List.range (r 35)).map (fun i => r (36 + 10 * i))
        ++ (List.range (r 76)).map fun n => r (77 + 6 * n)
      let designations := (List.range (r 76)).map fun n => r (78 + 6 * n)
      let twice := ¬ ids.Nodup ∨ 1 < designations.count 1 ∨ 1 < designations.count 2
      let named := ((List.range (r 76)).flatMap fun n =>
          (List.range 4).map fun c => r (79 + 6 * n + c)).filter (· ≠ 255)
        ++ if venue then (List.range 4).map fun p => r (174 + 4 * p) else []
      let early := strap ∨ blank ∨ unchecked
      (loadFault rec straps = some .badAddress ↔ strap ∨ ¬ early ∧ ¬ code ∧ ¬ index ∧ gallery)
      ∧ (loadFault rec straps = some .noMemory ↔ ¬ strap ∧ blank)
      ∧ (loadFault rec straps = some .checkMismatch ↔ ¬ strap ∧ ¬ blank ∧ unchecked)
      ∧ (loadFault rec straps = some .badCode ↔ ¬ early ∧ code)
      ∧ (loadFault rec straps = some .badIndex ↔ ¬ early ∧ ¬ code ∧ index)
      ∧ (loadFault rec straps = some .duplicateId ↔ ¬ early ∧ ¬ code ∧ ¬ index ∧ ¬ gallery ∧ twice)
      ∧ (loadFault rec straps = some .doubleAssignment ↔
        ¬ early ∧ ¬ code ∧ ¬ index ∧ ¬ gallery ∧ ¬ twice ∧ ¬ named.Nodup))
  ∧ (∀ (rec : List Octet) (straps : Straps), loadFault rec straps = none →
      let sources := (List.range (recordNat rec 35)).map fun s => recordNat rec (36 + 10 * s)
      let subscribed := (List.range (recordNat rec 76)).map fun n => recordNat rec (77 + 6 * n)
      let designations := (List.range (recordNat rec 76)).map fun n => recordNat rec (78 + 6 * n)
      let named := ((List.range (recordNat rec 76)).flatMap fun n =>
          (List.range 4).map fun c => recordNat rec (79 + 6 * n + c)).filter (· ≠ 255)
        ++ if straps.role = .venue then (List.range 4).map fun p => recordNat rec (174 + 4 * p) else []
      (1 ≤ straps.address.toNat ∧ straps.address.toNat ≤ 30)
      ∧ recordNat rec 35 ≤ 4 ∧ recordNat rec 76 ≤ 16
      ∧ (sources ++ subscribed).Nodup ∧ (∀ id ∈ sources ++ subscribed, id ≤ 63)
      ∧ designations.count 1 ≤ 1 ∧ designations.count 2 ≤ 1 ∧ (∀ d ∈ designations, d ≤ 2)
      ∧ named.Nodup ∧ (∀ ch ∈ named, ch ≤ 31))

/-- Each numeric setting is clamped: a value below its range is taken as the lowest, one above it as the highest, and any
other as it is; W is clamped before T, whose range is W to 6B − W.

Every other field of the image is taken from the record at its offset, in its encoding: the name, the codes of B and of
the scan rate, the gallery address, the attention mask, the ports with a slot width, a sample width wider than its slot
being taken as 16 and a playout slot of 16 as 24, the sourced streams with their channels and gatings, the subscriptions
with their channel maps, the positions, the gallery's inputs and lamps, and the record check. A value that R180 makes a
fault is not looked at here. The octet order of the mask is the model's reading (log entry 27), and the model's numbers
are those of the octets, bit 0 the least significant. -/
def Obligations.SettingsClamped : Prop :=
  ∀ rec : List Octet,
    let clamp := fun (lo hi x : Nat) => if x < lo then lo else if hi < x then hi else x
    let r := recordNat rec
    let bit := fun i k => decide (r i / 2 ^ k % 2 = 1)
    let width := fun code : Nat => if code = 0 then 16 else if code = 1 then 24 else 32
    let g := readImage rec
    g.clamped
    ∧ g.period = clamp 4 250 (256 * r 11 + r 12) ∧ g.returnTimeout = clamp 2 60 (r 13)
    ∧ g.window = clamp 1 64 (r 14)
    ∧ g.target = clamp g.window (6 * g.block.samples - g.window) (256 * r 15 + r 16)
    ∧ g.shift = clamp 2 8 (r 17) ∧ g.slipHoldoff = clamp 2 255 (256 * r 18 + r 19)
    ∧ g.limit = clamp 1 15 (r 20) ∧ g.fallback = clamp 50 2000 (256 * r 21 + r 22)
    ∧ g.debounce = clamp 2 15 (r 24)
    ∧ (∀ i : Fin 10, (g.name[i]).toNat = r i.val)
    ∧ (r 10 = 0 → g.block.samples = 24) ∧ (r 10 = 1 → g.block.samples = 48) ∧ (r 10 = 2 → g.block.samples = 96)
    ∧ (r 23 = 0 → g.scanRate = 250) ∧ (r 23 = 1 → g.scanRate = 500) ∧ (r 23 = 2 → g.scanRate = 1000)
    ∧ (r 23 = 3 → g.scanRate = 2000)
    ∧ (r 25 ≤ 30 → g.gallery.toNat = r 25)
    ∧ (∀ f : Fin 18, g.mask.getLsbD f.val = bit (28 - f.val / 8) (f.val % 8))
    ∧ (∀ q : Fin 2, let code := r (29 + q.val) / 2 % 4
        (g.capture[q]).listen = bit (29 + q.val) 0 ∧ (code < 3 → (g.capture[q]).slotWidth = width code)
        ∧ (g.capture[q]).wide = (bit (29 + q.val) 3 && decide (24 ≤ (g.capture[q]).slotWidth)))
    ∧ (∀ q : Fin 4, let code := r (31 + q.val) / 2 % 4
        (g.playout[q]).listen = bit (31 + q.val) 0 ∧ 24 ≤ (g.playout[q]).slotWidth
        ∧ (code < 3 → (g.playout[q]).slotWidth = if code = 0 then 24 else width code))
    ∧ (r 35 ≤ 4 → g.sources.length = r 35)
    ∧ (∀ i < g.sources.length, ∃ c, g.sources[i]? = some c
        ∧ (r (36 + 10 * i) ≤ 63 → c.id.toNat = r (36 + 10 * i))
        ∧ c.wide = bit (37 + 10 * i) 2 ∧ c.talkback = bit (37 + 10 * i) 6
        ∧ c.channels.length = r (37 + 10 * i) % 4 + 1
        ∧ ∀ k < c.channels.length, ∃ ch, c.channels[k]? = some ch
          ∧ (r (38 + 10 * i + 2 * k) ≤ 15 → ch.capture.val = r (38 + 10 * i + 2 * k))
          ∧ ∀ p : Fin 4, r (39 + 10 * i + 2 * k) / 4 % 4 = p.val →
            (r (39 + 10 * i + 2 * k) % 4 = 0 → ch.gating = .always)
            ∧ (r (39 + 10 * i + 2 * k) % 4 = 1 → ch.gating = .onAir p)
            ∧ (r (39 + 10 * i + 2 * k) % 4 = 2 → ch.gating = .talk p))
    ∧ (r 76 ≤ 16 → g.subscriptions.length = r 76)
    ∧ (∀ n < g.subscriptions.length, ∃ u, g.subscriptions[n]? = some u
        ∧ (r (77 + 6 * n) ≤ 63 → u.id.toNat = r (77 + 6 * n))
        ∧ (r (78 + 6 * n) = 0 → u.designation = .none) ∧ (r (78 + 6 * n) = 1 → u.designation = .programme)
        ∧ (r (78 + 6 * n) = 2 → u.designation = .talkback)
        ∧ ∀ c : Fin 4, (∀ ch : Fin 32, r (79 + 6 * n + c.val) = ch.val → u.map[c] = some ch)
          ∧ (r (79 + 6 * n + c.val) = 255 → u.map[c] = none))
    ∧ (∀ p : Fin 4,
        (r (173 + 4 * p.val) ≤ 15 → ((g.positions[p]).mic).val = r (173 + 4 * p.val))
        ∧ (r (174 + 4 * p.val) ≤ 31 → ((g.positions[p]).headphone).val = r (174 + 4 * p.val))
        ∧ (r (175 + 4 * p.val) ≤ 3 → ((g.positions[p]).returnCh).val = r (175 + 4 * p.val))
        ∧ (r (176 + 4 * p.val) ≤ 3 → ((g.positions[p]).talkCh).val = r (176 + 4 * p.val)))
    ∧ (∀ i : Fin 16,
        (r (189 + 3 * i.val) = 0 → (g.inputs[i]).use = .unused)
        ∧ (r (189 + 3 * i.val) = 1 → (g.inputs[i]).use = .tally)
        ∧ (r (189 + 3 * i.val) = 2 → (g.inputs[i]).use = .talk)
        ∧ (r (190 + 3 * i.val) ≤ 31 → ((g.inputs[i]).venue).toNat = r (190 + 3 * i.val))
        ∧ (r (191 + 3 * i.val) ≤ 15 → ((g.inputs[i]).position).toNat = r (191 + 3 * i.val)))
    ∧ (∀ l : Fin 16,
        (r (237 + 2 * l.val) = 0 → g.lamps[l] = none)
        ∧ (1 ≤ r (237 + 2 * l.val) → r (237 + 2 * l.val) ≤ 30 → r (238 + 2 * l.val) ≤ 3 →
          ∃ a p, g.lamps[l] = some (a, p) ∧ a.toNat = r (237 + 2 * l.val) ∧ p.val = r (238 + 2 * l.val)))
    ∧ g.check.toNat = 256 * r 269 + r 270

/-! ## The receive line and joining -/

/-- LINE_UNIT_RECEIVED: one unit time passes. While the line is watched, an IDLE unit adds 1 to the idle-run count up to
255 and anything else sets it to 0; a valid unit sets the signal-seen note; in PRESENT the unit times since the last
valid unit are counted, in LOSS the consecutive valid units. Unwatched, the ATC keeps its items. Nothing changes but
these, the frame receiver and the count of aborted frames.

That a unit time passes with each unit is the model's choice (log entry 6). -/
def Obligations.LineUnitCounts : Prop :=
  ∀ (s : State) (e : LineEvent),
    let valid := ∃ u, e = .unit u
    ∃ t, exec (.lineUnitReceived e) s = .next t
      ∧ t.now = max s.now (s.atc.unitEnd + Config.unitTime)
      ∧ (s.watching = false → t.atc = { s.atc with unitEnd := t.now })
      ∧ (s.watching = true →
        t.atc.unitEnd = t.now
        ∧ (e = .unit .idle → t.atc.idleRun = min 255 (s.atc.idleRun + 1))
        ∧ (e ≠ .unit .idle → t.atc.idleRun = 0)
        ∧ (t.atc.signalSeen = true ↔ s.atc.signalSeen = true ∨ valid)
        ∧ (s.atc.upstream = .present →
          (valid → t.atc.quietUnits = 0)
          ∧ (¬ valid → t.atc.quietUnits = min 64 (s.atc.quietUnits + 1)) ∧ t.atc.validRun = s.atc.validRun)
        ∧ (s.atc.upstream = .loss →
          (valid → t.atc.validRun = min 256 (s.atc.validRun + 1))
          ∧ (¬ valid → t.atc.validRun = 0) ∧ t.atc.quietUnits = s.atc.quietUnits)
        ∧ (t.atc.attachDue = true ↔ s.atc.attachDue = true
          ∨ s.atc.state = .joining ∧ s.atc.awaitIdle = true ∧ e = .unit .idle ∧ 32 ≤ t.atc.idleRun)
        ∧ t.atc.state = s.atc.state ∧ t.atc.attach = s.atc.attach ∧ t.atc.upstream = s.atc.upstream
        ∧ t.atc.holdoff = s.atc.holdoff ∧ t.atc.awaitIdle = s.atc.awaitIdle ∧ t.atc.leaveTimer = s.atc.leaveTimer
        ∧ t.atc.leaveCause = s.atc.leaveCause ∧ t.atc.finalSent = s.atc.finalSent
        ∧ t.atc.closure = s.atc.closure)
      ∧ t.svp.flags = s.svp.flags ∧ t.svp.seen = s.svp.seen ∧ t.svp.answer = s.svp.answer
      ∧ t.svp.writeOpen = s.svp.writeOpen
      ∧ (∀ c : Counter, c ≠ .abortedFrames → t.counter c = s.counter c)
      ∧ t = { s with now := t.now, atc := t.atc, rx := t.rx, svp := t.svp }

/-- While the station is attached, a START with no frame open, any octets and an END make one frame that awaits its
arrival: its octets, of which at most 1167 are kept, and how many there were. It is counted in no counter.

What the other units do to framing: an IDLE, an ABORT or a code violation closes an open frame as ABORTED, a START
closes it as ABORTED and opens a new one, and each such frame is counted; with no frame open, and in a state that
assembles no frames, none of them has an effect but the START that opens a frame. -/
def Obligations.UnitsAreFramed : Prop :=
  (∀ (s : State) (octets : List Octet), s.attached = true → s.rx.opened = none →
      ∃ t, execAll ([.lineUnitReceived (.unit .start)] ++ octets.map (fun o => .lineUnitReceived (.unit (.data o)))
          ++ [.lineUnitReceived (.unit .finish)]) s = .next t
        ∧ t.rx = ⟨none, s.rx.closed ++ [⟨octets.take 1167, octets.length⟩]⟩
        ∧ t = { s with now := t.now, atc := t.atc, rx := t.rx })
  ∧ (∀ (s : State) (e : LineEvent),
      ∃ t, exec (.lineUnitReceived e) s = .next t
        ∧ (s.attached = false → t.rx = s.rx ∧ t.svp = s.svp)
        ∧ (s.attached = true → s.rx.opened = none →
          t.svp = s.svp
          ∧ t.rx = if e = .unit .start then ⟨some ⟨[], 0⟩, s.rx.closed⟩ else s.rx)
        ∧ (s.attached = true → s.rx.opened.isSome →
          e = .unit .idle ∨ e = .unit .abort ∨ e = .violation ∨ e = .unit .start →
          t.rx = ⟨if e = .unit .start then some ⟨[], 0⟩ else none, s.rx.closed⟩
          ∧ t.counter .abortedFrames = min 65535 (s.counter .abortedFrames + 1) ∧ t.svp.flags = s.svp.flags))

/-- UPSTREAM_LOSS_DECLARATION, when 64 unit times have passed in PRESENT with no valid unit: the state becomes LOSS.
While attached UPSTREAM_LOSS is raised, and an open frame is closed as ABORTED and counted; in JOINING, after the
holdoff has expired, the join holdoff starts again with the signal-seen note clear. Nothing else changes, and the
attachment state never.

UPSTREAM_RESTORAL, when 256 consecutive valid units have come in LOSS: the state becomes PRESENT, and UPSTREAM_RESTORED
is raised exactly while the station is attached; nothing else changes. -/
def Obligations.UpstreamSignalIsDeclared : Prop :=
  (∀ s : State, s.watching = true → s.atc.upstream = .present → 64 ≤ s.atc.quietUnits →
      let lost := { s.atc with upstream := .loss, quietUnits := 0, validRun := 0 }
      ∃ t, exec .upstreamLossDeclaration s = .next t
        ∧ (s.attached = true →
          let told := { s with atc := lost, rx := ⟨none, s.rx.closed⟩ }.raise .upstreamLoss
          t = if s.rx.opened.isSome = true then told.countOne .abortedFrames else told)
        ∧ (s.attached = false →
          t = { s with atc :=
            if s.atc.state = .joining ∧ s.atc.awaitIdle = true then
              { lost with holdoff := some s.now, signalSeen := false, awaitIdle := false, attachDue := false }
            else lost }))
  ∧ (∀ s : State, s.watching = true → s.atc.upstream = .loss → 256 ≤ s.atc.validRun →
      let present := { s.atc with upstream := .present, quietUnits := 0, validRun := 0 }
      exec .upstreamRestoral s = .next
        (if s.attached = true then { s with atc := present }.raise .upstreamRestored else { s with atc := present }))

/-- JOIN_HOLDOFF_EXPIRY, 800 ms after the holdoff started in JOINING: with the signal-seen note clear the station
attaches at once; with it set, in PRESENT it waits for an idle run, and in LOSS the holdoff starts again with the note
clear. Nothing else changes.

ATTACH: ATTACH is asserted and the station is PROVING with ring closure OPEN; the lists, the conflict count, the round
trips and the heard states take their attach values; no frame is open; the line gives its 4 IDLE units first; the
announce timer starts and the first announce, its ring closed flag clear and its upstream loss flag as the line stands,
takes the slot. Nothing else changes.

That the command lets time pass up to its instant is the model's choice (log entry 6). -/
def Obligations.JoiningEndsInProving : Prop :=
  (∀ (s : State) (start : Nat), s.atc.state = .joining → s.atc.holdoff = some start →
      let now := max s.now (start + 800 * Config.millisecond)
      exec .joinHoldoffExpiry s = .next { s with
        now := now
        atc :=
          if s.atc.signalSeen = false then { s.atc with holdoff := none, attachDue := true }
          else if s.atc.upstream = .present then { s.atc with holdoff := none, awaitIdle := true }
          else { s.atc with holdoff := some now, signalSeen := false, awaitIdle := false, attachDue := false } })
  ∧ (∀ (s : State) (g : Image),
      s.atc.state = .joining → s.atc.attachDue = true → s.rfw.cut = none → s.stc.image = some g → s.inq.slot = none →
      exec .attach s = .next { s with
        atc := { s.atc with
          attach := true, state := .proving, closure := .opened, holdoff := none, awaitIdle := false, attachDue := false }
        trm := ⟨[], [], 0, 0, 0, Vector.replicate 4 .unknown⟩
        rx := ⟨none, []⟩
        rfw := ⟨[], .gap s.now, none⟩
        pru := { s.pru with timer := some s.now, seq := s.pru.seq + 1 }
        inq := { s.inq with slot := some {
          origin := s.address
          seq := s.pru.seq
          role := s.stc.straps.role
          period := BitVec.ofNat 16 g.period
          flags := ⟨false, s.atc.upstream == .loss, false⟩
          name := g.name
          model := 0x0416#16
          check := g.check
          streams := streamList g s.pru.claims } } })

/-! ## Arriving frames -/

/-- FRAME_ARRIVAL of a frame that is not well-formed: it is discarded and counted as its verdict says; nothing else
changes.

A well-formed frame of the station's own origin is stripped whatever its hop count: it is not forwarded, and no
copier sees it, so the peer table, the stream contexts and the last tags seen stand, and of the forwarder at most the
frame that the arbiter starts next changes.

A well-formed frame of another origin that arrives with hop count 0 is removed as an orphan: it is counted, and
nothing else changes; no copier sees it and it is not forwarded.

A frame that arrives at the instant of a count increment waits for the increment: until it is taken, FRAME_ARRIVAL
changes nothing. That is how the model gives R113's order (log entry 17). That the frame the arbiter has chosen is held
until its START is the model's choice (log entry 22). -/
def Obligations.StoppedFramesGoNoFurther : Prop :=
  (∀ (s : State) (f : RxFrame) (rest : List RxFrame), s.attached = true → s.rx.closed = f :: rest →
      let taken := { s with rx := { s.rx with closed := rest } }
      (s.incrementDue = true → exec .frameArrival s = .next s)
      ∧ (s.incrementDue = false → judge f = .checkFailure →
        exec .frameArrival s = .next (taken.countOne .checkFailures))
      ∧ (s.incrementDue = false → judge f = .unknownKind →
        exec .frameArrival s = .next (taken.countOne .unknownKinds)))
  ∧ (∀ (s : State) (f : RxFrame) (rest : List RxFrame) (fr : Frame),
      s.takes f rest fr → fr.origin = s.address →
      ∃ t, exec .frameArrival s = .next t
        ∧ t.rx = { s.rx with closed := rest } ∧ (t.rfw = s.rfw ∨ State.arbiterActs s.rfw t) ∧ t.pru.peers = s.pru.peers
        ∧ t.pru.claims = s.pru.claims ∧ t.pru.reported = s.pru.reported ∧ t.srx = s.srx
        ∧ t.pos.lastTags = s.pos.lastTags ∧ t.now = s.now ∧ t.cap = s.cap ∧ t.stc = s.stc ∧ t.ply = s.ply)
  ∧ (∀ (s : State) (f : RxFrame) (rest : List RxFrame) (fr : Frame),
      s.takes f rest fr → fr.origin ≠ s.address → hopsOf f.octets = 0#5 →
      exec .frameArrival s = .next ({ s with rx := { s.rx with closed := rest } }.countOne .orphansRemoved))

/-- The six tests in their order: a frame closed by an END is judged as the first test that fails says, and is
WELL_FORMED when it passes all six.

A frame of fewer than 11 octets or more than 1167 is a CHECK_FAILURE by its length alone, whatever of it was kept: of a
longer frame the receiver keeps the first 1167 octets and counts the others.

The verdict on a frame does not depend on its transit octet: rewriting it in transit never spoils a frame. -/
def Obligations.FramesAreJudged : Prop :=
  (∀ o : List Octet,
      let kind := octetAt o 0
      let origin := (octetAt o 1).toNat % 32
      let checked := frameCheck (o.take (o.length - 4)) = field32 o (o.length - 4)
      let known := kind = 0x1A#8 ∨ kind = 0x2C#8 ∨ kind = 0x3D#8
      let code := (octetAt o 10).toNat / 8 % 4
      let fits :=
        (kind = 0x1A#8 → code ≠ 3 ∧
          o.length = 15 + [24, 48, 96].getD code 0 * ((octetAt o 10).toNat % 4 + 1)
            * (if (octetAt o 10).toNat / 4 % 2 = 1 then 3 else 2))
        ∧ (kind = 0x2C#8 → (octetAt o 22).toNat ≤ 4 ∧ o.length = 27 + 3 * (octetAt o 22).toNat)
        ∧ (kind = 0x3D#8 → o.length = 11)
      let cue := kind = 0x3D#8 → octetAt o 4 ∈ [0x01#8, 0x02#8, 0x11#8, 0x12#8, 0x13#8, 0x14#8]
      let verdict := judge ⟨o, o.length⟩
      (o.length < 11 ∨ 1167 < o.length → verdict = .checkFailure)
      ∧ (11 ≤ o.length → o.length ≤ 1167 →
        (¬ checked → verdict = .checkFailure)
        ∧ (checked → ¬ known → verdict = .unknownKind)
        ∧ (checked → known → ¬ (1 ≤ origin ∧ origin ≤ 30) → verdict = .checkFailure)
        ∧ (checked → known → 1 ≤ origin → origin ≤ 30 → ¬ fits → verdict = .checkFailure)
        ∧ (checked → known → 1 ≤ origin → origin ≤ 30 → fits → ¬ cue → verdict = .unknownKind)
        ∧ (checked → known → 1 ≤ origin → origin ≤ 30 → fits → cue → verdict = .wellFormed)))
  ∧ (∀ r : RxFrame, r.length < 11 ∨ 1167 < r.length → judge r = .checkFailure)
  ∧ (∀ (o : List Octet) (x : Octet), judge ⟨o.set 2 x, o.length⟩ = judge ⟨o, o.length⟩)

/-- An own frame whose fields lie in the ranges a builder gives them is sent well-formed, with hop count 31 and the
copied flag clear, and every receiver reads back the fields that were sent: no field of any kind is dropped or moved. -/
def Obligations.OwnFrameRoundTrip : Prop :=
  ∀ f : Frame,
    1 ≤ f.origin.toNat → f.origin.toNat ≤ 30 →
    (∀ a, f = .audio a → a.format.payloadLength = some a.payload.length) →
    (∀ a, f = .announce a → a.streams.length ≤ 4) →
    judge ⟨f.octets, f.octets.length⟩ = .wellFormed ∧ readFrame f.octets = some f
      ∧ hopsOf f.octets = 31#5 ∧ copiedOf f.octets = false

/-- Every other well-formed frame is offered to the copier of its kind and then forwarded, whatever the answer: it joins
the tail of the repeat queue with one hop fewer and with its copied flag set by an accepting copier and else as it
arrived, every other octet as it arrived; where its octets would carry the queue past 4096 it is dropped and counted, and
REPEAT_OVERFLOW is raised. Nothing changes but this and what the copier does: the Stream Receiver for AUDIO, the
Presence Unit for an ANNOUNCE, the Position Controller for a CUE, and the arbiter's choice in READY of the frame to start
(OwnFramesStartInOrder), once the frame stands in the queue. In LEAVING, and for a CUE in PROVING, the copier declines
and does nothing. That the arbiter looks only then, where the copier has offered an own announce too, is the model's
reading (log entry 22). -/
def Obligations.OthersAreForwarded : Prop :=
  ∀ (s : State) (f : RxFrame) (rest : List RxFrame) (fr : Frame),
    s.takes f rest fr → fr.origin ≠ s.address → hopsOf f.octets ≠ 0#5 →
    let taken := { s with rx := { s.rx with closed := rest } }
    let offered := match fr with
      | .audio a => taken.offerToSrx a
      | .announce a => taken.offerToPru a
      | .cue c => taken.offerToPos c
    let o := f.octets.set 2 (transitOctet (hopsOf f.octets - 1) (copiedOf f.octets || offered.2))
    taken.offerToCopier fr = offered
    ∧ exec .frameArrival s = .next
        (if (s.rfw.repeats.map List.length).sum + f.octets.length ≤ 4096 then
          { offered.1 with rfw := { s.rfw with repeats := s.rfw.repeats ++ [o] } }
        else (offered.1.countOne .repeatOverflows).raise .repeatOverflow).decideStart
    ∧ offered.1.rfw = s.rfw ∧ offered.1.rx = { s.rx with closed := rest }
    ∧ offered.1.trm.transit = s.trm.transit ∧ offered.1.trm.expired = s.trm.expired ∧ offered.1.cap = s.cap
    ∧ offered.1.stc = s.stc ∧ offered.1.atc = s.atc ∧ offered.1.now = s.now
    ∧ (s.atc.state = .leaving ∨ (s.atc.state = .proving ∧ ∃ c, fr = .cue c) → offered = (taken, false))

/-! ## The TX arbiter -/

/-- TX_GAP_COMPLETE: in GAP the 4th IDLE unit brings READY, the arbiter chooses the frame it starts, if there is one
(OwnFramesStartInOrder), and nothing else changes.

REPEAT_FRAME_START: in READY, with a repeat chosen, as the next unit time of the line begins the frame at the head of the
repeat queue goes out with its octets as they stand there: its START is on the line, it leaves the queue and is counted
forwarded, all at that instant; nothing else changes. In READY with nothing to start, and in any other state, no frame
starts.

The line carries IDLE between frames, and from a frame's START on the START, the octets and an END, one unit each unit
time.

FRAME_END_SENT: a frame of n octets takes n + 2 unit times, and then the arbiter is in GAP. In LEAVING the END of the
final announce is noted, and where it has been sent and the repeat queue is empty the idle-run count is set to 0, for
the drain to be counted from there. Nothing else changes.

That the command lets time pass up to its instant, and that an event that has not come about changes nothing, is the
model's choice (log entry 6). Where the line's unit times begin, and that a frame chosen within one leaves its queue at
the START that follows, is the model's too (log entry 22). -/
def Obligations.ArbiterKeepsTheGap : Prop :=
  (∀ (s : State) (since : Nat), s.rfw.arbiter = .gap since →
      exec .txGapComplete s = .next { s with
        now := max s.now (since + 4 * Config.unitTime)
        rfw := { s.rfw with arbiter := .ready since none } }.decideStart)
  ∧ (∀ s : State,
      (∀ o rest since start, s.decideStart.rfw.arbiter = .ready since (some .repeatHead) → s.rfw.repeats = o :: rest →
        s.unitBegins since start →
        (∃ t, exec .repeatFrameStart s = .next t
          ∧ t = { s with
              now := start
              rfw := { s.rfw with repeats := rest, arbiter := .sending ⟨o, false⟩ start } }.countOne .framesForwarded
          ∧ (s.rfw.cut = none → t.txUnit = .start))
        ∧ exec .ownFrameStart s = .next s)
      ∧ ((∀ since k, s.decideStart.rfw.arbiter ≠ .ready since (some k)) →
        exec .repeatFrameStart s = .next s ∧ exec .ownFrameStart s = .next s))
  ∧ (∀ s : State, s.rfw.sending = false → s.txUnit = .idle)
  ∧ (∀ (s : State) (f : LineFrame) (since : Nat), s.rfw.arbiter = .sending f since → s.rfw.cut = none →
      (∀ k, since + k * Config.unitTime ≤ s.now → s.now < since + (k + 1) * Config.unitTime →
        (k = 0 → s.txUnit = .start)
        ∧ (∀ i (h : i < f.octets.length), k = i + 1 → s.txUnit = .data f.octets[i])
        ∧ (k = f.octets.length + 1 → s.txUnit = .finish))
      ∧ (let sent := since + (f.octets.length + 2) * Config.unitTime
        let done := s.atc.finalSent || (s.atc.state == .leaving && f.final)
        exec .frameEndSent s = .next { s with
          now := max s.now sent
          rfw := { s.rfw with arbiter := .gap sent }
          atc := { s.atc with
            finalSent := done
            idleRun :=
              if s.atc.state = .leaving ∧ done = true ∧ s.rfw.repeats = [] then 0 else s.atc.idleRun } }))

/-- Which frame the arbiter in READY starts next: acting on an event, it holds the frame it has chosen while that is there
to start; otherwise it chooses a frame in the repeat queue, and with that empty the first that the attachment state
allows of the oldest cue, the announce and the oldest audio frame, with fewer than 128 transit entries. So of an arrival
and an own frame's joining, the one taken first decides. Outside READY it chooses nothing, and nothing else changes.

OWN_FRAME_START: with an own frame chosen, as the next unit time of the line begins, the oldest of its queue, or the slot's,
goes out with transit octet and check: at its START it leaves its queue, is counted, and its transit entry joins the list
with the ring time of that instant and a cue's code, position and tag. Nothing else changes, and no repeat starts in its
place. A full transit list holds back every own frame.

That the command lets time pass up to its instant is the model's choice (log entry 6). Where the line's unit times begin,
and that a frame chosen within one leaves its queue at the START that follows, is the model's too (log entry 22). -/
def Obligations.OwnFramesStartInOrder : Prop :=
  (∀ s : State, State.arbiterActs s.rfw s.decideStart ∧ s.decideStart = { s with rfw := s.decideStart.rfw })
  ∧ (∀ s : State, 128 ≤ s.trm.transit.length → exec .ownFrameStart s = .next s)
  ∧ (∀ (s : State) (k : FrameChoice) (f : Frame) (q : Inq) (since start : Nat),
    s.decideStart.rfw.arbiter = .ready since (some k) → s.unitBegins since start → s.stc.held = false →
    ((∃ c cs, k = .cue ∧ s.inq.cues = c :: cs ∧ f = .cue c ∧ q = { s.inq with cues := cs })
      ∨ (∃ a, k = .announce ∧ s.inq.slot = some a ∧ f = .announce a ∧ q = { s.inq with slot := none })
      ∨ (∃ a as, k = .audio ∧ s.inq.audio = a :: as ∧ f = .audio a ∧ q = { s.inq with audio := as })) →
    exec .repeatFrameStart s = .next s
    ∧ ∃ (report : Option CueReport) (final : Bool), exec .ownFrameStart s = .next (
        { s with
          now := start
          inq := q
          trm := { s.trm with transit := s.trm.transit
            ++ [(⟨f.identity, BitVec.ofNat 32 ((start - s.releasedAt) / Config.microsecond), report⟩ : Entry)] }
          rfw := { s.rfw with arbiter := Arbiter.sending (⟨f.octets, final⟩ : LineFrame) start } }.countOne
            .ownStarted)
        ∧ (∀ c, f = .cue c → report = some ⟨c.tag, c.code, c.position⟩ ∧ final = false)
        ∧ (∀ a, f = .announce a → report = none ∧ final = a.flags.leaving)
        ∧ (∀ a, f = .audio a → report = none ∧ final = false))

/-! ## Leaving -/

/-- RESTART_RING: in PROVING and ACTIVE of a loaded station the station enters LEAVING: the leave timer starts, the cues
and audio waiting are discarded and counted, each cue being reported undelivered, so that at a venue the TALK lamp of the
position whose talk request it was goes OFF and its tag becomes none; the announce timer stops, and the final announce, its
leaving flag set, takes the slot, an unsent announce in it being replaced and counted; in READY the arbiter acts on what is
then there to start; the request is acknowledged. In the other states of a station that answers it is refused with NAK, and
nothing else changes.

That a frame chosen is held until its START is the model's choice (log entry 22). -/
def Obligations.RestartRingEntersLeaving : Prop :=
  ∀ s : State,
    (∀ g, s.stc.load = .loaded → s.stc.image = some g → s.inService = true →
      ∃ t, exec .restartRing s = .next t
        ∧ t.atc = { s.atc with
            state := .leaving, leaveTimer := some s.now, leaveCause := some .restart, finalSent := false }
        ∧ t.inq.cues = [] ∧ t.inq.audio = []
        ∧ (∃ a, t.inq.slot = some a ∧ a.flags = ⟨s.atc.closure == .closed, s.atc.upstream == .loss, true⟩
            ∧ a.origin = s.address ∧ a.seq = s.pru.seq ∧ a.streams = streamList g s.pru.claims)
        ∧ t.pru = { s.pru with timer := none, seq := s.pru.seq + 1 }
        ∧ t.counter .ownDiscarded
            = min 65535 (s.counter .ownDiscarded + s.inq.cues.length + s.inq.audio.length)
        ∧ t.counter .announcesReplaced
            = (if s.inq.slot.isSome then min 65535 (s.counter .announcesReplaced + 1)
              else s.counter .announcesReplaced)
        ∧ State.cuesLost (s.inq.cues.map CueFrame.report) s t
        ∧ t.svp.answer = some (.ack .none) ∧ t.trm = s.trm ∧ State.arbiterActs s.rfw t ∧ t.srx = s.srx ∧ t.cap = s.cap
        ∧ t.ply = s.ply ∧ t.stc = s.stc ∧ t.rx = s.rx ∧ t.now = s.now)
    ∧ (s.stc.load = .loaded ∨ s.stc.load = .faulted → s.inService = false →
      exec .restartRing s = .next { s with svp := { s.svp with answer := some .nak, writeOpen := false } })

/-- LEAVE_LIMIT_EXPIRY, 50 ms after the entry to LEAVING, with a frame going out: one ABORT unit takes the place of its
next unit, the unit on the line going out whole, and the leave timer stops; nothing else changes.

The instants at which a leave ends: LEAVE_DRAIN_COMPLETE at 48 IDLE units after the END of the final announce with
nothing left to send, LEAVE_LIMIT_EXPIRY at 50 ms between frames, LEAVE_ABORT_COMPLETE one unit time after the ABORT
unit began. At each of them ATTACH is released: the transit entries are counted abandoned, both lists, the repeat queue
and the insertion queues are emptied, a final announce not started is counted discarded, an open frame goes without a
verdict and uncounted, closure is OPEN and every heard state UNKNOWN. Each abandoned cue is reported undelivered: at a venue
the TALK lamp of the position whose talk request it was goes OFF and its tag becomes none.

That the command lets time pass up to its instant is the model's choice (log entry 6). So are where the line's unit times
begin (log entry 22), that a drain may complete in LOSS (log entry 23), and that a frame whose START begins at that
instant, or whose END is on the line, is cut off after that unit (log entry 24). That a frame closed by its END and not yet
taken is discarded uncounted with the open one is the model's reading (log entry 15). -/
def Obligations.LeaveEndsInRelease : Prop :=
  (∀ (s : State) (timer : Nat) (f : LineFrame) (since start : Nat),
      s.atc.state = .leaving → s.atc.leaveTimer = some timer → s.rfw.arbiter = .sending f since → s.rfw.cut = none →
      let now := max s.now (timer + 50 * Config.millisecond)
      { s with now := now }.unitBegins (since + Config.unitTime) start →
      ∃ t, exec .leaveLimitExpiry s = .next t
        ∧ t = { s with
            now := now
            atc := { s.atc with leaveTimer := none }
            rfw := { s.rfw with cut := some ⟨start, false⟩ } }
        ∧ t.txUnit = if start ≤ now then .abort else { s with now := now }.txUnit)
  ∧ (∀ (s : State) (c : Instr) (now : Nat), s.endsLeave c now → s.inq.cues = [] → s.inq.audio = [] →
      s.withinCeilings →
      ∃ t, exec c s = .next t
        ∧ t.now = now ∧ t.atc.attach = false ∧ t.atc.closure = .opened ∧ t.atc.leaveTimer = none
        ∧ t.trm = { s.trm with transit := [], expired := [], heard := Vector.replicate 4 .unknown }
        ∧ t.rfw = ⟨[], .disabled, none⟩ ∧ t.inq = ⟨[], none, []⟩ ∧ t.rx = ⟨none, []⟩
        ∧ t.counter .abandoned = min 65535 (s.counter .abandoned + s.trm.transit.length)
        ∧ t.counter .ownDiscarded
            = (if s.inq.slot.isSome then min 65535 (s.counter .ownDiscarded + 1) else s.counter .ownDiscarded)
        ∧ t.counter .abortedFrames = s.counter .abortedFrames
        ∧ (t.flag .cueUndelivered = true ↔
            s.flag .cueUndelivered = true ∨ ∃ e ∈ s.trm.transit, e.cue.isSome = true)
        ∧ (s.stc.straps.role = .venue → ∀ e ∈ s.trm.transit, ∀ r ∈ e.cue, r.code = .talkRequest →
            ∀ p : Fin 4, r.position.toNat = p.val → (s.pos.positions[p]).tag = some r.tag →
            (t.pos.positions[p]).talk = .off ∧ (t.pos.positions[p]).tag = none)
        ∧ t.stc = s.stc ∧ t.cap = s.cap ∧ t.txUnit = .idle)

/-- Where the cause of a leave takes the station, however the leave ends: by the drain, found in GAP or READY, by the leave
limit between frames, or by the end of the ABORT unit. After a restart: JOINING with the join holdoff started, every peer
entry ABSENT, every stream context WAITING without origin and with its queue empty, and the cue states cleared, while the
fallback latches, the sequences, the sample count and the configuration keep their values. A context that was LOCKED
starts its run-out and raises STREAM_UNLOCKED, and where it is a venue's return programme the fallback timers start. After
an address-conflict halt: HALTED, with the peer table and the stream contexts as they stood, and of the panel only what the
cues abandoned bring about, the talk request of a venue's position going with its cue.

That the command lets time pass up to its instant is the model's choice (log entry 6); that a drain may complete in LOSS
is so too (log entry 23), and what the channels of a stream that leaves LOCKED carry for the rest of the count is the
model's reading (log entry 16). -/
def Obligations.LeaveCauseDecides : Prop :=
  ∀ (s : State) (c : Instr) (now : Nat), s.endsLeave c now →
    (s.atc.leaveCause = some .restart →
      ∃ t, exec c s = .next t
        ∧ t.now = now ∧ t.atc.state = .joining ∧ t.atc.holdoff = some now ∧ t.atc.signalSeen = false
        ∧ t.atc.leaveCause = none
        ∧ t.atc.idleRun = s.atc.idleRun ∧ t.atc.upstream = s.atc.upstream
        ∧ (∀ i : Fin 30, t.pru.peers[i] = Peer.reset ∧ t.pos.lastTags[i] = none)
        ∧ (∀ i : Fin 4, t.pru.claims[i] = .held) ∧ t.pru.seq = s.pru.seq
        ∧ (∀ n : Fin 16, (t.srx[n]).state = .waiting ∧ (t.srx[n]).origin = none
            ∧ (s.slipSound → (t.srx[n]).queue = [])
            ∧ ((s.srx[n]).state = .locked → (s.srx[n]).hasLeft t.srx[n] .waiting none)
            ∧ ((s.srx[n]).state ≠ .locked → t.srx[n] = { s.srx[n] with state := .waiting, origin := none }))
        ∧ (t.flag .streamUnlocked = true ↔
            s.flag .streamUnlocked = true ∨ ∃ n : Fin 16, (s.srx[n]).state = .locked)
        ∧ (∀ g n, s.stc.image = some g → g.designated .programme = some n → ∀ p : Fin 4,
            (t.pos.positions[p]).timer =
              if s.stc.straps.role = .venue ∧ (s.srx[n]).state = .locked then .running now
              else (s.pos.positions[p]).timer)
        ∧ (∀ p : Fin 4, (t.pos.positions[p]).latch = (s.pos.positions[p]).latch)
        ∧ (s.stc.straps.role = .venue → ∀ p : Fin 4, (t.pos.positions[p]).onAir = false
            ∧ (t.pos.positions[p]).talk = .off ∧ (t.pos.positions[p]).tag = none
            ∧ (t.pos.positions[p]).talkback = false)
        ∧ (s.stc.straps.role = .gallery → t.pos.lamps = 0) ∧ t.cap = s.cap ∧ t.stc = s.stc)
    ∧ (s.atc.leaveCause = some .conflict →
      ∃ t, exec c s = .next t
        ∧ t.now = now ∧ t.atc.state = .halted ∧ t.atc.holdoff = none ∧ t.atc.idleRun = 0 ∧ t.atc.upstream = .loss
        ∧ t.pru = s.pru ∧ t.srx = s.srx ∧ t.cap = s.cap ∧ t.stc = s.stc
        ∧ State.cuesLost (s.trm.transit.filterMap (·.cue)) s t)

/-! ## The transit list -/

/-- A stripped frame that matches the head entry: the entry leaves the list, the return is counted, and its outcome is
delivered by its kind. An ANNOUNCE measures the round trip and reports closure as returned: PROVING ends in ACTIVE with
RING_CLOSED, elsewhere RING_CLOSED is raised on a change. AUDIO sets the stream's heard state from the copied flag. A CUE
that comes back uncopied raises CUE_UNDELIVERED. At a venue a TALK_REQUEST's outcome acts on the position it names while
its tag is the one recorded there: delivered, a flashing TALK lamp turns ON; undelivered, the lamp is OFF and the tag none.
Any other tag, cue or position is left as it was.

The entry behind it becomes the head, and is judged against the return timeout at that instant: it, and each head after it
that is already beyond the timeout, is lost by timeout then and there, with the loss outcome of its kind, its identity
joining the expired list. In READY the arbiter acts on the entries freed.

That heads of one start microsecond go together is the model's reading (log entry 25). That a frame chosen is held until
its START is the model's choice (log entry 22). -/
def Obligations.HeadMatchDelivers : Prop :=
  ∀ (s : State) (f : RxFrame) (rest : List RxFrame) (fr : Frame) (e : Entry) (es : List Entry),
    s.takes f rest fr → fr.origin = s.address → s.trm.transit = e :: es → e.identity = fr.identity →
    let copied := copiedOf f.octets
    let trip := s.ringTime - e.start
    ∃ u t, exec .frameArrival s = .next t ∧ State.headsLost u t ∧ t.now = s.now ∧ State.arbiterActs s.rfw t
      ∧ u = { s with
          rx := { s.rx with closed := rest }, atc := u.atc, trm := u.trm, pos := u.pos
          svp := { s.svp with flags := u.svp.flags, seen := u.svp.seen, counters := u.svp.counters } }
      ∧ u.trm.transit = es ∧ u.trm.expired = s.trm.expired ∧ u.trm.conflicts = s.trm.conflicts
      ∧ u.counter .ownReturned = min 65535 (s.counter .ownReturned + 1)
      ∧ (∀ q, e.identity = .announce q →
        u.trm.lastTrip = trip ∧ u.trm.maxTrip = (if s.trm.maxTrip.toInt < trip.toInt then trip else s.trm.maxTrip)
        ∧ u.trm.heard = s.trm.heard
        ∧ u.atc = { s.atc with
            closure := .closed, state := if s.atc.state = .proving then .active else s.atc.state }
        ∧ (u.flag .ringClosed = true ↔
            s.flag .ringClosed = true ∨ s.atc.state = .proving ∨ s.atc.closure = .opened))
      ∧ (∀ id q i g, e.identity = .audio id q → s.stc.image = some g → g.sourceOf id = some i →
        u.trm.heard = s.trm.heard.set i.val (if copied = true then .heard else .unheard) i.isLt
        ∧ u.counter (.unheard i)
            = (if copied = true then s.counter (.unheard i) else min 65535 (s.counter (.unheard i) + 1))
        ∧ u.svp.flags = s.svp.flags ∧ u.atc = s.atc ∧ u.trm.lastTrip = s.trm.lastTrip)
      ∧ (∀ tag, e.identity = .cue tag → e.cue.isSome = true →
        (u.flag .cueUndelivered = true ↔ s.flag .cueUndelivered = true ∨ copied = false)
        ∧ u.atc = s.atc ∧ u.trm.heard = s.trm.heard)
      ∧ (∀ tag report, e.identity = .cue tag → e.cue = some report →
        (s.stc.straps.role = .gallery ∨ report.code ≠ .talkRequest → u.pos = s.pos)
        ∧ (s.stc.straps.role = .venue → report.code = .talkRequest → ∀ p : Fin 4,
          let old := s.pos.positions[p]
          (report.position.toNat ≠ p.val → u.pos.positions[p] = old)
          ∧ (report.position.toNat = p.val → old.tag ≠ some report.tag → old.sound → u.pos.positions[p] = old)
          ∧ (report.position.toNat = p.val → old.tag = some report.tag →
            u.pos.positions[p] = { old with
              talk := if copied = true then (if old.talk = .flash then .on else old.talk) else .off
              tag := if copied = true then old.tag else none
              selection := selectionOf old.latch old.talkback })))

/-- A stripped frame that matches an entry behind the head: every entry ahead is lost by skip and counted, with the loss
outcome of its kind, and then the match itself is a return; no identity joins the expired list. A lost ANNOUNCE sets
closure OPEN: PROVING ends in ACTIVE with RING_OPENED, elsewhere RING_OPENED is raised on a change; an ANNOUNCE that then
returns sets it CLOSED, with RING_CLOSED on a change. Lost AUDIO leaves its stream UNHEARD, its unheard count as it was,
and a lost CUE raises CUE_UNDELIVERED, the talk request recorded at a venue's position going with it.

The entry behind the match becomes the head, and it and each head after it that is already beyond the return timeout is
lost by timeout at that instant, its identity joining the expired list. In READY the arbiter acts on the entries freed.

That heads of one start microsecond go together is the model's reading (log entry 25). That a frame chosen is held until
its START is the model's choice (log entry 22). -/
def Obligations.SkippedEntriesAreLost : Prop :=
  ∀ (s : State) (f : RxFrame) (rest : List RxFrame) (fr : Frame) (ahead es : List Entry) (e : Entry),
    s.takes f rest fr → fr.origin = s.address → s.trm.transit = ahead ++ e :: es → ahead ≠ [] →
    (∀ a ∈ ahead, a.identity ≠ fr.identity) → e.identity = fr.identity →
    ∃ u t, exec .frameArrival s = .next t ∧ State.headsLost u t ∧ t.now = s.now ∧ State.arbiterActs s.rfw t
      ∧ u = { s with
          rx := { s.rx with closed := rest }, atc := u.atc, trm := u.trm, pos := u.pos
          svp := { s.svp with flags := u.svp.flags, seen := u.svp.seen, counters := u.svp.counters } }
      ∧ u.trm.transit = es ∧ u.trm.expired = s.trm.expired
      ∧ u.counter .skipLosses = min 65535 (s.counter .skipLosses + ahead.length)
      ∧ u.counter .ownReturned = min 65535 (s.counter .ownReturned + 1)
      ∧ u.counter .timeoutLosses = s.counter .timeoutLosses
      ∧ (let lost := ∃ a ∈ ahead, ∃ q, a.identity = .announce q
        let back := ∃ q, e.identity = .announce q
        let ended := if s.atc.state = .proving then AttachmentState.active else s.atc.state
        (back → u.atc = { s.atc with closure := .closed, state := ended })
        ∧ (¬ back → lost → u.atc = { s.atc with closure := .opened, state := ended })
        ∧ (¬ back → ¬ lost → u.atc = s.atc)
        ∧ (u.flag .ringOpened = true ↔
            s.flag .ringOpened = true ∨ lost ∧ (s.atc.state = .proving ∨ s.atc.closure = .closed))
        ∧ (u.flag .ringClosed = true ↔
            s.flag .ringClosed = true ∨ back ∧ (lost ∨ s.atc.state = .proving ∨ s.atc.closure = .opened)))
      ∧ (∀ a ∈ ahead, ∀ id q i g, a.identity = .audio id q → s.stc.image = some g → g.sourceOf id = some i →
        (∀ q', e.identity ≠ .audio id q') →
        u.trm.heard[i] = .unheard ∧ ((∀ id' q', e.identity ≠ .audio id' q') →
          u.counter (.unheard i) = s.counter (.unheard i)))
      ∧ (u.flag .cueUndelivered = true ↔ s.flag .cueUndelivered = true
          ∨ (∃ a ∈ ahead, ∃ tag, a.identity = .cue tag ∧ a.cue.isSome = true)
          ∨ ((∃ tag, e.identity = .cue tag) ∧ e.cue.isSome = true ∧ copiedOf f.octets = false))
      ∧ (copiedOf f.octets = false ∨ e.lostCue = none →
          State.cuesLost (ahead.filterMap Entry.lostCue ++ e.lostCue.toList) s u)
      ∧ (s.stc.straps.role = .venue → ∀ a ∈ ahead, ∀ tag r, a.identity = .cue tag → a.cue = some r →
          r.code = .talkRequest → ∀ p : Fin 4, r.position.toNat = p.val → (s.pos.positions[p]).tag = some r.tag →
          (u.pos.positions[p]).talk = .off ∧ (u.pos.positions[p]).tag = none)

/-- RETURN_TIMEOUT: it comes about when the head has first been out longer than the return timeout, one microsecond more
than it. Each head that is then beyond it leaves the list, counted lost by timeout, until the head is within it, and the
identities lost join the expired list, which keeps the last 16. Each has the loss outcome of its kind: an ANNOUNCE sets
closure OPEN, PROVING ending in ACTIVE with RING_OPENED and elsewhere RING_OPENED raised on a change; AUDIO leaves its
stream UNHEARD, its unheard count as it was; a CUE raises CUE_UNDELIVERED, the talk request recorded at a venue's position
going with it. In READY the arbiter acts on the entries freed. That heads of one start microsecond go together, also where
a return falls at that instant, is the model's reading of R55, R57 and R58 (log entry 25).

That the command lets time pass up to its instant is the model's choice (log entry 6). That a frame chosen is held until
its START is so too (log entry 22). -/
def Obligations.HeadsTimeOut : Prop :=
  ∀ (s : State) (g : Image) (e : Entry) (es : List Entry),
    s.attached = true → s.stc.held = false → s.stc.image = some g → g.clamped → s.trm.transit = e :: es →
    ∃ t, exec .returnTimeout s = .next t
      ∧ (signedDiff s.ringTime e.start ≤ g.returnTimeout * 1000 →
          signedDiff t.ringTime e.start = g.returnTimeout * 1000 + 1)
      ∧ (g.returnTimeout * 1000 < signedDiff s.ringTime e.start → t.now = s.now)
      ∧ t.trm.transit.length ≤ es.length
      ∧ State.headsLost s t ∧ State.arbiterActs s.rfw t

/-- A stripped frame that matches no transit entry but an expired identity is a late return: the oldest match leaves the
expired list, it is counted, and nothing else changes: no outcome, no round trip, no conflict. -/
def Obligations.LateReturnsAreCounted : Prop :=
  ∀ (s : State) (f : RxFrame) (rest : List RxFrame) (fr : Frame) (before after : List Identity),
    s.takes f rest fr → fr.origin = s.address → (∀ e ∈ s.trm.transit, e.identity ≠ fr.identity) →
    s.trm.expired = before ++ fr.identity :: after → fr.identity ∉ before →
    exec .frameArrival s = .next (
      { s with
        rx := { s.rx with closed := rest }
        trm := { s.trm with expired := before ++ after } }.countOne .lateReturns)

/-- A stripped frame that matches neither list is foreign: it and the address-conflict count are counted. The one that
brings the count to 3 raises ADDRESS_CONFLICT and takes the station to LEAVING, to end in HALTED; in a leave already
begun only the cause changes. Any other changes nothing else. At the entry to LEAVING the cues and audio waiting are
discarded and counted, each cue being reported undelivered, the talk request recorded at a venue's position going with it,
and the final announce replaces an unsent one in the slot, which is counted. In READY the arbiter acts on it.

That a frame chosen is held until its START is the model's choice (log entry 22). -/
def Obligations.ForeignFramesHalt : Prop :=
  ∀ (s : State) (f : RxFrame) (rest : List RxFrame) (fr : Frame),
    s.takes f rest fr → fr.origin = s.address → (∀ e ∈ s.trm.transit, e.identity ≠ fr.identity) →
    fr.identity ∉ s.trm.expired →
    let counted := { s with
      rx := { s.rx with closed := rest }
      trm := { s.trm with conflicts := min 255 (s.trm.conflicts + 1) } }.countOne .foreignFrames
    (s.trm.conflicts ≠ 2 → exec .frameArrival s = .next counted)
    ∧ (s.trm.conflicts = 2 →
      ∃ t, exec .frameArrival s = .next t
        ∧ t.flag .addressConflict = true ∧ t.trm = counted.trm ∧ t.srx = s.srx
        ∧ (s.atc.state = .leaving →
          t = { counted.raise .addressConflict with atc := { s.atc with leaveCause := some .conflict } })
        ∧ (s.atc.state ≠ .leaving →
          t.atc = { s.atc with
            state := .leaving, leaveTimer := some s.now, leaveCause := some .conflict, finalSent := false }
          ∧ t.inq.cues = [] ∧ t.inq.audio = [] ∧ t.pru.timer = none ∧ State.arbiterActs s.rfw t
          ∧ t.counter .ownDiscarded
              = min 65535 (s.counter .ownDiscarded + s.inq.cues.length + s.inq.audio.length)
          ∧ t.counter .announcesReplaced
              = (if s.stc.image.isSome = true ∧ s.inq.slot.isSome = true then
                  min 65535 (s.counter .announcesReplaced + 1)
                else s.counter .announcesReplaced)
          ∧ State.cuesLost (s.inq.cues.map CueFrame.report) s t
          ∧ (s.stc.image.isSome = true → ∃ a, t.inq.slot = some a ∧ a.flags.leaving = true)))

/-- Every own frame started is accounted for once: whatever command is taken, the frames that join the transit list are
those counted started, and the entries that leave it are those counted returned, lost by skip, lost by timeout or
abandoned. Only a reset and ZERO_COUNTERS start the counts anew. -/
def Obligations.TransitEntriesBalance : Prop :=
  ∀ (c : Instr) (s t : State), exec c s = .next t → c ≠ .resetAsserted → c ≠ .zeroCounters →
    s.attachmentSound → s.emptySound → s.withinCapacity →
    (∀ k : Counter, s.counter k ≤ 65000) →
    let settled := fun x : State =>
      x.counter .ownReturned + x.counter .skipLosses + x.counter .timeoutLosses + x.counter .abandoned
    s.trm.transit.length + t.counter .ownStarted + settled s
      = t.trm.transit.length + s.counter .ownStarted + settled t

/-! ## Presence and claims -/

/-- ANNOUNCE_TIMER_EXPIRY: at each whole multiple of the announce period after the attach, in PROVING and ACTIVE, an
announce of the station as it stands takes the announce slot, an unsent one in it being replaced and counted; the
announce sequence advances, in READY the arbiter acts on the announce, and nothing else changes.

That the command lets time pass up to its instant is the model's choice (log entry 6). That a frame chosen is held until
its START is so too (log entry 22). -/
def Obligations.AnnouncesArePeriodic : Prop :=
  ∀ (s : State) (g : Image) (last : Nat),
    s.inService = true → s.pru.timer = some last → s.stc.image = some g →
    let due := last + g.period * Config.millisecond
    let announced : State := { s with
      now := max s.now due
      pru := { s.pru with timer := some due, seq := s.pru.seq + 1 }
      inq := { s.inq with slot := some {
        origin := s.address
        seq := s.pru.seq
        role := s.stc.straps.role
        period := BitVec.ofNat 16 g.period
        flags := ⟨s.atc.closure == .closed, s.atc.upstream == .loss, false⟩
        name := g.name
        model := 0x0416#16
        check := g.check
        streams := streamList g s.pru.claims } } }
    exec .announceTimerExpiry s = .next
      (if s.inq.slot.isSome = true then announced.countOne .announcesReplaced else announced).decideStart

/-- An ANNOUNCE of another station taken in PROVING or ACTIVE: its origin's entry takes its fields, the period clamped to 4
to 250 ms and a twice-named ID once, PRESENT unless it is leaving, with the ring time of its arrival, and no other entry
changes. A station that was ABSENT raises PEER_ARRIVED, one that was PRESENT and leaves raises PEER_EXPIRED, and one that
stays counts the announces missed. A PRESENT peer that leaves departs at the panel too: its last tag seen becomes none, at
a venue the gallery's departure sets every position's ON_AIR and TALK lamps OFF and its talkback closed, at the gallery
the venue's lamps go OFF; no other announce changes these. It goes on with the copied flag set. The claims of the sourced
streams and the claimants of the subscriptions become those the table then gives, with what each change brings about.
What the channels of a stream that leaves LOCKED carry for the rest of the count is the model's reading (log entry 16). -/
def Obligations.AnnouncesAreRecorded : Prop :=
  ∀ (s : State) (f : RxFrame) (rest : List RxFrame) (a : AnnounceFrame) (i : Fin 30),
    s.takes f rest (.announce a) → s.inService = true → a.origin ≠ s.address → addressAt i = a.origin →
    hopsOf f.octets ≠ 0#5 →
    let old := s.pru.peers[i]
    ∃ t, exec .frameArrival s = .next t
      ∧ t.pru.peers = s.pru.peers.set i.val {
          present := !a.flags.leaving
          role := a.role
          name := a.name
          model := a.model
          check := a.check
          period := if a.period.toNat < 4 then 4 else if 250 < a.period.toNat then 250 else a.period.toNat
          lastSeq := a.seq
          flags := a.flags
          streams := onceEach a.streams
          lastTime := s.ringTime } i.isLt
      ∧ ((a.streams.map (·.id)).Nodup → onceEach a.streams = a.streams)
      ∧ (t.flag .peerArrived = true ↔
          s.flag .peerArrived = true ∨ old.present = false ∧ a.flags.leaving = false)
      ∧ (t.flag .peerExpired = true ↔ s.flag .peerExpired = true ∨ old.present = true ∧ a.flags.leaving = true)
      ∧ t.counter .announcesMissed
          = (if old.present = true ∧ a.flags.leaving = false then
              min 65535 (s.counter .announcesMissed + (a.seq - old.lastSeq - 1).toNat)
            else s.counter .announcesMissed)
      ∧ (s.rfw.occupancy + f.octets.length ≤ 4096 →
          t.rfw.repeats = s.rfw.repeats ++ [f.octets.set 2 (transitOctet (hopsOf f.octets - 1) true)])
      ∧ (∀ g, s.stc.image = some g → s.claimsSound → State.claimsMove g s t ∧ State.claimantsMove g s t)
      ∧ (∀ g, s.stc.image = some g → old.present = true → a.flags.leaving = true → State.departureAtPanel g i s t)
      ∧ (old.present = false ∨ a.flags.leaving = false →
          t.pos.lastTags = s.pos.lastTags ∧ t.pos.lamps = s.pos.lamps
          ∧ ∀ p : Fin 4, (s.pos.positions[p]).stands t.pos.positions[p])
      ∧ t.atc = s.atc ∧ t.cap = s.cap ∧ t.stc = s.stc

/-- PEER_EXPIRY: a PRESENT entry becomes ABSENT when more than three of its advertised periods have passed since its last
announce, every other field of it and every other entry standing; PEER_EXPIRED is raised, its last tag seen becomes
none, and at a venue the gallery's departure sets every position's ON_AIR and TALK lamps OFF and its talkback closed,
at the gallery a venue's departure its lamps OFF. The claims of the sourced streams and the claimants of the
subscriptions become those the table then gives, with what each change brings about: CLAIM_YIELDED and CLAIM_RESUMED and
an announce, on which the arbiter in READY acts; a context leaving LOCKED with its queue emptied, STREAM_UNLOCKED and a
run-out.

That the command lets time pass up to its instant is the model's choice (log entry 6). That a frame chosen is held until
its START is so too (log entry 22). What the channels of a stream that leaves LOCKED carry for the rest of the count is the
model's reading (log entry 16). -/
def Obligations.SilentPeersExpire : Prop :=
  ∀ (s : State) (g : Image) (i : Fin 30),
    s.attached = true → s.stc.held = false → s.stc.image = some g → (s.pru.peers[i]).present = true →
    (s.pru.peers[i]).period ≤ 250 →
    let limit : Int := 3 * (s.pru.peers[i]).period * 1000
    ∃ t, exec (.peerExpiry (i.val + 1)) s = .next t
      ∧ (signedDiff s.ringTime (s.pru.peers[i]).lastTime ≤ limit →
          signedDiff t.ringTime (s.pru.peers[i]).lastTime = limit + 1)
      ∧ (limit < signedDiff s.ringTime (s.pru.peers[i]).lastTime → t.now = s.now)
      ∧ t.pru.peers = s.pru.peers.set i.val { s.pru.peers[i] with present := false } i.isLt
      ∧ t.flag .peerExpired = true
      ∧ State.departureAtPanel g i s t
      ∧ (s.stc.straps.role = .venue → g.gallery ≠ addressAt i → (∀ n, s.returnStream ≠ some n) →
          t.pos.positions = s.pos.positions)
      ∧ State.claimsMove g s t ∧ State.claimantsMove g s t
      ∧ t.atc = s.atc ∧ State.arbiterActs s.rfw t ∧ t.trm.transit = s.trm.transit ∧ t.cap = s.cap ∧ t.stc = s.stc

/-! ## The sample count and capture -/

/-- The sample count moves by one at a time and by nothing but its own three events; only a reset sets it back to 0. -/
def Obligations.CountNeverSkips : Prop :=
  ∀ (c : Instr) (s t : State), exec c s = .next t →
    t.cap.count = s.cap.count
    ∨ t.cap.count = s.cap.count + 1
        ∧ (c = .dividerIncrement ∨ c = .wordClockLoss ∧ s.cap.clock = .wordclock
          ∨ (∃ periods, c = .wclkEdge periods) ∧ s.cap.clock = .wordclock)
    ∨ t.cap.count = 0 ∧ c = .resetAsserted

/-- DIVIDER_INCREMENT: in INTERNAL and HOLDOVER, 512 REFCLK periods after the divider's last increment or its start, the
count advances by one and the next 512 periods begin. Once the configuration is loaded a block tick is due exactly when
the count has come to a multiple of B, a CLOCKING capture port begins the frame of the new count, placing one it has not
completed, a run-out sends its next sample, each stream takes the value it gives the new count, and while the ports run
each playout channel takes what its assignment gives it and the CLOCKING ports send the channels. Nothing else changes.

That the command lets time pass up to its instant is the model's choice (log entry 6). How a CLOCKING frame that is cut
short is placed is the model's (log entry 11), and how a run-out counts the samples sent is too (log entry 16). -/
def Obligations.DividerCounts : Prop :=
  ∀ s : State, s.stc.held = false → s.cap.clock ≠ .wordclock →
    ∃ t, exec .dividerIncrement s = .next t
      ∧ t = { s with
          now := max s.now (s.cap.dividerAt + 512 * Config.refPeriod)
          cap := { s.cap with
            count := s.cap.count + 1, dividerAt := s.cap.dividerAt + 512 * Config.refPeriod
            stores := t.cap.stores, tickDue := t.cap.tickDue }
          srx := t.srx, ply := t.ply }
      ∧ s.countsOn t

/-- WCLK_EDGE, so many REFCLK periods from now. In WORDCLOCK an edge 448 periods or more after the last counted one
increments the count and becomes the last counted edge; an earlier one is ignored. In HOLDOVER a good edge, 448 to 576
periods after the previous one, adds to the qualification run, the 48th returns the source to WORDCLOCK without
incrementing the count, and any other edge sets the run to 0. In INTERNAL no edge has an effect.

WORD_CLOCK_LOSS, 2048 REFCLK periods after the last counted edge: the source is in HOLDOVER with its run at 0, the
count increments once and the divider runs from here, CLOCK_HOLDOVER is raised and the entry counted; but until a good
load no flag is raised and no entry counted, where the rules differ (log entry 26). An increment of either brings about
what DIVIDER_INCREMENT's does: the tick due, the CLOCKING frames, the stream and channel values (log entries 11, 16).
QUALIFICATION_RUN_SILENCE: 577 periods without an edge in HOLDOVER set the run to 0, and nothing else changes.

That the command lets time pass up to its instant is the model's choice (log entry 6). So is that an edge falls a whole
number of REFCLK periods from now, and that an interval is taken in whole periods, a rest below a period dropped (log
entry 2): it decides 447 or 448 and 576 or 577. So is that the run stands at 0 in WORDCLOCK, where the spec gives it no
value (log entry 30). -/
def Obligations.WordClockIsFollowed : Prop :=
  (∀ (s : State) (periods : Nat), s.stc.held = false →
      let now := s.now + periods * Config.refPeriod
      let since := fun t : Nat => (now - t) / Config.refPeriod
      (s.cap.clock = .internal → exec (.wclkEdge periods) s = .next { s with now := now })
      ∧ (s.cap.clock = .wordclock →
        ∃ t, exec (.wclkEdge periods) s = .next t ∧ t.now = now ∧ t.cap.clock = .wordclock
          ∧ t.cap.lastEdge = some now
          ∧ (448 ≤ since s.cap.countedAt →
              t = { s with
                now := now
                cap := { s.cap with
                  count := s.cap.count + 1, lastEdge := some now, countedAt := now
                  stores := t.cap.stores, tickDue := t.cap.tickDue }
                srx := t.srx, ply := t.ply }
              ∧ s.countsOn t)
          ∧ (since s.cap.countedAt < 448 →
              t = { s with now := now, cap := { s.cap with lastEdge := some now } }))
      ∧ (s.cap.clock = .holdover →
        let good := ∃ last, s.cap.lastEdge = some last ∧ 448 ≤ since last ∧ since last ≤ 576
        (¬ good → exec (.wclkEdge periods) s = .next
          { s with now := now, cap := { s.cap with lastEdge := some now, qualRun := 0 } })
        ∧ (good → s.cap.qualRun < 47 → exec (.wclkEdge periods) s = .next
          { s with now := now, cap := { s.cap with lastEdge := some now, qualRun := s.cap.qualRun + 1 } })
        ∧ (good → 47 ≤ s.cap.qualRun → exec (.wclkEdge periods) s = .next
          { s with now := now, cap := { s.cap with
              lastEdge := some now, qualRun := 0, clock := .wordclock, countedAt := now } })))
  ∧ (∀ s : State,
      (s.cap.clock = .wordclock →
        ∃ t, exec .wordClockLoss s = .next t
          ∧ (t.flag .clockHoldover = true ↔ s.flag .clockHoldover = true ∨ s.stc.load = .loaded)
          ∧ (s.stc.load = .loaded →
              t.svp = ((s.raise .clockHoldover).countOne .holdoverEntries).svp
              ∧ t.counter .holdoverEntries = min 65535 (s.counter .holdoverEntries + 1))
          ∧ (s.stc.load ≠ .loaded → t.svp = s.svp)
          ∧ t = { s with
              now := max s.now (s.cap.countedAt + 2048 * Config.refPeriod)
              cap := { s.cap with
                clock := .holdover, qualRun := 0, dividerAt := t.now, count := s.cap.count + 1
                stores := t.cap.stores, tickDue := t.cap.tickDue }
              srx := t.srx, ply := t.ply, svp := t.svp }
          ∧ s.countsOn t)
      ∧ (∀ last, s.cap.clock = .holdover → s.cap.lastEdge = some last → 0 < s.cap.qualRun →
        exec .qualificationRunSilence s = .next { s with
          now := max s.now (last + 577 * Config.refPeriod)
          cap := { s.cap with qualRun := 0 } }))

/-- CLOCKING_FRAME_COMPLETE and CAPTURE_FRAME_RECEIVED: a CLOCKING port places the frame it has shifted in at the index of
its count increment, a LISTEN port a whole frame at the next free index, or only counts it when B stand; the samples are
the first bits of the slots, two's complement. A partial LISTEN frame and a STOPPED port place nothing. -/
def Obligations.CaptureFramesArePlaced : Prop :=
  ∀ (s : State) (g : Image) (q : Fin 2) (slots : List (BitVec 32)),
    s.stc.image = some g → slots.length = 8 →
    let store := s.cap.stores[q]
    let frame : PortFrame := Vector.ofFn fun i =>
      if (g.capture[q]).wide = true then ((slots.getD i.val 0).extractLsb' 8 24).toInt
      else ((slots.getD i.val 0).extractLsb' 16 16).toInt
    let placed := fun p : PortStore => { s with cap := { s.cap with stores := s.cap.stores.set q.val p q.isLt } }
    (∀ count, s.cap.running = true → (g.capture[q]).listen = false → store.shifting = some count →
      (count - s.cap.blockStamp).toNat = store.frames.length → store.frames.length < g.block.samples →
      exec (.clockingFrameComplete q slots) s = .next (placed { store with
        frames := store.frames ++ [frame], frameCount := store.frameCount + 1, shifting := none,
        last := some frame }))
    ∧ (s.cap.running = true → (g.capture[q]).listen = true → store.frameCount < g.block.samples →
      exec (.captureFrameReceived q slots) s = .next (placed { store with
        frames := store.frames ++ [frame], frameCount := store.frameCount + 1, last := some frame }))
    ∧ (s.cap.running = true → (g.capture[q]).listen = true → g.block.samples ≤ store.frameCount →
      exec (.captureFrameReceived q slots) s = .next (placed { store with frameCount := store.frameCount + 1 }))
    ∧ (∀ k, k < 8 → exec (.captureFrameReceived q (slots.take k)) s = .next s)
    ∧ (s.cap.running = false →
      exec (.clockingFrameComplete q slots) s = .next s ∧ exec (.captureFrameReceived q slots) s = .next s)

/-- BLOCK_TICK, the opening tick: the ports become RUNNING with empty block stores, the gates are recorded and no block is
built. The wrap tick, at count 0: the stores are emptied and nothing is built, raised or recorded. Either way each
headphone's source in force becomes the selection at a venue, and its channel takes that source's value at the tick's
count; no other channel changes. That the opening tick may fall on count 0, and is then no wrap tick, is the model's
reading (log entry 18). -/
def Obligations.OpeningAndWrapTicks : Prop :=
  ∀ (s : State) (g : Image), s.stc.image = some g → s.cap.tickDue = true →
    (s.cap.running = false → ∃ t, exec .blockTick s = .next t
      ∧ t.cap = { s.cap with
          running := true, tickDue := false, blockStamp := s.cap.count, stores := t.cap.stores,
          gates := s.gatesNow g }
      ∧ (∀ q : Fin 2, (t.cap.stores[q]).frames = [] ∧ (t.cap.stores[q]).frameCount = 0
          ∧ (t.cap.stores[q]).status = (s.cap.stores[q]).status)
      ∧ State.headphonesSwitch g s t ∧ t = { s with cap := t.cap, ply := t.ply })
    ∧ (s.cap.running = true → s.cap.count = 0 → ∃ t, exec .blockTick s = .next t
      ∧ t.cap = { s.cap with tickDue := false, blockStamp := 0, stores := t.cap.stores }
      ∧ (∀ q : Fin 2, t.cap.stores[q] = { s.cap.stores[q] with frames := [], frameCount := 0 })
      ∧ State.headphonesSwitch g s t ∧ t = { s with cap := t.cap, ply := t.ply })

/-- BLOCK_TICK at any other multiple of B: each port's status is fixed from its frame count, one other than OK raising
CAPTURE_FAULT and counted; each HELD sourced stream's sequence advances by one, a YIELDED one's stands; in ACTIVE one
frame for each HELD stream, in configuration order, with the stamp of the block just ended, its configured channels and
their samples, joins the own audio queue, which keeps the last 8, AUDIO_DROPPED raised where it drops any; the stores are
emptied for the block that begins, and in READY the arbiter acts on the frames that join. At a venue each headphone's
source in force becomes the selection, and its channel takes that source's value at the tick's count; no other channel
changes.

That a frame chosen is held until its START is the model's choice (log entry 22). -/
def Obligations.BuildingTicksBuild : Prop :=
  ∀ (s : State) (g : Image),
    s.stc.image = some g → s.cap.tickDue = true → s.cap.running = true → s.cap.count ≠ 0 → s.inq.audio.length ≤ 8 →
    s.withinCeilings →
    let status := fun n : Nat =>
      if n = 0 then BlockStatus.fault else if n < g.block.samples then .short
      else if n = g.block.samples then .ok else .long
    let statuses : Fin 2 → BlockStatus := fun q => status (s.cap.stores[q]).frameCount
    let built := (List.finRange 4).filter fun i => (g.source i).isSome && s.pru.claims[i] == .held
    ∃ (t : State) (frames : List AudioFrame), exec .blockTick s = .next t
      ∧ (∀ q : Fin 2, t.cap.stores[q] = { s.cap.stores[q] with frames := [], frameCount := 0, status := statuses q })
      ∧ (∀ q : Fin 2, t.counter (.irregular q)
          = (if statuses q = .ok then s.counter (.irregular q) else min 65535 (s.counter (.irregular q) + 1)))
      ∧ (t.flag .captureFault = true ↔ s.flag .captureFault = true ∨ ∃ q, statuses q ≠ .ok)
      ∧ (∀ i : Fin 4, t.cap.seqs[i] = if i ∈ built then s.cap.seqs[i] + 1 else s.cap.seqs[i])
      ∧ frames.map (fun f => (f.origin, f.stamp, f.seq))
          = built.map (fun i => (s.address, s.cap.count - BitVec.ofNat 32 g.block.samples, s.cap.seqs[i]))
      ∧ frames.map (fun f => some (f.stream, f.format.wide, f.format.talkback, f.format.blockCode))
          = built.map (fun i => (g.source i).map fun c => (c.id, c.wide, c.talkback, g.block.code))
      ∧ frames.map (fun f => some (f.format.channelCode, f.payload))
          = built.map (fun i => (g.source i).map fun c =>
              (BitVec.ofNat 2 (c.channels.length - 1), s.blockPayload g c s.cap.gates[i] (s.gatesNow g)[i]))
      ∧ frames.map (fun f => some f.format.substituted)
          = built.map (fun i => (g.source i).map fun c =>
              c.channels.any fun ch => statuses ⟨ch.capture.val / 8, by omega⟩ ≠ .ok)
      ∧ (s.atc.state = .active →
        t.inq.audio = (s.inq.audio ++ frames).drop ((s.inq.audio ++ frames).length - 8)
        ∧ t.counter .audioDropped
            = min 65535 (s.counter .audioDropped + ((s.inq.audio ++ frames).length - 8))
        ∧ (t.flag .audioDropped = true ↔ s.flag .audioDropped = true ∨ 8 < (s.inq.audio ++ frames).length))
      ∧ (s.atc.state ≠ .active → t.inq = s.inq ∧ t.svp.flags.getLsbD 16 = s.svp.flags.getLsbD 16)
      ∧ t.cap.blockStamp = s.cap.count ∧ t.cap.count = s.cap.count ∧ t.cap.tickDue = false
      ∧ t.cap.gates = s.gatesNow g
      ∧ State.headphonesSwitch g s t
      ∧ State.arbiterActs s.rfw t
      ∧ t = { s with cap := t.cap, rfw := t.rfw, inq := t.inq, ply := t.ply, svp := t.svp }

/-- The samples of the frame that BLOCK_TICK builds for a HELD stream in ACTIVE: the payload carries, sample frame by sample
frame and channel 0 first, each most significant octet first, what the capture port placed at that index, 0 where it
placed nothing, carried at the stream's width; treated by the channel's recorded gate and its gate now as captured, faded
out, faded in, or zero, the exact product divided by B and truncated toward zero. The gates evaluated become the recorded
ones for every channel whatever its stream's claim.

The gate of a channel: OPEN is always open; ONAIR(p) is open at a venue while neither COUGH nor TALK of p is held, and
always at the gallery; TALK(p) while the TALK key of p is held, or any gallery input mapped as TALK with p. -/
def Obligations.GatesFadeOverOneBlock : Prop :=
  ∀ (s : State) (g : Image) (i k : Fin 4) (c : Source) (ch : SourceChannel) (j : Nat),
    s.stc.image = some g → s.cap.tickDue = true → s.cap.running = true → s.cap.count ≠ 0 →
    g.source i = some c → c.channels.length ≤ 4 → c.channels[k.val]? = some ch → j < g.block.samples →
    let port : Fin 2 := ⟨ch.capture.val / 8, by omega⟩
    let b : Int := g.block.samples
    let raw : Int := match (s.cap.stores[port]).frames[j]? with
      | some f => f[ch.capture.val % 8]
      | none => 0
    let x : Int :=
      if (g.capture[port]).wide = true ∧ c.wide = false then raw / 256
      else if (g.capture[port]).wide = false ∧ c.wide = true then raw * 256 else raw
    let was := s.cap.gates[i][k]
    let now := (s.gatesNow g)[i][k]
    let width := if c.wide = true then 3 else 2
    ∃ (t : State) (v : Int), exec .blockTick s = .next t
      ∧ t.cap.gates = s.gatesNow g
      ∧ (was = true → now = true → v = x) ∧ (was = false → now = false → v = 0)
      ∧ (was = true → now = false → ∃ r : Int, x * (b - j) = b * v + r ∧ |r| < b ∧ 0 ≤ r * x)
      ∧ (was = false → now = true → ∃ r : Int, x * (j + 1) = b * v + r ∧ |r| < b ∧ 0 ≤ r * x)
      ∧ (now = true ↔ match ch.gating with
        | .always => True
        | .onAir p => s.venue = false
            ∨ s.pos.held.getLsbD (4 * p.val) = false ∧ s.pos.held.getLsbD (4 * p.val + 1) = false
        | .talk p =>
          if s.venue = true then s.pos.held.getLsbD (4 * p.val + 1) = true
          else ∃ l : Fin 16, (g.inputs[l]).use = .talk ∧ (g.inputs[l]).position.toNat = p.val
            ∧ s.pos.held.getLsbD l.val = true)
      ∧ (s.pru.claims[i] = .held → s.atc.state = .active → s.inq.audio.length ≤ 8 →
        ∃ f ∈ t.inq.audio, f.stream = c.id ∧ f.seq = s.cap.seqs[i]
          ∧ f.stamp = s.cap.count - BitVec.ofNat 32 g.block.samples
          ∧ f.payload.length = g.block.samples * c.channels.length * width
          ∧ (f.payload.drop ((j * c.channels.length + k.val) * width)).take width
            = (List.range width).map fun o => BitVec.ofInt 8 (v / 256 ^ (width - 1 - o)))

/-! ## Stream reception and alignment -/

/-- The first block an ACQUIRING context receives from its origin is locked on: with A the sample count at its arrival, S
its stamp and T the target margin, R and R_play become A − S + T, E becomes 16T, the holdoff H, the slip NONE, the runs 0;
the queue holds this block alone with its lock mark, the expected values move past it, and the next boundary stamp is S.
The record holds the frame's samples in payload order, a 16-bit sample as 256 times its value. STREAM_LOCKED is raised,
the frame goes on copied, and no other context changes. Where the stream is the return programme, the fallback timers of
a venue stop at 0. What the stream's channels carry within the count is the model's reading (log entry 16). -/
def Obligations.AcquiringContextsLock : Prop :=
  ∀ (s : State) (f : RxFrame) (rest : List RxFrame) (a : AudioFrame) (g : Image) (n : Fin 16),
    s.takesBlock f rest a g n → (s.srx[n]).state = .acquiring →
    let x : Context := s.srx[n]
    let offset := s.cap.count - a.stamp + BitVec.ofNat 32 g.target
    ∃ t, exec .frameArrival s = .next t
      ∧ (∃ k, t.srx = s.srx.set n.val { x with
          state := .locked, r := offset, rPlay := offset, margin := 16 * g.target, holdoff := g.slipHoldoff,
          slip := .none, lateRun := 0, earlyRun := 0, queue := [k],
          expSeq := a.seq + 1, expStamp := a.stamp + BitVec.ofNat 32 g.block.samples,
          nextBoundary := a.stamp, output := ⟨none, .none⟩, conceal := 0, played := false,
          values := if x.begun = true ∨ x.runOut.isSome = true then x.values else Vector.replicate 4 0,
          counters := x.counters.set 0 (min 65535 (x.counters[0] + 1)) } n.isLt
        ∧ k.stamp = a.stamp ∧ k.seq = a.seq ∧ k.lockMark = true ∧ k.substituted = a.format.substituted
        ∧ k.holds a g.block.samples)
      ∧ t.flag .streamLocked = true ∧ (t.flag .streamRelocked = true ↔ s.flag .streamRelocked = true)
      ∧ (s.stc.straps.role = .venue → g.designated .programme = some n →
          ∀ p : Fin 4, (t.pos.positions[p]).timer = .idle ∧ (t.pos.positions[p]).latch = (s.pos.positions[p]).latch)
      ∧ (s.stc.straps.role = .gallery ∨ g.designated .programme ≠ some n → t.pos = s.pos)
      ∧ (s.rfw.occupancy + f.octets.length ≤ 4096 →
          t.rfw.repeats = s.rfw.repeats ++ [f.octets.set 2 (transitOctet (hopsOf f.octets - 1) true)])
      ∧ t.cap = s.cap ∧ t.pru = s.pru ∧ t.atc = s.atc ∧ t.trm = s.trm ∧ t.inq = s.inq

/-- The tests ahead of the sequence test, in PROVING and ACTIVE: a frame of no subscribed stream is declined and nothing
counted; one whose origin is not the context's, as any is in WAITING, is counted unclaimed; one of another block length
is counted format refused. Each is forwarded with its copied flag as it arrived, and nothing else changes but the
arbiter's choice of the frame to start (OwnFramesStartInOrder).

The sequence and stamp tests on a LOCKED context, with d the sequence less the expected one modulo 65536: from 32768 on
the block is a duplicate and declined, the expected values unmoved; from 256 on it is a jump and relocked on; below 256
the d missing blocks are counted lost, and a stamp other than the expected one plus B × d is relocked on. A relock sets
what a lock sets, counts itself and the block, raises STREAM_RELOCKED, not STREAM_LOCKED, and is answered accept.

That a frame the arbiter has chosen is held until its START is the model's choice (log entry 22). -/
def Obligations.SequenceTestsClassify : Prop :=
  (∀ (s : State) (f : RxFrame) (rest : List RxFrame) (a : AudioFrame) (g : Image),
      s.takes f rest (.audio a) → s.inService = true → s.stc.image = some g → a.origin ≠ s.address →
      hopsOf f.octets ≠ 0#5 → s.rfw.occupancy + f.octets.length ≤ 4096 →
      let o := f.octets.set 2 (transitOctet (hopsOf f.octets - 1) (copiedOf f.octets))
      let declined := fun srx : Vector Context 16 => { s with
        rx := { s.rx with closed := rest }, rfw := { s.rfw with repeats := s.rfw.repeats ++ [o] }, srx := srx }
      (g.subscriptionOf a.stream = none → exec .frameArrival s = .next (declined s.srx).decideStart)
      ∧ ∀ n, g.subscriptionOf a.stream = some n →
        let x : Context := s.srx[n]
        let stopped := fun c : ContextCounter => declined (s.srx.set n.val (x.countOne c) n.isLt)
        (x.origin ≠ some a.origin ∨ a.format.blockCode = g.block.code ∧ x.state = .waiting →
          exec .frameArrival s = .next (stopped .unclaimed).decideStart)
        ∧ (x.origin = some a.origin → a.format.blockCode ≠ g.block.code →
          exec .frameArrival s = .next (stopped .formatRefused).decideStart))
  ∧ (∀ (s : State) (f : RxFrame) (rest : List RxFrame) (a : AudioFrame) (g : Image) (n : Fin 16),
    s.takesBlock f rest a g n → (s.srx[n]).state = .locked →
    let x : Context := s.srx[n]
    let d := (a.seq - x.expSeq).toNat
    let offset := s.cap.count - a.stamp + BitVec.ofNat 32 g.target
    let relocks := 256 ≤ d ∧ d < 32768
      ∨ d < 256 ∧ a.stamp ≠ x.expStamp + BitVec.ofNat 32 (g.block.samples * d)
    let goesOn := fun (t : State) (copied : Bool) => s.rfw.occupancy + f.octets.length ≤ 4096 →
      t.rfw.repeats = s.rfw.repeats ++ [f.octets.set 2 (transitOctet (hopsOf f.octets - 1) copied)]
    ∃ t, exec .frameArrival s = .next t
      ∧ (32768 ≤ d →
        t.srx = s.srx.set n.val { x with counters := x.counters.set 2 (min 65535 (x.counters[2] + 1)) } n.isLt
        ∧ goesOn t (copiedOf f.octets)
        ∧ (s.rfw.occupancy + f.octets.length ≤ 4096 → t.svp.flags = s.svp.flags))
      ∧ (d < 256 → (t.srx[n]).counter .lost = min 65535 (x.counter .lost + d))
      ∧ (relocks →
        goesOn t true
        ∧ ∃ y k, t.srx = s.srx.set n.val y n.isLt
          ∧ y = { y with
              state := .locked, origin := x.origin, r := offset, rPlay := offset, margin := 16 * g.target,
              holdoff := g.slipHoldoff, slip := .none, lateRun := 0, earlyRun := 0, queue := [k],
              expSeq := a.seq + 1, expStamp := a.stamp + BitVec.ofNat 32 g.block.samples,
              nextBoundary := a.stamp, output := ⟨none, .none⟩, conceal := 0, played := false,
              lastPlayed := x.lastPlayed }
          ∧ k.stamp = a.stamp ∧ k.seq = a.seq ∧ k.lockMark = true ∧ k.substituted = a.format.substituted
          ∧ k.holds a g.block.samples
          ∧ y.runOut = (match x.runOut with
            | some o => some o
            | none => some ⟨if x.conceal ≤ 1 then x.lastPlayed else none, 0⟩)
          ∧ y.counter .accepted = min 65535 (x.counter .accepted + 1)
          ∧ y.counter .relocks = min 65535 (x.counter .relocks + 1)
          ∧ y.counter .duplicate = x.counter .duplicate
          ∧ (y.counter .lost = if 256 ≤ d then x.counter .lost else min 65535 (x.counter .lost + d))
          ∧ t.flag .streamRelocked = true ∧ (t.flag .streamLocked = true ↔ s.flag .streamLocked = true))
      ∧ t.cap = s.cap ∧ t.pru = s.pru ∧ t.atc = s.atc ∧ t.trm = s.trm)

/-- The margin test on a block in sequence or after a gap: late when its stamp lies before the next boundary stamp,
otherwise early when its margin S + R − A is 7B or more or 8 blocks are queued. A late or early block is counted and
adds to its run, the other run becoming 0; below the limit L it is discarded and declined, with E, R, the holdoff and
the slip as they stood, and at L it is relocked on. The expected values have moved past it either way. -/
def Obligations.LateAndEarlyBlocks : Prop :=
  ∀ (s : State) (f : RxFrame) (rest : List RxFrame) (a : AudioFrame) (g : Image) (n : Fin 16),
    s.takesBlock f rest a g n → (s.srx[n]).state = .locked →
    let x : Context := s.srx[n]
    let d := (a.seq - x.expSeq).toNat
    d < 256 → a.stamp = x.expStamp + BitVec.ofNat 32 (g.block.samples * d) →
    let late := signedDiff a.stamp x.nextBoundary < 0
    let early := ¬ late ∧
      (7 * (g.block.samples : Int) ≤ signedDiff (a.stamp + x.r) s.cap.count ∨ 8 ≤ x.queue.length)
    let moved : Context := { x.countBy .lost d with
      expSeq := a.seq + 1, expStamp := a.stamp + BitVec.ofNat 32 g.block.samples }
    ∃ t y, exec .frameArrival s = .next t ∧ t.srx = s.srx.set n.val y n.isLt
      ∧ (late → x.lateRun + 1 < g.limit →
          y = { moved.countOne .late with lateRun := x.lateRun + 1, earlyRun := 0 })
      ∧ (early → x.earlyRun + 1 < g.limit →
          y = { moved.countOne .early with earlyRun := x.earlyRun + 1, lateRun := 0 })
      ∧ (late → y.counter .late = min 65535 (x.counter .late + 1) ∧ y.counter .early = x.counter .early)
      ∧ (early → y.counter .early = min 65535 (x.counter .early + 1) ∧ y.counter .late = x.counter .late)
      ∧ (late ∧ g.limit ≤ x.lateRun + 1 ∨ early ∧ g.limit ≤ x.earlyRun + 1 →
          y.r = s.cap.count - a.stamp + BitVec.ofNat 32 g.target ∧ y.rPlay = y.r ∧ y.margin = 16 * g.target
          ∧ y.lateRun = 0 ∧ y.earlyRun = 0 ∧ y.queue.map (·.stamp) = [a.stamp]
          ∧ y.counter .relocks = min 65535 (x.counter .relocks + 1) ∧ t.flag .streamRelocked = true)
      ∧ ((late → x.lateRun + 1 < g.limit) → (early → x.earlyRun + 1 < g.limit) → late ∨ early →
          s.rfw.occupancy + f.octets.length ≤ 4096 →
          t.rfw.repeats
            = s.rfw.repeats ++ [f.octets.set 2 (transitOctet (hopsOf f.octets - 1) (copiedOf f.octets))])

/-- A block in sequence or after a gap, and neither late nor early, joins the tail of the queue with its lock mark clear
and its samples in payload order, and is answered accept; the blocks missing before it are counted lost; the runs become
0. E moves toward 16 times the margin, or toward 0 where the margin is −1, by the difference over 2^k rounded to the
nearest with halves upward. Then the holdoff counts down; at 0 with no slip pending the slip test runs: E at least
16(T + W) decides a DROP, at most 16(T − W) a REPEAT, moving R by one and E by 16 and setting the holdoff to H, with
R_play left; strictly between, and with a slip pending, nothing more changes. -/
def Obligations.InRangeBlocksSteer : Prop :=
  ∀ (s : State) (f : RxFrame) (rest : List RxFrame) (a : AudioFrame) (g : Image) (n : Fin 16),
    s.takesBlock f rest a g n → (s.srx[n]).state = .locked → g.clamped →
    let x : Context := s.srx[n]
    let d := (a.seq - x.expSeq).toNat
    d < 256 → a.stamp = x.expStamp + BitVec.ofNat 32 (g.block.samples * d) →
    let m := signedDiff (a.stamp + x.r) s.cap.count
    0 ≤ signedDiff a.stamp x.nextBoundary → m < 7 * (g.block.samples : Int) → x.queue.length < 8 →
    ∃ (t : State) (y : Context) (k : BlockRecord) (e : Int),
      exec .frameArrival s = .next t ∧ t.srx = s.srx.set n.val y n.isLt
      ∧ y.queue = x.queue ++ [k] ∧ k.stamp = a.stamp ∧ k.seq = a.seq ∧ k.lockMark = false
      ∧ k.substituted = a.format.substituted ∧ k.holds a g.block.samples
      ∧ y.lateRun = 0 ∧ y.earlyRun = 0 ∧ y.counter .accepted = min 65535 (x.counter .accepted + 1)
      ∧ y.counter .lost = min 65535 (x.counter .lost + d)
      ∧ y.values = x.values ∧ y.begun = x.begun ∧ y.expSeq = a.seq + 1 ∧ y.expStamp = a.stamp + BitVec.ofNat 32 g.block.samples
      ∧ y.state = .locked ∧ y.rPlay = x.rPlay ∧ y.nextBoundary = x.nextBoundary ∧ y.output = x.output
      ∧ y.conceal = x.conceal ∧ y.runOut = x.runOut ∧ y.played = x.played ∧ y.lastPlayed = x.lastPlayed
      ∧ (-1 ≤ m →
        let diff := 16 * (if 0 ≤ m then m else 0) - x.margin
        -- e − E is the quotient diff ÷ 2^k rounded to the nearest integer, a half upward
        2 * diff - 2 ^ g.shift < 2 * (e - x.margin) * 2 ^ g.shift
          ∧ 2 * (e - x.margin) * 2 ^ g.shift ≤ 2 * diff + 2 ^ g.shift)
      ∧ (0 < x.holdoff → y.holdoff = x.holdoff - 1 ∧ y.r = x.r ∧ y.margin = e ∧ y.slip = x.slip)
      ∧ (x.holdoff = 0 → x.slip ≠ .none → y.holdoff = 0 ∧ y.r = x.r ∧ y.margin = e ∧ y.slip = x.slip)
      ∧ (x.holdoff = 0 → x.slip = .none → 16 * ((g.target : Int) + g.window) ≤ e →
          y.holdoff = g.slipHoldoff ∧ y.r = x.r - 1 ∧ y.margin = e - 16 ∧ y.slip = .drop
          ∧ y.counter .dropSlips = min 65535 (x.counter .dropSlips + 1))
      ∧ (x.holdoff = 0 → x.slip = .none → e ≤ 16 * ((g.target : Int) - g.window) →
          y.holdoff = g.slipHoldoff ∧ y.r = x.r + 1 ∧ y.margin = e + 16 ∧ y.slip = .repeated
          ∧ y.counter .repeatSlips = min 65535 (x.counter .repeatSlips + 1))
      ∧ (x.holdoff = 0 → x.slip = .none → 16 * ((g.target : Int) - g.window) < e →
          e < 16 * ((g.target : Int) + g.window) →
          y.holdoff = 0 ∧ y.r = x.r ∧ y.margin = e ∧ y.slip = .none)
      ∧ (s.rfw.occupancy + f.octets.length ≤ 4096 →
          t.svp.flags = s.svp.flags
          ∧ t.rfw.repeats = s.rfw.repeats ++ [f.octets.set 2 (transitOctet (hopsOf f.octets - 1) true)])

/-! ## Playout -/

/-- BLOCK_BOUNDARY at a LOCKED context whose source index has reached its next boundary stamp: the blocks before it leave
the queue; a head of that stamp plays, with fade-in after two concealed boundaries or with a lock mark, the conceal count
becomes 0 and it is the last played block; otherwise the boundary is concealed, counted, and by the conceal count it
repeats the last played block, repeats it fading out, or is silent. The boundary stamp advances by B and a run-out ends.
Index 0 of the new output block is sent for this count, on the channels fed by the stream, and then a pending slip is
applied: R_play takes R, for the counts that follow. Nothing but this context and the channel values changes. -/
def Obligations.BoundariesPlayOrConceal : Prop :=
  ∀ (s : State) (g : Image) (n : Fin 16),
    s.stc.image = some g → (s.srx[n]).state = .locked → s.cap.count - (s.srx[n]).rPlay = (s.srx[n]).nextBoundary →
    let x : Context := s.srx[n]
    let queue := x.queue.filter fun k => decide (0 ≤ signedDiff k.stamp x.nextBoundary)
    let conceal := min 255 (x.conceal + 1)
    let common : Context := { x with
      queue := queue
      runOut := none
      nextBoundary := x.nextBoundary + BitVec.ofNat 32 g.block.samples
      rPlay := if x.slip = .none then x.rPlay else x.r
      slip := .none
      begun := true }
    let first := fun out : OutputBlock => (Vector.ofFn fun c : Fin 4 =>
      let v : Int := ((out.source.bind fun k => k.samples[0]?).bind fun f => f[c.val]?).getD 0
      if out.fade = .into then v.tdiv g.block.samples else v : Vector Sample 4)
    ∃ t, exec (.blockBoundary n) s = .next t
      ∧ t = { s with srx := t.srx, ply := t.ply } ∧ t.ply.inForce = s.ply.inForce
      ∧ (∀ k ∈ queue.head?, k.stamp = x.nextBoundary →
        let out : OutputBlock := ⟨some k, if 2 ≤ x.conceal ∨ k.lockMark = true then .into else .none⟩
        t.srx = s.srx.set n.val { common with
          output := out
          values := first out
          conceal := 0
          lastPlayed := some k
          played := true } n.isLt)
      ∧ ((∀ k ∈ queue.head?, k.stamp ≠ x.nextBoundary) →
        let out : OutputBlock := if conceal = 1 then ⟨x.lastPlayed, .none⟩
          else if conceal = 2 then ⟨x.lastPlayed, .out⟩ else ⟨none, .none⟩
        t.srx = s.srx.set n.val { common with
          output := out
          values := first out
          conceal := conceal
          counters := x.counters.set 10 (min 65535 (x.counters[10] + 1)) } n.isLt)
      ∧ (∀ (u : Subscription) (c : Fin 4) (ch : Fin 32),
        s.cap.running = true → g.subscription n = some u → u.map[c] = some ch →
        (∀ n' u' (c' : Fin 4), g.subscription n' = some u' → u'.map[c'] = some ch → n' = n ∧ c' = c) →
        t.ply.channels[ch] = (t.srx[n]).values[c])
      ∧ (∀ ch : Fin 32, s.cap.running = false ∨ s.feeds n (g.assignment s.venue ch) = false →
        t.ply.channels[ch] = s.ply.channels[ch])

/-- What a stream's value is as a count begins. LOCKED with an output block: the block's sample at the source index less
its stamp, faded in by (i + 1) ÷ B or out by (B − i) ÷ B truncated toward zero. Otherwise, LOCKED on the bridge before its
first boundary or not LOCKED, a run-out in progress sends its block's samples fading out, and silence before the first,
after the last and where it has no block; without a run-out the stream is silent. A channel that the block does not carry
is silent in either.

RUN_OUT_END, once the B samples of a run-out have been sent: the run-out ends and the last played block becomes none;
PLAYOUT_FRAME_SYNC: a RUNNING LISTEN port latches the values of its 8 channels, those of the count before while a boundary
or a tick of the present count is still to be taken, and a STOPPED or CLOCKING one nothing. Nothing else changes.

The pins of the ports: while they are STOPPED a CLOCKING port's bit clock and frame sync and every data output are low;
a RUNNING LISTEN port sends nothing before its first frame sync; a RUNNING port shifts out each value most significant bit
first in the first 24 bits of its slot, slot 0 first, and 0 in the 8 bits after.

That an event that has not come about changes nothing is the model's choice (log entry 6). How a run-out counts the
samples sent, and when an edge finds the values of the count before, is the model's (log entry 16). -/
def Obligations.StreamsFadeAndRunOut : Prop :=
  (∀ (x : Context) (k : BlockRecord) (fade : Fade) (b : Nat) (t : Word) (c : Fin 4) (i : Nat) (frame : List Sample),
      i < b → b ≤ 96 → k.samples[i]? = some frame →
      let sent := fun (q p : Int) => ∃ r : Int, p = b * q + r ∧ |r| < b ∧ 0 ≤ r * p
      let plays := x.state = .locked ∧ x.output = ⟨some k, fade⟩
        ∧ t - x.rPlay = x.nextBoundary - BitVec.ofNat 32 b + BitVec.ofNat 32 i
      let runs := (x.state ≠ .locked ∨ x.output.source = none) ∧ x.runOut = some ⟨some k, i + 1⟩
      (∀ v, frame[c.val]? = some v →
        (plays → (fade = Fade.none → x.value b t c = v)
          ∧ (fade = .into → sent (x.value b t c) (v * (i + 1)))
          ∧ (fade = .out → sent (x.value b t c) (v * (b - i))))
        ∧ (runs → sent (x.value b t c) (v * (b - i))))
      ∧ (frame[c.val]? = none → plays ∨ runs → x.value b t c = 0))
  ∧ (∀ (x : Context) (b : Nat) (t : Word) (c : Fin 4),
      x.state ≠ .locked ∨ x.output.source = none →
      x.runOut = none ∨ (∃ n, x.runOut = some ⟨none, n⟩) ∨ (∃ r, x.runOut = some ⟨r, 0⟩)
        ∨ (∃ k, x.runOut = some ⟨some k, b + 1⟩ ∧ k.samples.length = b) →
      x.value b t c = 0)
  ∧ (∀ (s : State) (g : Image), s.stc.image = some g →
      (∀ (n : Fin 16) (o : RunOut), (s.srx[n]).runOut = some o →
        exec (.runOutEnd n) s = .next
          (if g.block.samples < o.sent then
            { s with srx := s.srx.set n.val { s.srx[n] with runOut := none, lastPlayed := none } n.isLt }
          else s))
      ∧ (∀ q : Fin 4,
        let due := s.cap.tickDue = true ∨ ∃ n : Fin 16,
          (s.srx[n]).state = .locked ∧ s.cap.count - (s.srx[n]).rPlay = (s.srx[n]).nextBoundary
        let shown := if due then s.ply.before else s.ply.channels
        exec (.playoutFrameSync q) s = .next
          (if s.cap.running = true ∧ (g.playout[q]).listen = true then
            { s with ply := { s.ply with
              frames := s.ply.frames.set q.val (some (Vector.ofFn fun i => shown[8 * q.val + i.val])) q.isLt } }
          else s))
      ∧ (s.cap.running = false →
        (∀ q : Fin 2, (g.capture[q]).listen = false → s.captureClock q = some .low)
        ∧ ∀ q : Fin 4, s.playoutData q = .low ∧ ((g.playout[q]).listen = false → s.playoutClock q = some .low))
      ∧ (s.cap.running = true → ∀ q : Fin 4,
        (s.ply.frames[q] = none → s.playoutData q = .nothing)
        ∧ ∀ frame, s.ply.frames[q] = some frame → ∀ (i : Fin 8) (j : Nat),
          24 ≤ (g.playout[q]).slotWidth → j < (g.playout[q]).slotWidth →
          ∃ bits, s.playoutData q = .frame bits
            ∧ bits[i.val * (g.playout[q]).slotWidth + j]?
              = some (decide (j < 24) && (BitVec.ofInt 24 frame[i]).getLsbD (23 - j))))

/-! ## Positions and cues -/

/-- KEY_SCAN, one scan period after the last: each input whose sample agrees with its debounced state has its agreement
count set to 0; one that disagrees counts, and when it has disagreed N scans in a row its state changes and its count
returns to 0. The scan delivers a key event, a press or a release, for each input whose state changed, in rising order of
the inputs, in READY the arbiter acts on the cues that join, and nothing else is done: the sample count, the streams, the
transit list and the peer table never change.

That the command lets time pass up to its instant is the model's choice (log entry 6). That a frame chosen is held until
its START is so too (log entry 22). -/
def Obligations.ScansDebounce : Prop :=
  ∀ (s : State) (g : Image) (raw : BitVec 16),
    s.stc.held = false → s.stc.load = .loaded → s.stc.image = some g →
    ∃ t, exec (.keyScan raw) s = .next t
      ∧ t.now = max s.now (s.pos.scanAt + 1000 * Config.millisecond / g.scanRate) ∧ t.pos.scanAt = t.now
      ∧ (∀ i : Fin 16,
        let disagrees := raw.getLsbD i.val ≠ s.pos.held.getLsbD i.val
        (¬ disagrees → t.pos.held.getLsbD i.val = s.pos.held.getLsbD i.val ∧ t.pos.agreement[i] = 0)
        ∧ (disagrees → s.pos.agreement[i] + 1 < g.debounce →
          t.pos.held.getLsbD i.val = s.pos.held.getLsbD i.val ∧ t.pos.agreement[i] = s.pos.agreement[i] + 1)
        ∧ (disagrees → g.debounce ≤ s.pos.agreement[i] + 1 →
          t.pos.held.getLsbD i.val = raw.getLsbD i.val ∧ t.pos.agreement[i] = 0))
      ∧ (let changed := (List.finRange 16).filter fun i =>
          raw.getLsbD i.val != s.pos.held.getLsbD i.val && decide (g.debounce ≤ s.pos.agreement[i] + 1)
        t = (changed.foldl (fun (u : State) i => u.keyEvent g i (raw.getLsbD i.val)) { s with
          now := t.now
          pos := { s.pos with scanAt := t.now, held := t.pos.held, agreement := t.pos.agreement } }).decideStart)
      ∧ t.cap = s.cap ∧ t.srx = s.srx ∧ t.trm = s.trm ∧ t.pru = s.pru ∧ t.atc = s.atc ∧ State.arbiterActs s.rfw t
      ∧ t.stc = s.stc ∧ t.ply = s.ply ∧ t.pos.lastTags = s.pos.lastTags ∧ t.pos.lamps = s.pos.lamps

/-- A press of TALK at a venue position in ACTIVE builds a TALK_REQUEST to the gallery with the next cue tag: with room in
the cue queue the cue waits there, the tag is recorded and the lamp flashes; a full queue refuses it, counted, raising
CUE_UNDELIVERED, and the lamp is OFF with no tag. Outside ACTIVE nothing is built. A release sets the lamp OFF and the
tag none, and in ACTIVE builds a TALK_CLEAR. No other position changes.

A press of ACK clears its own position's fallback latch exactly when the return programme is LOCKED and has played
since; the selection is judged again. A release, COUGH and the fourth input change nothing. At the gallery a press or
release of a TALLY or TALK input in ACTIVE offers the mapped cue with the next cue tag: with room it waits in the cue
queue, and a full queue refuses it, counted, raising CUE_UNDELIVERED, its tag used; outside ACTIVE, or unused, nothing. -/
def Obligations.KeysBuildCues : Prop :=
  (∀ (s : State) (g : Image) (p : Fin 4) (press : Bool),
      s.stc.straps.role = .venue →
      let input : Fin 16 := ⟨4 * p.val + 1, by omega⟩
      let t := s.keyEvent g input press
      let old := s.pos.positions[p]
      let cue : CueFrame := ⟨s.address, g.gallery, if press = true then .talkRequest else .talkClear,
        BitVec.ofNat 4 p.val, s.pos.cueTag⟩
      (∀ q : Fin 4, q ≠ p → t.pos.positions[q] = s.pos.positions[q])
      ∧ (s.atc.state = .active →
        t.pos.cueTag = s.pos.cueTag + 1
        ∧ (s.inq.cues.length < 4 →
          t.inq.cues = s.inq.cues ++ [cue] ∧ t.svp = s.svp
          ∧ t.pos.positions[p] = { old with
              talk := if press = true then .flash else .off
              tag := if press = true then some s.pos.cueTag else none
              selection := selectionOf old.latch old.talkback })
        ∧ (4 ≤ s.inq.cues.length →
          t.inq.cues = s.inq.cues ∧ t.flag .cueUndelivered = true
          ∧ t.counter .cuesRefused = min 65535 (s.counter .cuesRefused + 1)
          ∧ (t.pos.positions[p]).talk = .off ∧ (t.pos.positions[p]).tag = none))
      ∧ (s.atc.state ≠ .active →
        t.inq = s.inq ∧ t.svp = s.svp ∧ t.pos.cueTag = s.pos.cueTag
        ∧ (press = true → t = s)
        ∧ (press = false → (t.pos.positions[p]).talk = .off ∧ (t.pos.positions[p]).tag = none)))
  ∧ (∀ (s : State) (g : Image) (press : Bool),
      (s.stc.straps.role = .venue → ∀ p : Fin 4,
        s.keyEvent g ⟨4 * p.val, by omega⟩ press = s ∧ s.keyEvent g ⟨4 * p.val + 3, by omega⟩ press = s
        ∧ s.keyEvent g ⟨4 * p.val + 2, by omega⟩ false = s
        ∧ (let heard := ∃ n, g.designated .programme = some n ∧ (s.srx[n]).state = .locked ∧ (s.srx[n]).played = true
          let old := s.pos.positions[p]
          (¬ heard → s.keyEvent g ⟨4 * p.val + 2, by omega⟩ true = s)
          ∧ (heard → s.keyEvent g ⟨4 * p.val + 2, by omega⟩ true =
            { s with pos := { s.pos with positions := s.pos.positions.set p.val { old with
                latch := false, selection := if old.talkback = true then .talkback else .programme } p.isLt } })))
      ∧ (s.stc.straps.role = .gallery → ∀ i : Fin 16,
        let code : Option CueCode := match (g.inputs[i]).use with
          | .unused => none
          | .tally => some (if press = true then .onAir else .offAir)
          | .talk => some (if press = true then .talkbackOpen else .talkbackClose)
        (code = none ∨ s.atc.state ≠ .active → s.keyEvent g i press = s)
        ∧ (∀ c, code = some c → s.atc.state = .active → s.inq.cues.length < 4 →
          s.keyEvent g i press = { s with
            pos := { s.pos with cueTag := s.pos.cueTag + 1 }
            inq := { s.inq with cues := s.inq.cues
              ++ [⟨s.address, (g.inputs[i]).venue, c, (g.inputs[i]).position, s.pos.cueTag⟩] } })
        ∧ (∀ c, code = some c → s.atc.state = .active → 4 ≤ s.inq.cues.length →
          s.keyEvent g i press =
            ({ s with pos := { s.pos with cueTag := s.pos.cueTag + 1 } }.countOne .cuesRefused).raise
              .cueUndelivered)))

/-- The tests on an offered CUE, in their order: a state other than ACTIVE declines without a look; an ABSENT origin is
ignored and counted; the origin's last tag seen again is a duplicate; any other cue's tag becomes the last seen, and a
destination that is neither this station nor every station is declined uncounted; a cue without a meaning for the role
is ignored and counted; any other is accepted and counted, and at a venue acts on each position it names, the
selection being judged again.

At the gallery a TALK_REQUEST or TALK_CLEAR that names a lamp is accepted, and sets every lamp mapped to its origin and
its position, or for position 15 to its origin, ON or OFF; one that names none, and a cue of any other code, is ignored
and counted. No other lamp changes. -/
def Obligations.CuesAreJudged : Prop :=
  (∀ (s : State) (g : Image) (c : CueFrame) (i : Fin 30), s.stc.image = some g → addressAt i = c.origin →
      let t := s.offerToPos c
      let seen := { s with pos := { s.pos with lastTags := s.pos.lastTags.set i.val (some c.tag) i.isLt } }
      let placed := c.position.toNat ≤ 3 ∨ c.position.toNat = 15
      let meant := placed ∧ c.origin = g.gallery
        ∧ (c.code = .onAir ∨ c.code = .offAir ∨ c.code = .talkbackOpen ∨ c.code = .talkbackClose)
      let present := (s.pru.peers[i]).present = true
      let fresh := s.pos.lastTags[i] ≠ some c.tag
      let here := c.destination = s.address ∨ c.destination = 31#5
      (s.atc.state ≠ .active → t = (s, false))
      ∧ (s.atc.state = .active →
        (¬ present → t = (s.countOne .cuesIgnored, false))
        ∧ (present → ¬ fresh → t = (s.countOne .cueDuplicates, false))
        ∧ (present → fresh → ¬ here → t = (seen, false))
        ∧ (present → fresh → here → s.stc.straps.role = .venue → ¬ meant → t = (seen.countOne .cuesIgnored, false))
        ∧ (present → fresh → here → s.stc.straps.role = .venue → meant →
          t.2 = true ∧ t.1.counter .cuesAccepted = min 65535 (s.counter .cuesAccepted + 1)
          ∧ t.1 = { s with
              pos := { seen.pos with positions := t.1.pos.positions }
              svp := { s.svp with counters := t.1.svp.counters } }
          ∧ ∀ p : Fin 4,
            let old := s.pos.positions[p]
            t.1.pos.positions[p] =
              if c.position.toNat = p.val ∨ c.position.toNat = 15 then
                { old with
                  onAir := if c.code = .onAir then true else if c.code = .offAir then false else old.onAir
                  talkback := if c.code = .talkbackOpen then true else if c.code = .talkbackClose then false
                    else old.talkback
                  selection := selectionOf old.latch (if c.code = .talkbackOpen then true
                    else if c.code = .talkbackClose then false else old.talkback) }
              else old)))
  ∧ (∀ (s : State) (g : Image) (c : CueFrame) (i : Fin 30),
      s.stc.image = some g → addressAt i = c.origin → s.atc.state = .active → s.stc.straps.role = .gallery →
      (s.pru.peers[i]).present = true → s.pos.lastTags[i] ≠ some c.tag →
      c.destination = s.address ∨ c.destination = 31#5 →
      let request := c.code = .talkRequest ∨ c.code = .talkClear
      let ignored := { s with pos := { s.pos with
        lastTags := s.pos.lastTags.set i.val (some c.tag) i.isLt } }.countOne .cuesIgnored
      let named := fun l : Fin 16 => ∃ p : Fin 4, g.lamps[l] = some (c.origin, p)
        ∧ (c.position.toNat = p.val ∨ c.position.toNat = 15)
      let t := s.offerToPos c
      (¬ request ∨ (∀ l, ¬ named l) → t = (ignored, false))
      ∧ (request → (∃ l, named l) → t.2 = true
          ∧ t.1.counter .cuesAccepted = min 65535 (s.counter .cuesAccepted + 1)
          ∧ t.1.pos.positions = s.pos.positions ∧ t.1.inq = s.inq ∧ t.1.svp.flags = s.svp.flags
          ∧ ∀ l : Fin 16, (named l → (t.1.pos.lamps.getLsbD l.val = true ↔ c.code = .talkRequest))
              ∧ (¬ named l → t.1.pos.lamps.getLsbD l.val = s.pos.lamps.getLsbD l.val)))

/-- FALLBACK_TIMER_EXPIRY at the fallback time: the timer stops there, the position's latch is set and its selection
becomes SIDETONE, and FALLBACK_LATCHED is raised if the latch was clear. FLASH_TIMER_TOGGLE: the flash timer changes
between lit and dark every 250 ms. Nothing else changes.

That the command lets time pass up to its instant is the model's choice (log entry 6).

The lamps of a venue position show ON_AIR, TALK, the fallback latch against the return (OFF clear, FLASH without the
return, ON with it) and whether a stream with a channel in ONAIR of the position is HEARD; a gallery's lamps show the
talk requests. On a configuration fault every lamp is FLASH, and while loading and in MAINTENANCE OFF; a lamp in FLASH is lit
with the flash timer. -/
def Obligations.FallbackTimersAndLamps : Prop :=
  (∀ s : State, s.stc.held = false →
      (∀ (g : Image) (p : Fin 4) (since : Nat),
        s.stc.load = .loaded → s.stc.image = some g → s.stc.straps.role = .venue →
        (s.pos.positions[p]).timer = .running since →
        let latched := { s with
          now := max s.now (since + g.fallback * Config.millisecond)
          pos := { s.pos with positions := s.pos.positions.set p.val { s.pos.positions[p] with
            timer := .reached, latch := true, selection := .sidetone } p.isLt } }
        exec (.fallbackTimerExpiry p) s = .next
          (if (s.pos.positions[p]).latch = true then latched else latched.raise .fallbackLatched))
      ∧ exec .flashTimerToggle s = .next { s with
          now := max s.now (s.pos.flashAt + 250 * Config.millisecond)
          pos := { s.pos with
            flashLit := !s.pos.flashLit, flashAt := s.pos.flashAt + 250 * Config.millisecond } })
  ∧ (∀ s : State,
      (∀ (g : Image) (p : Fin 4), s.stc.load = .loaded → s.stc.image = some g → s.stc.straps.role = .venue →
        let x := s.pos.positions[p]
        let heard := ∃ i c, g.source i = some c ∧ (∃ ch ∈ c.channels, ch.gating = .onAir p) ∧ s.trm.heard[i] = .heard
        s.lampState ⟨4 * p.val, by omega⟩ = (if x.onAir = true then .on else .off)
        ∧ s.lampState ⟨4 * p.val + 1, by omega⟩
            = (match x.talk with | .off => LampState.off | .flash => .flash | .on => .on)
        ∧ (x.latch = false → s.lampState ⟨4 * p.val + 2, by omega⟩ = .off)
        ∧ (∀ n, x.latch = true → g.designated .programme = some n →
            s.lampState ⟨4 * p.val + 2, by omega⟩ = if (s.srx[n]).state = .locked then .on else .flash)
        ∧ (heard → s.lampState ⟨4 * p.val + 3, by omega⟩ = .on)
        ∧ (¬ heard → s.lampState ⟨4 * p.val + 3, by omega⟩ = .off))
      ∧ (∀ (g : Image) (l : Fin 16), s.stc.load = .loaded → s.stc.image = some g → s.stc.straps.role = .gallery →
        s.lampState l = if s.pos.lamps.getLsbD l.val = true then .on else .off)
      ∧ (∀ l : Fin 16,
        (s.stc.load = .faulted → s.lampState l = .flash)
        ∧ (s.stc.load = .loading ∨ s.stc.load = .maintenance → s.lampState l = .off)
        ∧ s.lit l = (s.lampState l == .on || s.lampState l == .flash && s.pos.flashLit)))

/-! ## The service port -/

/-- The read requests in LOADED and FAULTED answer ACK with a snapshot and change nothing else; an index above 15 or
above 3 is answered NAK, and one within them where nothing is configured, as on a station without a configuration,
reports that. READ_EVENTS also makes the flags
its answer shows the seen set, clearing none. -/
def Obligations.ReadsAnswerSnapshots : Prop :=
  ∀ s : State, s.stc.load = .loaded ∨ s.stc.load = .faulted →
    let answered := fun a : Answer => { s with svp := { s.svp with answer := some a, writeOpen := false } }
    (∃ a : StationAnswer, exec .readStation s = .next (answered (.ack (.station a)))
      ∧ a.address = s.address ∧ a.role = s.stc.straps.role ∧ a.external = s.stc.straps.external
      ∧ a.load = s.stc.load ∧ a.cause = s.stc.cause ∧ a.state = s.atc.state ∧ a.closure = s.atc.closure
      ∧ a.upstream = s.atc.upstream ∧ a.clock = s.cap.clock ∧ a.lastTrip = s.trm.lastTrip
      ∧ a.maxTrip = s.trm.maxTrip ∧ a.conflicts = s.trm.conflicts
      ∧ ∀ q : Fin 2, a.statuses[q] = (s.cap.stores[q]).status)
    ∧ exec .readPeers s = .next (answered (.ack (.peers s.pru.peers)))
    ∧ (∀ n : Octet, 16 ≤ n.toNat → exec (.readStream n) s = .next (answered .nak))
    ∧ (∀ (n : Octet) (h : n.toNat < 16), ∃ a, exec (.readStream n) s = .next (answered (.ack (.stream a)))
      ∧ ((∀ g ∈ s.stc.image, g.subscription ⟨n.toNat, h⟩ = none) → a = none)
      ∧ ∀ g ∈ s.stc.image, ∀ u, g.subscription ⟨n.toNat, h⟩ = some u →
        let x := s.srx[(⟨n.toNat, h⟩ : Fin 16)]
        ∃ b, a = some b ∧ b.subscription = u ∧ b.state = x.state ∧ b.origin = x.origin ∧ b.expSeq = x.expSeq
          ∧ b.expStamp = x.expStamp ∧ b.r = x.r ∧ b.rPlay = x.rPlay ∧ b.margin = x.margin
          ∧ b.holdoff = x.holdoff ∧ b.slip = x.slip ∧ b.lateRun = x.lateRun ∧ b.earlyRun = x.earlyRun
          ∧ b.queue = x.queue.map (fun k => ⟨k.stamp, k.seq, k.channels, k.substituted, k.lockMark⟩)
          ∧ b.counters = x.counters.toList)
    ∧ (∀ n : Octet, 4 ≤ n.toNat → exec (.readSource n) s = .next (answered .nak))
    ∧ (∀ (n : Octet) (h : n.toNat < 4), ∃ a, exec (.readSource n) s = .next (answered (.ack (.source a)))
      ∧ ((∀ g ∈ s.stc.image, g.source ⟨n.toNat, h⟩ = none) → a = none)
      ∧ ∀ g ∈ s.stc.image, ∀ c, g.source ⟨n.toNat, h⟩ = some c →
        let i : Fin 4 := ⟨n.toNat, h⟩
        a = some ⟨c.id, s.pru.claims[i], s.trm.heard[i], s.cap.seqs[i], s.counter (.unheard i)⟩)
    ∧ exec .readCounters s = .next (answered (.ack (.counters
        (s.svp.counters.toList ++ (List.finRange 16).flatMap fun n => (s.srx[n]).counters.toList))))
    ∧ exec .readEvents s = .next { s with svp := { s.svp with
        answer := some (.ack (.events s.svp.flags)), writeOpen := false, seen := s.svp.flags } }

/-- CLEAR_SEEN clears exactly the flags of the seen set and empties it, so a flag raised since the last READ_EVENTS stays;
ZERO_COUNTERS sets every counter to 0; UNSUPPORTED_REQUEST is answered NAK in every state of the station; the end of a
transaction ends its answer. Nothing else changes. ATTN is asserted exactly while a flag is set whose mask bit is clear,
and never without a configuration. -/
def Obligations.EventsAndCountersAreCleared : Prop :=
  ∀ s : State,
    (s.stc.load = .loaded ∨ s.stc.load = .faulted →
      (∃ t, exec .clearSeen s = .next t
        ∧ (∀ f : EventFlag, t.flag f = (s.flag f && !s.seen f) ∧ t.seen f = false)
        ∧ t = { s with svp := { s.svp with
            flags := t.svp.flags, seen := 0, answer := some (.ack .none), writeOpen := false } })
      ∧ (∀ f : EventFlag, (s.raise f).flag f = true ∧ (s.raise f).seen f = false)
      ∧ (∃ t, exec .zeroCounters s = .next t
        ∧ (∀ c : Counter, t.counter c = 0) ∧ (∀ (n : Fin 16) (c : ContextCounter), (t.srx[n]).counter c = 0)
        ∧ (∀ n : Fin 16, t.srx[n] = { s.srx[n] with counters := (t.srx[n]).counters })
        ∧ t = { s with srx := t.srx, svp := { s.svp with
            counters := t.svp.counters, answer := some (.ack .none), writeOpen := false } }))
    ∧ exec .unsupportedRequest s = .next { s with svp := { s.svp with answer := some .nak, writeOpen := false } }
    ∧ exec .serviceTransactionEnd s = .next { s with svp := { s.svp with answer := none, writeOpen := false } }
    ∧ (∀ g, s.stc.image = some g →
      (s.attn = true ↔ ∃ f : EventFlag, s.flag f = true ∧ g.mask.getLsbD f.number = false))
    ∧ (s.stc.image = none → s.attn = false)

/-- The requests a station does not take: the monitoring requests in LOADING and MAINTENANCE, and the maintenance requests
outside MAINTENANCE or while a record is still being written, are answered NAK and change nothing else. That a record is
still being written through its read-back too is the model's reading (log entry 28).

A WRITE_CONFIG or VERIFY_CONFIG of fewer than 271 octets is never received: whatever the load state it has no effect and
no answer, and, as any request, it ends the transaction before it. That is the model's reading of R186 and R187 (log entry
19). -/
def Obligations.RequestsOutOfPlaceAreRefused : Prop :=
  (∀ (s : State) (c : Instr) (rec : List Octet), 271 ≤ rec.length →
    ((s.stc.load = .loading ∨ s.stc.load = .maintenance)
        ∧ (c ∈ [Instr.readStation, .readPeers, .readCounters, .readEvents, .clearSeen, .zeroCounters, .restartRing]
          ∨ ∃ n, c = .readStream n ∨ c = .readSource n)
      ∨ (s.stc.load ≠ .maintenance ∨ s.stc.write ≠ none)
        ∧ c ∈ [Instr.identify, .readConfig, .writeConfig rec, .verifyConfig rec]) →
    exec c s = .next { s with svp := { s.svp with answer := some .nak, writeOpen := false } })
  ∧ (∀ (s : State) (c : Instr) (octets : List Octet), octets.length < 271 →
    c ∈ [Instr.writeConfig octets, .verifyConfig octets] →
    exec c s = .next { s with svp := { s.svp with answer := none, writeOpen := false } })

/-- The maintenance requests in MAINTENANCE that write nothing: IDENTIFY answers the model code, the straps as latched, and
the stored and the computed check with their status; READ_CONFIG answers the 271 octets of the memory; VERIFY_CONFIG
answers ACK exactly when its record equals them; WRITE_CONFIG of a record whose check does not match answers NAK with the
memory untouched. Nothing else changes. A record is the first 271 octets of its request, and octets after them have no
effect. -/
def Obligations.MaintenanceReads : Prop :=
  ∀ (s : State) (octets : List Octet), s.stc.load = .maintenance → s.stc.write = none → 271 ≤ octets.length →
    let record := octets.take 271
    let stored := s.stc.memory.readFrom 0 271
    let answered := fun a : Answer => { s with svp := { s.svp with answer := some a, writeOpen := false } }
    (∃ a : IdentifyAnswer, exec .identify s = .next (answered (.ack (.identify a)))
      ∧ a.model = 0x0416#16 ∧ a.address = s.address ∧ a.role = s.stc.straps.role
      ∧ a.external = s.stc.straps.external ∧ a.stored = field16 stored 269
      ∧ a.computed = recordCheck (stored.take 269)
      ∧ (a.status = .noMemory ↔ ∀ o ∈ stored, o = 0xFF#8)
      ∧ (a.status = .agrees ↔ (¬ ∀ o ∈ stored, o = 0xFF#8) ∧ a.computed = a.stored))
    ∧ exec .readConfig s = .next (answered (.ack (.record stored)))
    ∧ exec (.verifyConfig octets) s = .next (answered (if stored = record then .ack .none else .nak))
    ∧ (recordCheck (record.take 269) ≠ field16 record 269 → exec (.writeConfig octets) s = .next (answered .nak))

/-- WRITE_CONFIG of a record whose check matches, with the memory showing ready at the instant of each of its 9 pages and
the read-back at the end, no time passing: the first 271 octets of the memory are the record, every other octet stands,
and the request is answered ACK; until then it is answered WAIT. Octets after the 271st of the request have no effect.

The steps of a write in progress, after whatever time: a memory ready within 20 ms takes the next page of up to 32 octets
or, after the 9th, starts the read-back; more than 20 ms of busy end the write with NAK and the pages after it unwritten;
the read-back ends it with ACK exactly when the 271 octets equal the record. Each answers only while the write's own
transaction is open.

That the command lets time pass up to its instant is the model's choice (log entry 6). That a page is stored
as it is written is so too (log entry 5), and that the read-back ends at whatever instant its command is given (log entry
29). -/
def Obligations.WriteConfigStoresTheRecord : Prop :=
  (∀ (s : State) (octets : List Octet),
      let record := octets.take 271
      s.stc.load = .maintenance → s.stc.write = none → 271 ≤ octets.length → s.memorySound →
      recordCheck (record.take 269) = field16 record 269 →
      (∃ t, exec (.writeConfig octets) s = .next t ∧ t.svp.answer = some .wait ∧ t.stc.write.isSome = true)
      ∧ ∃ t, execAll ([.writeConfig octets] ++ List.replicate 9 .writeConfigPageReady ++ [.writeConfigReadbackEnd]) s
          = .next t
        ∧ (∀ i, t.stc.memory.read i = if h : i < record.length then record[i] else s.stc.memory.read i)
        ∧ t.stc.write = none ∧ t.svp.answer = some (.ack .none)
        ∧ t = { s with stc := { s.stc with memory := t.stc.memory }, svp := { s.svp with
            answer := some (.ack .none), writeOpen := false } })
  ∧ (∀ (s : State) (rec : List Octet),
      let ended := fun (u : State) (a : Answer) =>
        let v := { u with stc := { u.stc with write := none } }
        if u.svp.writeOpen = true then { v with svp := { v.svp with answer := some a, writeOpen := false } } else v
      (∀ k since, s.stc.write = some ⟨rec, .page k since⟩ →
        (s.now ≤ since + 20 * Config.millisecond → k < 8 →
          exec .writeConfigPageReady s = .next { s with stc := { s.stc with
            memory := s.stc.memory.writeFrom (32 * (k + 1)) ((rec.drop (32 * (k + 1))).take 32)
            write := some ⟨rec, .page (k + 1) s.now⟩ } })
        ∧ (s.now ≤ since + 20 * Config.millisecond → 8 ≤ k →
          exec .writeConfigPageReady s = .next { s with stc := { s.stc with write := some ⟨rec, .readback⟩ } })
        ∧ exec .writeConfigBusyTimeout s
            = .next (ended { s with now := max s.now (since + 20 * Config.millisecond + 1) } .nak))
      ∧ (s.stc.write = some ⟨rec, .readback⟩ →
        exec .writeConfigReadbackEnd s
          = .next (ended s (if s.stc.memory.readFrom 0 271 = rec then .ack .none else .nak))))

/-! ## What every step keeps -/

/-- Every step keeps every queue and list within its capacity: 4096 octets of repeats, 4 cues, 8 audio frames, 128 transit
entries, 16 expired identities, 8 blocks of each stream, 1167 octets of a frame. -/
def Obligations.CapacitiesHold : Prop :=
  ∀ s t : State, s.withinCapacity → step s = .next t → t.withinCapacity

/-- Every step keeps every count at or below its ceiling: 65535 for the counters, 255 for the address-conflict, idle-run
and conceal counts, 64 and 256 unit times for loss and restoral, 47 for a qualification run not yet complete. That the run
stands at 0 in WORDCLOCK is the model's choice (log entry 30). -/
def Obligations.CountsRestAtTheirCeilings : Prop :=
  ∀ s t : State, s.withinCeilings → step s = .next t → t.withinCeilings

/-- Every step keeps the attachment sound: ATTACH is asserted exactly in PROVING, ACTIVE and LEAVING and through the ABORT
units of a reset; the arbiter is DISABLED exactly while it is released; the image is present exactly in LOADED, a fault
puts the station in HALTED, and the announce timer, the join holdoff and the leave timer run exactly in their states. In
READY the arbiter has acted on every event: it holds a frame that is there to start, and none only where R42 allows none.
That it holds its choice until the START is the model's (log entry 22). -/
def Obligations.AttachmentStaysSound : Prop :=
  ∀ s t : State, s.attachmentSound → step s = .next t → t.attachmentSound

/-- Every step keeps a station that is not attached empty of the ring: no frame waits, no entry or identity is listed, no
frame is open, closure is OPEN and no stream is heard; cues and audio wait only in ACTIVE, and a final announce stands in
the slot only in LEAVING. That no frame closed by its END waits to be taken either is the model's reading (log entry 15). -/
def Obligations.UnattachedHoldsNothing : Prop :=
  ∀ s t : State, s.attachmentSound → s.emptySound → step s = .next t → t.emptySound

/-- Every step keeps every stream context sound: R differs from R_play by exactly the pending slip; E stays between 0 and
16(7B − 1), the holdoff within 255 and the runs below the largest limit; a context that is not LOCKED holds no block, no
slip, no run and no output block. -/
def Obligations.StreamsStaySound : Prop :=
  ∀ s t : State, s.loadSound → s.imageClamped → s.slipSound → s.filterSound → step s = .next t →
    t.slipSound ∧ t.filterSound

/-- Every step keeps claims and claimants those the peer table gives: a sourced stream is YIELDED exactly while a PRESENT
peer of lower address lists it, and a subscription's origin is the lowest PRESENT peer that lists its ID, its context
WAITING exactly without one; the station never has an entry of its own. Without an image every context is at its reset
values (the second part of `State.filterSound`, itself kept by every step). -/
def Obligations.ClaimsFollowThePeerTable : Prop :=
  ∀ s t : State, s.loadSound → s.filterSound → s.claimsSound → step s = .next t → t.claimsSound

/-- Every step keeps every position's selection the one its fallback latch and its talkback give, and its TALK lamp OFF
exactly while it holds no talk request tag. -/
def Obligations.PanelStaysSound : Prop :=
  ∀ s t : State, s.panelSound → step s = .next t → t.panelSound

/-- Every step keeps the values a CLOCKING playout port sends those of its channels, the seen set within the flags set, the
configuration memory in its canonical form, and the image's settings in their ranges. -/
def Obligations.OutputsEventsAndMemoryStaySound : Prop :=
  ∀ s t : State, s.loadSound → step s = .next t →
    (s.portsSound → t.portsSound) ∧ (s.eventsSound → t.eventsSound) ∧ (s.memorySound → t.memorySound)
    ∧ (s.imageClamped → t.imageClamped)
end

