-- ==== Sys2Proof/Laws/State.lean ====
section
/-! SUPPORT. What each update of the state does to each field: the field it names takes the new value, every other field
stays. -/

namespace Sys2Proof.Machine.State

variable (s : State)

@[simp] theorem withNow_now (x : Nat) : (s.withNow x).now = x := rfl
@[simp] theorem withNow_releasedAt (x : Nat) : (s.withNow x).releasedAt = s.releasedAt := rfl
@[simp] theorem withNow_atc (x : Nat) : (s.withNow x).atc = s.atc := rfl
@[simp] theorem withNow_rx (x : Nat) : (s.withNow x).rx = s.rx := rfl
@[simp] theorem withNow_rfw (x : Nat) : (s.withNow x).rfw = s.rfw := rfl
@[simp] theorem withNow_inq (x : Nat) : (s.withNow x).inq = s.inq := rfl
@[simp] theorem withNow_trm (x : Nat) : (s.withNow x).trm = s.trm := rfl
@[simp] theorem withNow_pru (x : Nat) : (s.withNow x).pru = s.pru := rfl
@[simp] theorem withNow_cap (x : Nat) : (s.withNow x).cap = s.cap := rfl
@[simp] theorem withNow_srx (x : Nat) : (s.withNow x).srx = s.srx := rfl
@[simp] theorem withNow_ply (x : Nat) : (s.withNow x).ply = s.ply := rfl
@[simp] theorem withNow_pos (x : Nat) : (s.withNow x).pos = s.pos := rfl
@[simp] theorem withNow_stc (x : Nat) : (s.withNow x).stc = s.stc := rfl
@[simp] theorem withNow_svp (x : Nat) : (s.withNow x).svp = s.svp := rfl
@[simp] theorem withNow_ties (x : Nat) : (s.withNow x).ties = s.ties := rfl
@[simp] theorem withNow_pending (x : Nat) : (s.withNow x).pending = s.pending := rfl

@[simp] theorem withReleasedAt_now (x : Nat) : (s.withReleasedAt x).now = s.now := rfl
@[simp] theorem withReleasedAt_releasedAt (x : Nat) : (s.withReleasedAt x).releasedAt = x := rfl
@[simp] theorem withReleasedAt_atc (x : Nat) : (s.withReleasedAt x).atc = s.atc := rfl
@[simp] theorem withReleasedAt_rx (x : Nat) : (s.withReleasedAt x).rx = s.rx := rfl
@[simp] theorem withReleasedAt_rfw (x : Nat) : (s.withReleasedAt x).rfw = s.rfw := rfl
@[simp] theorem withReleasedAt_inq (x : Nat) : (s.withReleasedAt x).inq = s.inq := rfl
@[simp] theorem withReleasedAt_trm (x : Nat) : (s.withReleasedAt x).trm = s.trm := rfl
@[simp] theorem withReleasedAt_pru (x : Nat) : (s.withReleasedAt x).pru = s.pru := rfl
@[simp] theorem withReleasedAt_cap (x : Nat) : (s.withReleasedAt x).cap = s.cap := rfl
@[simp] theorem withReleasedAt_srx (x : Nat) : (s.withReleasedAt x).srx = s.srx := rfl
@[simp] theorem withReleasedAt_ply (x : Nat) : (s.withReleasedAt x).ply = s.ply := rfl
@[simp] theorem withReleasedAt_pos (x : Nat) : (s.withReleasedAt x).pos = s.pos := rfl
@[simp] theorem withReleasedAt_stc (x : Nat) : (s.withReleasedAt x).stc = s.stc := rfl
@[simp] theorem withReleasedAt_svp (x : Nat) : (s.withReleasedAt x).svp = s.svp := rfl
@[simp] theorem withReleasedAt_ties (x : Nat) : (s.withReleasedAt x).ties = s.ties := rfl
@[simp] theorem withReleasedAt_pending (x : Nat) : (s.withReleasedAt x).pending = s.pending := rfl

@[simp] theorem withAtc_now (x : Atc) : (s.withAtc x).now = s.now := rfl
@[simp] theorem withAtc_releasedAt (x : Atc) : (s.withAtc x).releasedAt = s.releasedAt := rfl
@[simp] theorem withAtc_atc (x : Atc) : (s.withAtc x).atc = x := rfl
@[simp] theorem withAtc_rx (x : Atc) : (s.withAtc x).rx = s.rx := rfl
@[simp] theorem withAtc_rfw (x : Atc) : (s.withAtc x).rfw = s.rfw := rfl
@[simp] theorem withAtc_inq (x : Atc) : (s.withAtc x).inq = s.inq := rfl
@[simp] theorem withAtc_trm (x : Atc) : (s.withAtc x).trm = s.trm := rfl
@[simp] theorem withAtc_pru (x : Atc) : (s.withAtc x).pru = s.pru := rfl
@[simp] theorem withAtc_cap (x : Atc) : (s.withAtc x).cap = s.cap := rfl
@[simp] theorem withAtc_srx (x : Atc) : (s.withAtc x).srx = s.srx := rfl
@[simp] theorem withAtc_ply (x : Atc) : (s.withAtc x).ply = s.ply := rfl
@[simp] theorem withAtc_pos (x : Atc) : (s.withAtc x).pos = s.pos := rfl
@[simp] theorem withAtc_stc (x : Atc) : (s.withAtc x).stc = s.stc := rfl
@[simp] theorem withAtc_svp (x : Atc) : (s.withAtc x).svp = s.svp := rfl
@[simp] theorem withAtc_ties (x : Atc) : (s.withAtc x).ties = s.ties := rfl
@[simp] theorem withAtc_pending (x : Atc) : (s.withAtc x).pending = s.pending := rfl

@[simp] theorem withRx_now (x : Receiver) : (s.withRx x).now = s.now := rfl
@[simp] theorem withRx_releasedAt (x : Receiver) : (s.withRx x).releasedAt = s.releasedAt := rfl
@[simp] theorem withRx_atc (x : Receiver) : (s.withRx x).atc = s.atc := rfl
@[simp] theorem withRx_rx (x : Receiver) : (s.withRx x).rx = x := rfl
@[simp] theorem withRx_rfw (x : Receiver) : (s.withRx x).rfw = s.rfw := rfl
@[simp] theorem withRx_inq (x : Receiver) : (s.withRx x).inq = s.inq := rfl
@[simp] theorem withRx_trm (x : Receiver) : (s.withRx x).trm = s.trm := rfl
@[simp] theorem withRx_pru (x : Receiver) : (s.withRx x).pru = s.pru := rfl
@[simp] theorem withRx_cap (x : Receiver) : (s.withRx x).cap = s.cap := rfl
@[simp] theorem withRx_srx (x : Receiver) : (s.withRx x).srx = s.srx := rfl
@[simp] theorem withRx_ply (x : Receiver) : (s.withRx x).ply = s.ply := rfl
@[simp] theorem withRx_pos (x : Receiver) : (s.withRx x).pos = s.pos := rfl
@[simp] theorem withRx_stc (x : Receiver) : (s.withRx x).stc = s.stc := rfl
@[simp] theorem withRx_svp (x : Receiver) : (s.withRx x).svp = s.svp := rfl
@[simp] theorem withRx_ties (x : Receiver) : (s.withRx x).ties = s.ties := rfl
@[simp] theorem withRx_pending (x : Receiver) : (s.withRx x).pending = s.pending := rfl

@[simp] theorem withRfw_now (x : Rfw) : (s.withRfw x).now = s.now := rfl
@[simp] theorem withRfw_releasedAt (x : Rfw) : (s.withRfw x).releasedAt = s.releasedAt := rfl
@[simp] theorem withRfw_atc (x : Rfw) : (s.withRfw x).atc = s.atc := rfl
@[simp] theorem withRfw_rx (x : Rfw) : (s.withRfw x).rx = s.rx := rfl
@[simp] theorem withRfw_rfw (x : Rfw) : (s.withRfw x).rfw = x := rfl
@[simp] theorem withRfw_inq (x : Rfw) : (s.withRfw x).inq = s.inq := rfl
@[simp] theorem withRfw_trm (x : Rfw) : (s.withRfw x).trm = s.trm := rfl
@[simp] theorem withRfw_pru (x : Rfw) : (s.withRfw x).pru = s.pru := rfl
@[simp] theorem withRfw_cap (x : Rfw) : (s.withRfw x).cap = s.cap := rfl
@[simp] theorem withRfw_srx (x : Rfw) : (s.withRfw x).srx = s.srx := rfl
@[simp] theorem withRfw_ply (x : Rfw) : (s.withRfw x).ply = s.ply := rfl
@[simp] theorem withRfw_pos (x : Rfw) : (s.withRfw x).pos = s.pos := rfl
@[simp] theorem withRfw_stc (x : Rfw) : (s.withRfw x).stc = s.stc := rfl
@[simp] theorem withRfw_svp (x : Rfw) : (s.withRfw x).svp = s.svp := rfl
@[simp] theorem withRfw_ties (x : Rfw) : (s.withRfw x).ties = s.ties := rfl
@[simp] theorem withRfw_pending (x : Rfw) : (s.withRfw x).pending = s.pending := rfl

@[simp] theorem withInq_now (x : Inq) : (s.withInq x).now = s.now := rfl
@[simp] theorem withInq_releasedAt (x : Inq) : (s.withInq x).releasedAt = s.releasedAt := rfl
@[simp] theorem withInq_atc (x : Inq) : (s.withInq x).atc = s.atc := rfl
@[simp] theorem withInq_rx (x : Inq) : (s.withInq x).rx = s.rx := rfl
@[simp] theorem withInq_rfw (x : Inq) : (s.withInq x).rfw = s.rfw := rfl
@[simp] theorem withInq_inq (x : Inq) : (s.withInq x).inq = x := rfl
@[simp] theorem withInq_trm (x : Inq) : (s.withInq x).trm = s.trm := rfl
@[simp] theorem withInq_pru (x : Inq) : (s.withInq x).pru = s.pru := rfl
@[simp] theorem withInq_cap (x : Inq) : (s.withInq x).cap = s.cap := rfl
@[simp] theorem withInq_srx (x : Inq) : (s.withInq x).srx = s.srx := rfl
@[simp] theorem withInq_ply (x : Inq) : (s.withInq x).ply = s.ply := rfl
@[simp] theorem withInq_pos (x : Inq) : (s.withInq x).pos = s.pos := rfl
@[simp] theorem withInq_stc (x : Inq) : (s.withInq x).stc = s.stc := rfl
@[simp] theorem withInq_svp (x : Inq) : (s.withInq x).svp = s.svp := rfl
@[simp] theorem withInq_ties (x : Inq) : (s.withInq x).ties = s.ties := rfl
@[simp] theorem withInq_pending (x : Inq) : (s.withInq x).pending = s.pending := rfl

@[simp] theorem withTrm_now (x : Trm) : (s.withTrm x).now = s.now := rfl
@[simp] theorem withTrm_releasedAt (x : Trm) : (s.withTrm x).releasedAt = s.releasedAt := rfl
@[simp] theorem withTrm_atc (x : Trm) : (s.withTrm x).atc = s.atc := rfl
@[simp] theorem withTrm_rx (x : Trm) : (s.withTrm x).rx = s.rx := rfl
@[simp] theorem withTrm_rfw (x : Trm) : (s.withTrm x).rfw = s.rfw := rfl
@[simp] theorem withTrm_inq (x : Trm) : (s.withTrm x).inq = s.inq := rfl
@[simp] theorem withTrm_trm (x : Trm) : (s.withTrm x).trm = x := rfl
@[simp] theorem withTrm_pru (x : Trm) : (s.withTrm x).pru = s.pru := rfl
@[simp] theorem withTrm_cap (x : Trm) : (s.withTrm x).cap = s.cap := rfl
@[simp] theorem withTrm_srx (x : Trm) : (s.withTrm x).srx = s.srx := rfl
@[simp] theorem withTrm_ply (x : Trm) : (s.withTrm x).ply = s.ply := rfl
@[simp] theorem withTrm_pos (x : Trm) : (s.withTrm x).pos = s.pos := rfl
@[simp] theorem withTrm_stc (x : Trm) : (s.withTrm x).stc = s.stc := rfl
@[simp] theorem withTrm_svp (x : Trm) : (s.withTrm x).svp = s.svp := rfl
@[simp] theorem withTrm_ties (x : Trm) : (s.withTrm x).ties = s.ties := rfl
@[simp] theorem withTrm_pending (x : Trm) : (s.withTrm x).pending = s.pending := rfl

@[simp] theorem withPru_now (x : Pru) : (s.withPru x).now = s.now := rfl
@[simp] theorem withPru_releasedAt (x : Pru) : (s.withPru x).releasedAt = s.releasedAt := rfl
@[simp] theorem withPru_atc (x : Pru) : (s.withPru x).atc = s.atc := rfl
@[simp] theorem withPru_rx (x : Pru) : (s.withPru x).rx = s.rx := rfl
@[simp] theorem withPru_rfw (x : Pru) : (s.withPru x).rfw = s.rfw := rfl
@[simp] theorem withPru_inq (x : Pru) : (s.withPru x).inq = s.inq := rfl
@[simp] theorem withPru_trm (x : Pru) : (s.withPru x).trm = s.trm := rfl
@[simp] theorem withPru_pru (x : Pru) : (s.withPru x).pru = x := rfl
@[simp] theorem withPru_cap (x : Pru) : (s.withPru x).cap = s.cap := rfl
@[simp] theorem withPru_srx (x : Pru) : (s.withPru x).srx = s.srx := rfl
@[simp] theorem withPru_ply (x : Pru) : (s.withPru x).ply = s.ply := rfl
@[simp] theorem withPru_pos (x : Pru) : (s.withPru x).pos = s.pos := rfl
@[simp] theorem withPru_stc (x : Pru) : (s.withPru x).stc = s.stc := rfl
@[simp] theorem withPru_svp (x : Pru) : (s.withPru x).svp = s.svp := rfl
@[simp] theorem withPru_ties (x : Pru) : (s.withPru x).ties = s.ties := rfl
@[simp] theorem withPru_pending (x : Pru) : (s.withPru x).pending = s.pending := rfl

@[simp] theorem withCap_now (x : Cap) : (s.withCap x).now = s.now := rfl
@[simp] theorem withCap_releasedAt (x : Cap) : (s.withCap x).releasedAt = s.releasedAt := rfl
@[simp] theorem withCap_atc (x : Cap) : (s.withCap x).atc = s.atc := rfl
@[simp] theorem withCap_rx (x : Cap) : (s.withCap x).rx = s.rx := rfl
@[simp] theorem withCap_rfw (x : Cap) : (s.withCap x).rfw = s.rfw := rfl
@[simp] theorem withCap_inq (x : Cap) : (s.withCap x).inq = s.inq := rfl
@[simp] theorem withCap_trm (x : Cap) : (s.withCap x).trm = s.trm := rfl
@[simp] theorem withCap_pru (x : Cap) : (s.withCap x).pru = s.pru := rfl
@[simp] theorem withCap_cap (x : Cap) : (s.withCap x).cap = x := rfl
@[simp] theorem withCap_srx (x : Cap) : (s.withCap x).srx = s.srx := rfl
@[simp] theorem withCap_ply (x : Cap) : (s.withCap x).ply = s.ply := rfl
@[simp] theorem withCap_pos (x : Cap) : (s.withCap x).pos = s.pos := rfl
@[simp] theorem withCap_stc (x : Cap) : (s.withCap x).stc = s.stc := rfl
@[simp] theorem withCap_svp (x : Cap) : (s.withCap x).svp = s.svp := rfl
@[simp] theorem withCap_ties (x : Cap) : (s.withCap x).ties = s.ties := rfl
@[simp] theorem withCap_pending (x : Cap) : (s.withCap x).pending = s.pending := rfl

@[simp] theorem withSrx_now (x : Vector Context 16) : (s.withSrx x).now = s.now := rfl
@[simp] theorem withSrx_releasedAt (x : Vector Context 16) : (s.withSrx x).releasedAt = s.releasedAt := rfl
@[simp] theorem withSrx_atc (x : Vector Context 16) : (s.withSrx x).atc = s.atc := rfl
@[simp] theorem withSrx_rx (x : Vector Context 16) : (s.withSrx x).rx = s.rx := rfl
@[simp] theorem withSrx_rfw (x : Vector Context 16) : (s.withSrx x).rfw = s.rfw := rfl
@[simp] theorem withSrx_inq (x : Vector Context 16) : (s.withSrx x).inq = s.inq := rfl
@[simp] theorem withSrx_trm (x : Vector Context 16) : (s.withSrx x).trm = s.trm := rfl
@[simp] theorem withSrx_pru (x : Vector Context 16) : (s.withSrx x).pru = s.pru := rfl
@[simp] theorem withSrx_cap (x : Vector Context 16) : (s.withSrx x).cap = s.cap := rfl
@[simp] theorem withSrx_srx (x : Vector Context 16) : (s.withSrx x).srx = x := rfl
@[simp] theorem withSrx_ply (x : Vector Context 16) : (s.withSrx x).ply = s.ply := rfl
@[simp] theorem withSrx_pos (x : Vector Context 16) : (s.withSrx x).pos = s.pos := rfl
@[simp] theorem withSrx_stc (x : Vector Context 16) : (s.withSrx x).stc = s.stc := rfl
@[simp] theorem withSrx_svp (x : Vector Context 16) : (s.withSrx x).svp = s.svp := rfl
@[simp] theorem withSrx_ties (x : Vector Context 16) : (s.withSrx x).ties = s.ties := rfl
@[simp] theorem withSrx_pending (x : Vector Context 16) : (s.withSrx x).pending = s.pending := rfl

@[simp] theorem withPly_now (x : Ply) : (s.withPly x).now = s.now := rfl
@[simp] theorem withPly_releasedAt (x : Ply) : (s.withPly x).releasedAt = s.releasedAt := rfl
@[simp] theorem withPly_atc (x : Ply) : (s.withPly x).atc = s.atc := rfl
@[simp] theorem withPly_rx (x : Ply) : (s.withPly x).rx = s.rx := rfl
@[simp] theorem withPly_rfw (x : Ply) : (s.withPly x).rfw = s.rfw := rfl
@[simp] theorem withPly_inq (x : Ply) : (s.withPly x).inq = s.inq := rfl
@[simp] theorem withPly_trm (x : Ply) : (s.withPly x).trm = s.trm := rfl
@[simp] theorem withPly_pru (x : Ply) : (s.withPly x).pru = s.pru := rfl
@[simp] theorem withPly_cap (x : Ply) : (s.withPly x).cap = s.cap := rfl
@[simp] theorem withPly_srx (x : Ply) : (s.withPly x).srx = s.srx := rfl
@[simp] theorem withPly_ply (x : Ply) : (s.withPly x).ply = x := rfl
@[simp] theorem withPly_pos (x : Ply) : (s.withPly x).pos = s.pos := rfl
@[simp] theorem withPly_stc (x : Ply) : (s.withPly x).stc = s.stc := rfl
@[simp] theorem withPly_svp (x : Ply) : (s.withPly x).svp = s.svp := rfl
@[simp] theorem withPly_ties (x : Ply) : (s.withPly x).ties = s.ties := rfl
@[simp] theorem withPly_pending (x : Ply) : (s.withPly x).pending = s.pending := rfl

@[simp] theorem withPos_now (x : Pos) : (s.withPos x).now = s.now := rfl
@[simp] theorem withPos_releasedAt (x : Pos) : (s.withPos x).releasedAt = s.releasedAt := rfl
@[simp] theorem withPos_atc (x : Pos) : (s.withPos x).atc = s.atc := rfl
@[simp] theorem withPos_rx (x : Pos) : (s.withPos x).rx = s.rx := rfl
@[simp] theorem withPos_rfw (x : Pos) : (s.withPos x).rfw = s.rfw := rfl
@[simp] theorem withPos_inq (x : Pos) : (s.withPos x).inq = s.inq := rfl
@[simp] theorem withPos_trm (x : Pos) : (s.withPos x).trm = s.trm := rfl
@[simp] theorem withPos_pru (x : Pos) : (s.withPos x).pru = s.pru := rfl
@[simp] theorem withPos_cap (x : Pos) : (s.withPos x).cap = s.cap := rfl
@[simp] theorem withPos_srx (x : Pos) : (s.withPos x).srx = s.srx := rfl
@[simp] theorem withPos_ply (x : Pos) : (s.withPos x).ply = s.ply := rfl
@[simp] theorem withPos_pos (x : Pos) : (s.withPos x).pos = x := rfl
@[simp] theorem withPos_stc (x : Pos) : (s.withPos x).stc = s.stc := rfl
@[simp] theorem withPos_svp (x : Pos) : (s.withPos x).svp = s.svp := rfl
@[simp] theorem withPos_ties (x : Pos) : (s.withPos x).ties = s.ties := rfl
@[simp] theorem withPos_pending (x : Pos) : (s.withPos x).pending = s.pending := rfl

@[simp] theorem withStc_now (x : Stc) : (s.withStc x).now = s.now := rfl
@[simp] theorem withStc_releasedAt (x : Stc) : (s.withStc x).releasedAt = s.releasedAt := rfl
@[simp] theorem withStc_atc (x : Stc) : (s.withStc x).atc = s.atc := rfl
@[simp] theorem withStc_rx (x : Stc) : (s.withStc x).rx = s.rx := rfl
@[simp] theorem withStc_rfw (x : Stc) : (s.withStc x).rfw = s.rfw := rfl
@[simp] theorem withStc_inq (x : Stc) : (s.withStc x).inq = s.inq := rfl
@[simp] theorem withStc_trm (x : Stc) : (s.withStc x).trm = s.trm := rfl
@[simp] theorem withStc_pru (x : Stc) : (s.withStc x).pru = s.pru := rfl
@[simp] theorem withStc_cap (x : Stc) : (s.withStc x).cap = s.cap := rfl
@[simp] theorem withStc_srx (x : Stc) : (s.withStc x).srx = s.srx := rfl
@[simp] theorem withStc_ply (x : Stc) : (s.withStc x).ply = s.ply := rfl
@[simp] theorem withStc_pos (x : Stc) : (s.withStc x).pos = s.pos := rfl
@[simp] theorem withStc_stc (x : Stc) : (s.withStc x).stc = x := rfl
@[simp] theorem withStc_svp (x : Stc) : (s.withStc x).svp = s.svp := rfl
@[simp] theorem withStc_ties (x : Stc) : (s.withStc x).ties = s.ties := rfl
@[simp] theorem withStc_pending (x : Stc) : (s.withStc x).pending = s.pending := rfl

@[simp] theorem withSvp_now (x : Svp) : (s.withSvp x).now = s.now := rfl
@[simp] theorem withSvp_releasedAt (x : Svp) : (s.withSvp x).releasedAt = s.releasedAt := rfl
@[simp] theorem withSvp_atc (x : Svp) : (s.withSvp x).atc = s.atc := rfl
@[simp] theorem withSvp_rx (x : Svp) : (s.withSvp x).rx = s.rx := rfl
@[simp] theorem withSvp_rfw (x : Svp) : (s.withSvp x).rfw = s.rfw := rfl
@[simp] theorem withSvp_inq (x : Svp) : (s.withSvp x).inq = s.inq := rfl
@[simp] theorem withSvp_trm (x : Svp) : (s.withSvp x).trm = s.trm := rfl
@[simp] theorem withSvp_pru (x : Svp) : (s.withSvp x).pru = s.pru := rfl
@[simp] theorem withSvp_cap (x : Svp) : (s.withSvp x).cap = s.cap := rfl
@[simp] theorem withSvp_srx (x : Svp) : (s.withSvp x).srx = s.srx := rfl
@[simp] theorem withSvp_ply (x : Svp) : (s.withSvp x).ply = s.ply := rfl
@[simp] theorem withSvp_pos (x : Svp) : (s.withSvp x).pos = s.pos := rfl
@[simp] theorem withSvp_stc (x : Svp) : (s.withSvp x).stc = s.stc := rfl
@[simp] theorem withSvp_svp (x : Svp) : (s.withSvp x).svp = x := rfl
@[simp] theorem withSvp_ties (x : Svp) : (s.withSvp x).ties = s.ties := rfl
@[simp] theorem withSvp_pending (x : Svp) : (s.withSvp x).pending = s.pending := rfl

@[simp] theorem withTies_now (x : Nat) : (s.withTies x).now = s.now := rfl
@[simp] theorem withTies_releasedAt (x : Nat) : (s.withTies x).releasedAt = s.releasedAt := rfl
@[simp] theorem withTies_atc (x : Nat) : (s.withTies x).atc = s.atc := rfl
@[simp] theorem withTies_rx (x : Nat) : (s.withTies x).rx = s.rx := rfl
@[simp] theorem withTies_rfw (x : Nat) : (s.withTies x).rfw = s.rfw := rfl
@[simp] theorem withTies_inq (x : Nat) : (s.withTies x).inq = s.inq := rfl
@[simp] theorem withTies_trm (x : Nat) : (s.withTies x).trm = s.trm := rfl
@[simp] theorem withTies_pru (x : Nat) : (s.withTies x).pru = s.pru := rfl
@[simp] theorem withTies_cap (x : Nat) : (s.withTies x).cap = s.cap := rfl
@[simp] theorem withTies_srx (x : Nat) : (s.withTies x).srx = s.srx := rfl
@[simp] theorem withTies_ply (x : Nat) : (s.withTies x).ply = s.ply := rfl
@[simp] theorem withTies_pos (x : Nat) : (s.withTies x).pos = s.pos := rfl
@[simp] theorem withTies_stc (x : Nat) : (s.withTies x).stc = s.stc := rfl
@[simp] theorem withTies_svp (x : Nat) : (s.withTies x).svp = s.svp := rfl
@[simp] theorem withTies_ties (x : Nat) : (s.withTies x).ties = x := rfl
@[simp] theorem withTies_pending (x : Nat) : (s.withTies x).pending = s.pending := rfl

@[simp] theorem withPending_now (x : List Instr) : (s.withPending x).now = s.now := rfl
@[simp] theorem withPending_releasedAt (x : List Instr) : (s.withPending x).releasedAt = s.releasedAt := rfl
@[simp] theorem withPending_atc (x : List Instr) : (s.withPending x).atc = s.atc := rfl
@[simp] theorem withPending_rx (x : List Instr) : (s.withPending x).rx = s.rx := rfl
@[simp] theorem withPending_rfw (x : List Instr) : (s.withPending x).rfw = s.rfw := rfl
@[simp] theorem withPending_inq (x : List Instr) : (s.withPending x).inq = s.inq := rfl
@[simp] theorem withPending_trm (x : List Instr) : (s.withPending x).trm = s.trm := rfl
@[simp] theorem withPending_pru (x : List Instr) : (s.withPending x).pru = s.pru := rfl
@[simp] theorem withPending_cap (x : List Instr) : (s.withPending x).cap = s.cap := rfl
@[simp] theorem withPending_srx (x : List Instr) : (s.withPending x).srx = s.srx := rfl
@[simp] theorem withPending_ply (x : List Instr) : (s.withPending x).ply = s.ply := rfl
@[simp] theorem withPending_pos (x : List Instr) : (s.withPending x).pos = s.pos := rfl
@[simp] theorem withPending_stc (x : List Instr) : (s.withPending x).stc = s.stc := rfl
@[simp] theorem withPending_svp (x : List Instr) : (s.withPending x).svp = s.svp := rfl
@[simp] theorem withPending_ties (x : List Instr) : (s.withPending x).ties = s.ties := rfl
@[simp] theorem withPending_pending (x : List Instr) : (s.withPending x).pending = x := rfl

end Sys2Proof.Machine.State
end

