-- ==== Sys2Proof/Laws/Frames.lean ====
section
/-! SUPPORT. For each shared operation one lemma that says which blocks of the state it leaves as they are. Each is a
simp rule, so that a proof about one block need not unfold what acts on another. -/

namespace Sys2Proof.Machine

/-- What every step of a fold keeps, the fold keeps. -/
theorem foldl_keeps {α β γ : Type} (f : β → α → β) (p : β → γ) (h : ∀ b a, p (f b a) = p b) (l : List α) (b : β) :
    p (l.foldl f b) = p b := by
  induction l generalizing b with
  | nil => rfl
  | cons a l ih => rw [List.foldl_cons, ih, h]

/-! ## Time and flags -/

@[simp] theorem State.waitUntil_frame (s : State) (t : Nat) :
    (s.waitUntil t).releasedAt = s.releasedAt ∧
      (s.waitUntil t).atc = s.atc ∧
      (s.waitUntil t).rx = s.rx ∧
      (s.waitUntil t).rfw = s.rfw ∧
      (s.waitUntil t).inq = s.inq ∧
      (s.waitUntil t).trm = s.trm ∧
      (s.waitUntil t).pru = s.pru ∧
      (s.waitUntil t).cap = s.cap ∧
      (s.waitUntil t).srx = s.srx ∧
      (s.waitUntil t).ply = s.ply ∧
      (s.waitUntil t).pos = s.pos ∧
      (s.waitUntil t).stc = s.stc ∧
      (s.waitUntil t).svp = s.svp ∧
      (s.waitUntil t).ties = s.ties ∧
      (s.waitUntil t).pending = s.pending := by
  refine ⟨?_, ?_, ?_, ?_, ?_, ?_, ?_, ?_, ?_, ?_, ?_, ?_, ?_, ?_, ?_⟩ <;>
    (unfold State.waitUntil; (try dsimp only); repeat' (first | (simp; done) | split))

@[simp] theorem State.raise_frame (s : State) (f : EventFlag) :
    (s.raise f).now = s.now ∧
      (s.raise f).releasedAt = s.releasedAt ∧
      (s.raise f).atc = s.atc ∧
      (s.raise f).rx = s.rx ∧
      (s.raise f).rfw = s.rfw ∧
      (s.raise f).inq = s.inq ∧
      (s.raise f).trm = s.trm ∧
      (s.raise f).pru = s.pru ∧
      (s.raise f).cap = s.cap ∧
      (s.raise f).srx = s.srx ∧
      (s.raise f).ply = s.ply ∧
      (s.raise f).pos = s.pos ∧
      (s.raise f).stc = s.stc ∧
      (s.raise f).ties = s.ties ∧
      (s.raise f).pending = s.pending := by
  refine ⟨?_, ?_, ?_, ?_, ?_, ?_, ?_, ?_, ?_, ?_, ?_, ?_, ?_, ?_, ?_⟩ <;>
    (unfold State.raise; (try dsimp only); repeat' (first | (simp; done) | split))

@[simp] theorem State.raiseIf_frame (s : State) (c : Bool) (f : EventFlag) :
    (s.raiseIf c f).now = s.now ∧
      (s.raiseIf c f).releasedAt = s.releasedAt ∧
      (s.raiseIf c f).atc = s.atc ∧
      (s.raiseIf c f).rx = s.rx ∧
      (s.raiseIf c f).rfw = s.rfw ∧
      (s.raiseIf c f).inq = s.inq ∧
      (s.raiseIf c f).trm = s.trm ∧
      (s.raiseIf c f).pru = s.pru ∧
      (s.raiseIf c f).cap = s.cap ∧
      (s.raiseIf c f).srx = s.srx ∧
      (s.raiseIf c f).ply = s.ply ∧
      (s.raiseIf c f).pos = s.pos ∧
      (s.raiseIf c f).stc = s.stc ∧
      (s.raiseIf c f).ties = s.ties ∧
      (s.raiseIf c f).pending = s.pending := by
  refine ⟨?_, ?_, ?_, ?_, ?_, ?_, ?_, ?_, ?_, ?_, ?_, ?_, ?_, ?_, ?_⟩ <;>
    (unfold State.raiseIf; (try dsimp only); repeat' (first | (simp; done) | split))

@[simp] theorem State.countBy_frame (s : State) (c : Counter) (n : Nat) :
    (s.countBy c n).now = s.now ∧
      (s.countBy c n).releasedAt = s.releasedAt ∧
      (s.countBy c n).atc = s.atc ∧
      (s.countBy c n).rx = s.rx ∧
      (s.countBy c n).rfw = s.rfw ∧
      (s.countBy c n).inq = s.inq ∧
      (s.countBy c n).trm = s.trm ∧
      (s.countBy c n).pru = s.pru ∧
      (s.countBy c n).cap = s.cap ∧
      (s.countBy c n).srx = s.srx ∧
      (s.countBy c n).ply = s.ply ∧
      (s.countBy c n).pos = s.pos ∧
      (s.countBy c n).stc = s.stc ∧
      (s.countBy c n).ties = s.ties ∧
      (s.countBy c n).pending = s.pending := by
  refine ⟨?_, ?_, ?_, ?_, ?_, ?_, ?_, ?_, ?_, ?_, ?_, ?_, ?_, ?_, ?_⟩ <;>
    (unfold State.countBy; (try dsimp only); repeat' (first | (simp; done) | split))

@[simp] theorem State.countOne_frame (s : State) (c : Counter) :
    (s.countOne c).now = s.now ∧
      (s.countOne c).releasedAt = s.releasedAt ∧
      (s.countOne c).atc = s.atc ∧
      (s.countOne c).rx = s.rx ∧
      (s.countOne c).rfw = s.rfw ∧
      (s.countOne c).inq = s.inq ∧
      (s.countOne c).trm = s.trm ∧
      (s.countOne c).pru = s.pru ∧
      (s.countOne c).cap = s.cap ∧
      (s.countOne c).srx = s.srx ∧
      (s.countOne c).ply = s.ply ∧
      (s.countOne c).pos = s.pos ∧
      (s.countOne c).stc = s.stc ∧
      (s.countOne c).ties = s.ties ∧
      (s.countOne c).pending = s.pending := by
  refine ⟨?_, ?_, ?_, ?_, ?_, ?_, ?_, ?_, ?_, ?_, ?_, ?_, ?_, ?_, ?_⟩ <;>
    (unfold State.countOne; (try dsimp only); repeat' (first | (simp; done) | split))

/-! ## The arbiter's choice -/

@[simp] theorem State.decideStart_frame (s : State) :
    s.decideStart.now = s.now ∧
      s.decideStart.releasedAt = s.releasedAt ∧
      s.decideStart.atc = s.atc ∧
      s.decideStart.rx = s.rx ∧
      s.decideStart.inq = s.inq ∧
      s.decideStart.trm = s.trm ∧
      s.decideStart.pru = s.pru ∧
      s.decideStart.cap = s.cap ∧
      s.decideStart.srx = s.srx ∧
      s.decideStart.ply = s.ply ∧
      s.decideStart.pos = s.pos ∧
      s.decideStart.stc = s.stc ∧
      s.decideStart.svp = s.svp ∧
      s.decideStart.ties = s.ties ∧
      s.decideStart.pending = s.pending := by
  refine ⟨?_, ?_, ?_, ?_, ?_, ?_, ?_, ?_, ?_, ?_, ?_, ?_, ?_, ?_, ?_⟩ <;>
    (unfold State.decideStart; (try dsimp only); repeat' (first | (simp; done) | split))

/-! ## Positions -/

@[simp] theorem State.setPosition_frame (s : State) (p : Fin 4) (f : Position → Position) :
    (s.setPosition p f).now = s.now ∧
      (s.setPosition p f).releasedAt = s.releasedAt ∧
      (s.setPosition p f).atc = s.atc ∧
      (s.setPosition p f).rx = s.rx ∧
      (s.setPosition p f).rfw = s.rfw ∧
      (s.setPosition p f).inq = s.inq ∧
      (s.setPosition p f).trm = s.trm ∧
      (s.setPosition p f).pru = s.pru ∧
      (s.setPosition p f).cap = s.cap ∧
      (s.setPosition p f).srx = s.srx ∧
      (s.setPosition p f).ply = s.ply ∧
      (s.setPosition p f).stc = s.stc ∧
      (s.setPosition p f).svp = s.svp ∧
      (s.setPosition p f).ties = s.ties ∧
      (s.setPosition p f).pending = s.pending := by
  refine ⟨?_, ?_, ?_, ?_, ?_, ?_, ?_, ?_, ?_, ?_, ?_, ?_, ?_, ?_, ?_⟩ <;>
    (unfold State.setPosition; (try dsimp only); repeat' (first | (simp; done) | split))

@[simp] theorem State.setPositions_frame (s : State) (f : Position → Position) :
    (s.setPositions f).now = s.now ∧
      (s.setPositions f).releasedAt = s.releasedAt ∧
      (s.setPositions f).atc = s.atc ∧
      (s.setPositions f).rx = s.rx ∧
      (s.setPositions f).rfw = s.rfw ∧
      (s.setPositions f).inq = s.inq ∧
      (s.setPositions f).trm = s.trm ∧
      (s.setPositions f).pru = s.pru ∧
      (s.setPositions f).cap = s.cap ∧
      (s.setPositions f).srx = s.srx ∧
      (s.setPositions f).ply = s.ply ∧
      (s.setPositions f).stc = s.stc ∧
      (s.setPositions f).svp = s.svp ∧
      (s.setPositions f).ties = s.ties ∧
      (s.setPositions f).pending = s.pending := by
  refine ⟨?_, ?_, ?_, ?_, ?_, ?_, ?_, ?_, ?_, ?_, ?_, ?_, ?_, ?_, ?_⟩ <;>
    (unfold State.setPositions; (try dsimp only); repeat' (first | (simp; done) | split))

@[simp] theorem State.cueOutcome_frame (s : State) (c : CueReport) (d : Bool) :
    (s.cueOutcome c d).now = s.now ∧
      (s.cueOutcome c d).releasedAt = s.releasedAt ∧
      (s.cueOutcome c d).atc = s.atc ∧
      (s.cueOutcome c d).rx = s.rx ∧
      (s.cueOutcome c d).rfw = s.rfw ∧
      (s.cueOutcome c d).inq = s.inq ∧
      (s.cueOutcome c d).trm = s.trm ∧
      (s.cueOutcome c d).pru = s.pru ∧
      (s.cueOutcome c d).cap = s.cap ∧
      (s.cueOutcome c d).srx = s.srx ∧
      (s.cueOutcome c d).ply = s.ply ∧
      (s.cueOutcome c d).stc = s.stc ∧
      (s.cueOutcome c d).svp = s.svp ∧
      (s.cueOutcome c d).ties = s.ties ∧
      (s.cueOutcome c d).pending = s.pending := by
  refine ⟨?_, ?_, ?_, ?_, ?_, ?_, ?_, ?_, ?_, ?_, ?_, ?_, ?_, ?_, ?_⟩ <;>
    (unfold State.cueOutcome; (try dsimp only); repeat' (first | (simp; done) | split))

@[simp] theorem State.cueUndelivered_frame (s : State) (c : CueReport) :
    (s.cueUndelivered c).now = s.now ∧
      (s.cueUndelivered c).releasedAt = s.releasedAt ∧
      (s.cueUndelivered c).atc = s.atc ∧
      (s.cueUndelivered c).rx = s.rx ∧
      (s.cueUndelivered c).rfw = s.rfw ∧
      (s.cueUndelivered c).inq = s.inq ∧
      (s.cueUndelivered c).trm = s.trm ∧
      (s.cueUndelivered c).pru = s.pru ∧
      (s.cueUndelivered c).cap = s.cap ∧
      (s.cueUndelivered c).srx = s.srx ∧
      (s.cueUndelivered c).ply = s.ply ∧
      (s.cueUndelivered c).stc = s.stc ∧
      (s.cueUndelivered c).ties = s.ties ∧
      (s.cueUndelivered c).pending = s.pending := by
  refine ⟨?_, ?_, ?_, ?_, ?_, ?_, ?_, ?_, ?_, ?_, ?_, ?_, ?_, ?_⟩ <;>
    (unfold State.cueUndelivered; (try dsimp only); repeat' (first | (simp; done) | split))

@[simp] theorem State.startFallback_frame (s : State) :
    s.startFallback.now = s.now ∧
      s.startFallback.releasedAt = s.releasedAt ∧
      s.startFallback.atc = s.atc ∧
      s.startFallback.rx = s.rx ∧
      s.startFallback.rfw = s.rfw ∧
      s.startFallback.inq = s.inq ∧
      s.startFallback.trm = s.trm ∧
      s.startFallback.pru = s.pru ∧
      s.startFallback.cap = s.cap ∧
      s.startFallback.srx = s.srx ∧
      s.startFallback.ply = s.ply ∧
      s.startFallback.stc = s.stc ∧
      s.startFallback.svp = s.svp ∧
      s.startFallback.ties = s.ties ∧
      s.startFallback.pending = s.pending := by
  refine ⟨?_, ?_, ?_, ?_, ?_, ?_, ?_, ?_, ?_, ?_, ?_, ?_, ?_, ?_, ?_⟩ <;>
    (unfold State.startFallback; (try dsimp only); repeat' (first | (simp; done) | split))

@[simp] theorem State.stopFallback_frame (s : State) :
    s.stopFallback.now = s.now ∧
      s.stopFallback.releasedAt = s.releasedAt ∧
      s.stopFallback.atc = s.atc ∧
      s.stopFallback.rx = s.rx ∧
      s.stopFallback.rfw = s.rfw ∧
      s.stopFallback.inq = s.inq ∧
      s.stopFallback.trm = s.trm ∧
      s.stopFallback.pru = s.pru ∧
      s.stopFallback.cap = s.cap ∧
      s.stopFallback.srx = s.srx ∧
      s.stopFallback.ply = s.ply ∧
      s.stopFallback.stc = s.stc ∧
      s.stopFallback.svp = s.svp ∧
      s.stopFallback.ties = s.ties ∧
      s.stopFallback.pending = s.pending := by
  refine ⟨?_, ?_, ?_, ?_, ?_, ?_, ?_, ?_, ?_, ?_, ?_, ?_, ?_, ?_, ?_⟩ <;>
    (unfold State.stopFallback; (try dsimp only); repeat' (first | (simp; done) | split))

@[simp] theorem State.peerDeparted_frame (s : State) (i : Fin 30) :
    (s.peerDeparted i).now = s.now ∧
      (s.peerDeparted i).releasedAt = s.releasedAt ∧
      (s.peerDeparted i).atc = s.atc ∧
      (s.peerDeparted i).rx = s.rx ∧
      (s.peerDeparted i).rfw = s.rfw ∧
      (s.peerDeparted i).inq = s.inq ∧
      (s.peerDeparted i).trm = s.trm ∧
      (s.peerDeparted i).pru = s.pru ∧
      (s.peerDeparted i).cap = s.cap ∧
      (s.peerDeparted i).srx = s.srx ∧
      (s.peerDeparted i).ply = s.ply ∧
      (s.peerDeparted i).stc = s.stc ∧
      (s.peerDeparted i).svp = s.svp ∧
      (s.peerDeparted i).ties = s.ties ∧
      (s.peerDeparted i).pending = s.pending := by
  refine ⟨?_, ?_, ?_, ?_, ?_, ?_, ?_, ?_, ?_, ?_, ?_, ?_, ?_, ?_, ?_⟩ <;>
    (unfold State.peerDeparted; (try dsimp only); repeat' (first | (simp; done) | split))

@[simp] theorem State.clearPositions_frame (s : State) :
    s.clearPositions.now = s.now ∧
      s.clearPositions.releasedAt = s.releasedAt ∧
      s.clearPositions.atc = s.atc ∧
      s.clearPositions.rx = s.rx ∧
      s.clearPositions.rfw = s.rfw ∧
      s.clearPositions.inq = s.inq ∧
      s.clearPositions.trm = s.trm ∧
      s.clearPositions.pru = s.pru ∧
      s.clearPositions.cap = s.cap ∧
      s.clearPositions.srx = s.srx ∧
      s.clearPositions.ply = s.ply ∧
      s.clearPositions.stc = s.stc ∧
      s.clearPositions.svp = s.svp ∧
      s.clearPositions.ties = s.ties ∧
      s.clearPositions.pending = s.pending := by
  refine ⟨?_, ?_, ?_, ?_, ?_, ?_, ?_, ?_, ?_, ?_, ?_, ?_, ?_, ?_, ?_⟩ <;>
    (unfold State.clearPositions; (try dsimp only); repeat' (first | (simp; done) | split))

@[simp] theorem State.latchFallback_frame (s : State) (p : Fin 4) :
    (s.latchFallback p).now = s.now ∧
      (s.latchFallback p).releasedAt = s.releasedAt ∧
      (s.latchFallback p).atc = s.atc ∧
      (s.latchFallback p).rx = s.rx ∧
      (s.latchFallback p).rfw = s.rfw ∧
      (s.latchFallback p).inq = s.inq ∧
      (s.latchFallback p).trm = s.trm ∧
      (s.latchFallback p).pru = s.pru ∧
      (s.latchFallback p).cap = s.cap ∧
      (s.latchFallback p).srx = s.srx ∧
      (s.latchFallback p).ply = s.ply ∧
      (s.latchFallback p).stc = s.stc ∧
      (s.latchFallback p).ties = s.ties ∧
      (s.latchFallback p).pending = s.pending := by
  refine ⟨?_, ?_, ?_, ?_, ?_, ?_, ?_, ?_, ?_, ?_, ?_, ?_, ?_, ?_⟩ <;>
    (unfold State.latchFallback; (try dsimp only); repeat' (first | (simp; done) | split))

/-! ## Insertion -/

@[simp] theorem State.offerCue_frame (s : State) (f : CueFrame) :
    (s.offerCue f).now = s.now ∧
      (s.offerCue f).releasedAt = s.releasedAt ∧
      (s.offerCue f).atc = s.atc ∧
      (s.offerCue f).rx = s.rx ∧
      (s.offerCue f).rfw = s.rfw ∧
      (s.offerCue f).trm = s.trm ∧
      (s.offerCue f).pru = s.pru ∧
      (s.offerCue f).cap = s.cap ∧
      (s.offerCue f).srx = s.srx ∧
      (s.offerCue f).ply = s.ply ∧
      (s.offerCue f).stc = s.stc ∧
      (s.offerCue f).ties = s.ties ∧
      (s.offerCue f).pending = s.pending := by
  refine ⟨?_, ?_, ?_, ?_, ?_, ?_, ?_, ?_, ?_, ?_, ?_, ?_, ?_⟩ <;>
    (unfold State.offerCue; (try dsimp only); repeat' (first | (simp; done) | split))

@[simp] theorem State.offerAnnounce_frame (s : State) (f : AnnounceFrame) :
    (s.offerAnnounce f).now = s.now ∧
      (s.offerAnnounce f).releasedAt = s.releasedAt ∧
      (s.offerAnnounce f).atc = s.atc ∧
      (s.offerAnnounce f).rx = s.rx ∧
      (s.offerAnnounce f).rfw = s.rfw ∧
      (s.offerAnnounce f).trm = s.trm ∧
      (s.offerAnnounce f).pru = s.pru ∧
      (s.offerAnnounce f).cap = s.cap ∧
      (s.offerAnnounce f).srx = s.srx ∧
      (s.offerAnnounce f).ply = s.ply ∧
      (s.offerAnnounce f).pos = s.pos ∧
      (s.offerAnnounce f).stc = s.stc ∧
      (s.offerAnnounce f).ties = s.ties ∧
      (s.offerAnnounce f).pending = s.pending := by
  refine ⟨?_, ?_, ?_, ?_, ?_, ?_, ?_, ?_, ?_, ?_, ?_, ?_, ?_, ?_⟩ <;>
    (unfold State.offerAnnounce; (try dsimp only); repeat' (first | (simp; done) | split))

@[simp] theorem State.offerAudio_frame (s : State) (f : AudioFrame) :
    (s.offerAudio f).now = s.now ∧
      (s.offerAudio f).releasedAt = s.releasedAt ∧
      (s.offerAudio f).atc = s.atc ∧
      (s.offerAudio f).rx = s.rx ∧
      (s.offerAudio f).rfw = s.rfw ∧
      (s.offerAudio f).trm = s.trm ∧
      (s.offerAudio f).pru = s.pru ∧
      (s.offerAudio f).cap = s.cap ∧
      (s.offerAudio f).srx = s.srx ∧
      (s.offerAudio f).ply = s.ply ∧
      (s.offerAudio f).pos = s.pos ∧
      (s.offerAudio f).stc = s.stc ∧
      (s.offerAudio f).ties = s.ties ∧
      (s.offerAudio f).pending = s.pending := by
  refine ⟨?_, ?_, ?_, ?_, ?_, ?_, ?_, ?_, ?_, ?_, ?_, ?_, ?_, ?_⟩ <;>
    (unfold State.offerAudio; (try dsimp only); repeat' (first | (simp; done) | split))

@[simp] theorem State.discardOwn_frame (s : State) :
    s.discardOwn.now = s.now ∧
      s.discardOwn.releasedAt = s.releasedAt ∧
      s.discardOwn.atc = s.atc ∧
      s.discardOwn.rx = s.rx ∧
      s.discardOwn.rfw = s.rfw ∧
      s.discardOwn.trm = s.trm ∧
      s.discardOwn.pru = s.pru ∧
      s.discardOwn.cap = s.cap ∧
      s.discardOwn.srx = s.srx ∧
      s.discardOwn.ply = s.ply ∧
      s.discardOwn.stc = s.stc ∧
      s.discardOwn.ties = s.ties ∧
      s.discardOwn.pending = s.pending := by
  refine ⟨?_, ?_, ?_, ?_, ?_, ?_, ?_, ?_, ?_, ?_, ?_, ?_, ?_⟩
  · exact (foldl_keeps (p := State.now) _ (fun b a => by simp) _ _).trans (by simp)
  · exact (foldl_keeps (p := State.releasedAt) _ (fun b a => by simp) _ _).trans (by simp)
  · exact (foldl_keeps (p := State.atc) _ (fun b a => by simp) _ _).trans (by simp)
  · exact (foldl_keeps (p := State.rx) _ (fun b a => by simp) _ _).trans (by simp)
  · exact (foldl_keeps (p := State.rfw) _ (fun b a => by simp) _ _).trans (by simp)
  · exact (foldl_keeps (p := State.trm) _ (fun b a => by simp) _ _).trans (by simp)
  · exact (foldl_keeps (p := State.pru) _ (fun b a => by simp) _ _).trans (by simp)
  · exact (foldl_keeps (p := State.cap) _ (fun b a => by simp) _ _).trans (by simp)
  · exact (foldl_keeps (p := State.srx) _ (fun b a => by simp) _ _).trans (by simp)
  · exact (foldl_keeps (p := State.ply) _ (fun b a => by simp) _ _).trans (by simp)
  · exact (foldl_keeps (p := State.stc) _ (fun b a => by simp) _ _).trans (by simp)
  · exact (foldl_keeps (p := State.ties) _ (fun b a => by simp) _ _).trans (by simp)
  · exact (foldl_keeps (p := State.pending) _ (fun b a => by simp) _ _).trans (by simp)

@[simp] theorem State.announce_frame (s : State) (l : Bool) :
    (s.announce l).now = s.now ∧
      (s.announce l).releasedAt = s.releasedAt ∧
      (s.announce l).atc = s.atc ∧
      (s.announce l).rx = s.rx ∧
      (s.announce l).rfw = s.rfw ∧
      (s.announce l).trm = s.trm ∧
      (s.announce l).cap = s.cap ∧
      (s.announce l).srx = s.srx ∧
      (s.announce l).ply = s.ply ∧
      (s.announce l).pos = s.pos ∧
      (s.announce l).stc = s.stc ∧
      (s.announce l).ties = s.ties ∧
      (s.announce l).pending = s.pending := by
  refine ⟨?_, ?_, ?_, ?_, ?_, ?_, ?_, ?_, ?_, ?_, ?_, ?_, ?_⟩ <;>
    (unfold State.announce; (try dsimp only); repeat' (first | (simp; done) | split))

/-! ## Attachment -/

@[simp] theorem State.closureOutcome_frame (s : State) (c : Closure) :
    (s.closureOutcome c).now = s.now ∧
      (s.closureOutcome c).releasedAt = s.releasedAt ∧
      (s.closureOutcome c).rx = s.rx ∧
      (s.closureOutcome c).rfw = s.rfw ∧
      (s.closureOutcome c).inq = s.inq ∧
      (s.closureOutcome c).trm = s.trm ∧
      (s.closureOutcome c).pru = s.pru ∧
      (s.closureOutcome c).cap = s.cap ∧
      (s.closureOutcome c).srx = s.srx ∧
      (s.closureOutcome c).ply = s.ply ∧
      (s.closureOutcome c).pos = s.pos ∧
      (s.closureOutcome c).stc = s.stc ∧
      (s.closureOutcome c).ties = s.ties ∧
      (s.closureOutcome c).pending = s.pending := by
  refine ⟨?_, ?_, ?_, ?_, ?_, ?_, ?_, ?_, ?_, ?_, ?_, ?_, ?_, ?_⟩ <;>
    (unfold State.closureOutcome; (try dsimp only); repeat' (first | (simp; done) | split))

@[simp] theorem State.enterLeaving_frame (s : State) (c : LeaveCause) :
    (s.enterLeaving c).now = s.now ∧
      (s.enterLeaving c).releasedAt = s.releasedAt ∧
      (s.enterLeaving c).rx = s.rx ∧
      (s.enterLeaving c).trm = s.trm ∧
      (s.enterLeaving c).cap = s.cap ∧
      (s.enterLeaving c).srx = s.srx ∧
      (s.enterLeaving c).ply = s.ply ∧
      (s.enterLeaving c).stc = s.stc ∧
      (s.enterLeaving c).ties = s.ties ∧
      (s.enterLeaving c).pending = s.pending := by
  refine ⟨?_, ?_, ?_, ?_, ?_, ?_, ?_, ?_, ?_, ?_⟩ <;>
    (unfold State.enterLeaving; (try dsimp only); repeat' (first | (simp; done) | split))

@[simp] theorem State.conflictHalt_frame (s : State) :
    s.conflictHalt.now = s.now ∧
      s.conflictHalt.releasedAt = s.releasedAt ∧
      s.conflictHalt.rx = s.rx ∧
      s.conflictHalt.trm = s.trm ∧
      s.conflictHalt.cap = s.cap ∧
      s.conflictHalt.srx = s.srx ∧
      s.conflictHalt.ply = s.ply ∧
      s.conflictHalt.stc = s.stc ∧
      s.conflictHalt.ties = s.ties ∧
      s.conflictHalt.pending = s.pending := by
  refine ⟨?_, ?_, ?_, ?_, ?_, ?_, ?_, ?_, ?_, ?_⟩ <;>
    (unfold State.conflictHalt; (try dsimp only); repeat' (first | (simp; done) | split))

/-! ## The transit list -/

@[simp] theorem State.setHeard_frame (s : State) (i : Fin 4) (h : Heard) :
    (s.setHeard i h).now = s.now ∧
      (s.setHeard i h).releasedAt = s.releasedAt ∧
      (s.setHeard i h).atc = s.atc ∧
      (s.setHeard i h).rx = s.rx ∧
      (s.setHeard i h).rfw = s.rfw ∧
      (s.setHeard i h).inq = s.inq ∧
      (s.setHeard i h).pru = s.pru ∧
      (s.setHeard i h).cap = s.cap ∧
      (s.setHeard i h).srx = s.srx ∧
      (s.setHeard i h).ply = s.ply ∧
      (s.setHeard i h).pos = s.pos ∧
      (s.setHeard i h).stc = s.stc ∧
      (s.setHeard i h).svp = s.svp ∧
      (s.setHeard i h).ties = s.ties ∧
      (s.setHeard i h).pending = s.pending := by
  refine ⟨?_, ?_, ?_, ?_, ?_, ?_, ?_, ?_, ?_, ?_, ?_, ?_, ?_, ?_, ?_⟩ <;>
    (unfold State.setHeard; (try dsimp only); repeat' (first | (simp; done) | split))

@[simp] theorem State.lossOutcome_frame (s : State) (e : Entry) :
    (s.lossOutcome e).now = s.now ∧
      (s.lossOutcome e).releasedAt = s.releasedAt ∧
      (s.lossOutcome e).rx = s.rx ∧
      (s.lossOutcome e).rfw = s.rfw ∧
      (s.lossOutcome e).inq = s.inq ∧
      (s.lossOutcome e).pru = s.pru ∧
      (s.lossOutcome e).cap = s.cap ∧
      (s.lossOutcome e).srx = s.srx ∧
      (s.lossOutcome e).ply = s.ply ∧
      (s.lossOutcome e).stc = s.stc ∧
      (s.lossOutcome e).ties = s.ties ∧
      (s.lossOutcome e).pending = s.pending := by
  refine ⟨?_, ?_, ?_, ?_, ?_, ?_, ?_, ?_, ?_, ?_, ?_, ?_⟩ <;>
    (unfold State.lossOutcome; (try dsimp only); repeat' (first | (simp; done) | split))

@[simp] theorem State.recordTrip_frame (s : State) (w : Word) :
    (s.recordTrip w).now = s.now ∧
      (s.recordTrip w).releasedAt = s.releasedAt ∧
      (s.recordTrip w).atc = s.atc ∧
      (s.recordTrip w).rx = s.rx ∧
      (s.recordTrip w).rfw = s.rfw ∧
      (s.recordTrip w).inq = s.inq ∧
      (s.recordTrip w).pru = s.pru ∧
      (s.recordTrip w).cap = s.cap ∧
      (s.recordTrip w).srx = s.srx ∧
      (s.recordTrip w).ply = s.ply ∧
      (s.recordTrip w).pos = s.pos ∧
      (s.recordTrip w).stc = s.stc ∧
      (s.recordTrip w).svp = s.svp ∧
      (s.recordTrip w).ties = s.ties ∧
      (s.recordTrip w).pending = s.pending := by
  refine ⟨?_, ?_, ?_, ?_, ?_, ?_, ?_, ?_, ?_, ?_, ?_, ?_, ?_, ?_, ?_⟩ <;>
    (unfold State.recordTrip; (try dsimp only); repeat' (first | (simp; done) | split))

@[simp] theorem State.returnOutcome_frame (s : State) (e : Entry) (c : Bool) :
    (s.returnOutcome e c).now = s.now ∧
      (s.returnOutcome e c).releasedAt = s.releasedAt ∧
      (s.returnOutcome e c).rx = s.rx ∧
      (s.returnOutcome e c).rfw = s.rfw ∧
      (s.returnOutcome e c).inq = s.inq ∧
      (s.returnOutcome e c).pru = s.pru ∧
      (s.returnOutcome e c).cap = s.cap ∧
      (s.returnOutcome e c).srx = s.srx ∧
      (s.returnOutcome e c).ply = s.ply ∧
      (s.returnOutcome e c).stc = s.stc ∧
      (s.returnOutcome e c).ties = s.ties ∧
      (s.returnOutcome e c).pending = s.pending := by
  refine ⟨?_, ?_, ?_, ?_, ?_, ?_, ?_, ?_, ?_, ?_, ?_, ?_⟩ <;>
    (unfold State.returnOutcome; (try dsimp only); repeat' (first | (simp; done) | split))

@[simp] theorem State.dropHead_frame (s : State) :
    s.dropHead.now = s.now ∧
      s.dropHead.releasedAt = s.releasedAt ∧
      s.dropHead.atc = s.atc ∧
      s.dropHead.rx = s.rx ∧
      s.dropHead.rfw = s.rfw ∧
      s.dropHead.inq = s.inq ∧
      s.dropHead.pru = s.pru ∧
      s.dropHead.cap = s.cap ∧
      s.dropHead.srx = s.srx ∧
      s.dropHead.ply = s.ply ∧
      s.dropHead.pos = s.pos ∧
      s.dropHead.stc = s.stc ∧
      s.dropHead.svp = s.svp ∧
      s.dropHead.ties = s.ties ∧
      s.dropHead.pending = s.pending := by
  refine ⟨?_, ?_, ?_, ?_, ?_, ?_, ?_, ?_, ?_, ?_, ?_, ?_, ?_, ?_, ?_⟩ <;>
    (unfold State.dropHead; (try dsimp only); repeat' (first | (simp; done) | split))

@[simp] theorem State.skipHead_frame (s : State) (e : Entry) :
    (s.skipHead e).now = s.now ∧
      (s.skipHead e).releasedAt = s.releasedAt ∧
      (s.skipHead e).rx = s.rx ∧
      (s.skipHead e).rfw = s.rfw ∧
      (s.skipHead e).inq = s.inq ∧
      (s.skipHead e).pru = s.pru ∧
      (s.skipHead e).cap = s.cap ∧
      (s.skipHead e).srx = s.srx ∧
      (s.skipHead e).ply = s.ply ∧
      (s.skipHead e).stc = s.stc ∧
      (s.skipHead e).ties = s.ties ∧
      (s.skipHead e).pending = s.pending := by
  refine ⟨?_, ?_, ?_, ?_, ?_, ?_, ?_, ?_, ?_, ?_, ?_, ?_⟩ <;>
    (unfold State.skipHead; (try dsimp only); repeat' (first | (simp; done) | split))

@[simp] theorem State.timeoutHead_frame (s : State) (e : Entry) :
    (s.timeoutHead e).now = s.now ∧
      (s.timeoutHead e).releasedAt = s.releasedAt ∧
      (s.timeoutHead e).rx = s.rx ∧
      (s.timeoutHead e).rfw = s.rfw ∧
      (s.timeoutHead e).inq = s.inq ∧
      (s.timeoutHead e).pru = s.pru ∧
      (s.timeoutHead e).cap = s.cap ∧
      (s.timeoutHead e).srx = s.srx ∧
      (s.timeoutHead e).ply = s.ply ∧
      (s.timeoutHead e).stc = s.stc ∧
      (s.timeoutHead e).ties = s.ties ∧
      (s.timeoutHead e).pending = s.pending := by
  refine ⟨?_, ?_, ?_, ?_, ?_, ?_, ?_, ?_, ?_, ?_, ?_, ?_⟩ <;>
    (unfold State.timeoutHead; (try dsimp only); repeat' (first | (simp; done) | split))

@[simp] theorem State.timeoutHeads_frame (l : List Entry) (s : State) :
    (State.timeoutHeads l s).now = s.now ∧
      (State.timeoutHeads l s).releasedAt = s.releasedAt ∧
      (State.timeoutHeads l s).rx = s.rx ∧
      (State.timeoutHeads l s).rfw = s.rfw ∧
      (State.timeoutHeads l s).inq = s.inq ∧
      (State.timeoutHeads l s).pru = s.pru ∧
      (State.timeoutHeads l s).cap = s.cap ∧
      (State.timeoutHeads l s).srx = s.srx ∧
      (State.timeoutHeads l s).ply = s.ply ∧
      (State.timeoutHeads l s).stc = s.stc ∧
      (State.timeoutHeads l s).ties = s.ties ∧
      (State.timeoutHeads l s).pending = s.pending := by
  induction l generalizing s with
  | nil => simp [State.timeoutHeads]
  | cons e l ih =>
    unfold State.timeoutHeads
    split
    · simp [ih]
    · simp

@[simp] theorem State.headMatch_frame (s : State) (e : Entry) (c : Bool) :
    (s.headMatch e c).now = s.now ∧
      (s.headMatch e c).releasedAt = s.releasedAt ∧
      (s.headMatch e c).rx = s.rx ∧
      (s.headMatch e c).rfw = s.rfw ∧
      (s.headMatch e c).inq = s.inq ∧
      (s.headMatch e c).pru = s.pru ∧
      (s.headMatch e c).cap = s.cap ∧
      (s.headMatch e c).srx = s.srx ∧
      (s.headMatch e c).ply = s.ply ∧
      (s.headMatch e c).stc = s.stc ∧
      (s.headMatch e c).ties = s.ties ∧
      (s.headMatch e c).pending = s.pending := by
  refine ⟨?_, ?_, ?_, ?_, ?_, ?_, ?_, ?_, ?_, ?_, ?_, ?_⟩ <;>
    (unfold State.headMatch; (try dsimp only); repeat' (first | (simp; done) | split))

@[simp] theorem State.lateReturn_frame (s : State) (i : Identity) :
    (s.lateReturn i).now = s.now ∧
      (s.lateReturn i).releasedAt = s.releasedAt ∧
      (s.lateReturn i).atc = s.atc ∧
      (s.lateReturn i).rx = s.rx ∧
      (s.lateReturn i).rfw = s.rfw ∧
      (s.lateReturn i).inq = s.inq ∧
      (s.lateReturn i).pru = s.pru ∧
      (s.lateReturn i).cap = s.cap ∧
      (s.lateReturn i).srx = s.srx ∧
      (s.lateReturn i).ply = s.ply ∧
      (s.lateReturn i).pos = s.pos ∧
      (s.lateReturn i).stc = s.stc ∧
      (s.lateReturn i).ties = s.ties ∧
      (s.lateReturn i).pending = s.pending := by
  refine ⟨?_, ?_, ?_, ?_, ?_, ?_, ?_, ?_, ?_, ?_, ?_, ?_, ?_, ?_⟩ <;>
    (unfold State.lateReturn; (try dsimp only); repeat' (first | (simp; done) | split))

@[simp] theorem State.foreignFrame_frame (s : State) :
    s.foreignFrame.now = s.now ∧
      s.foreignFrame.releasedAt = s.releasedAt ∧
      s.foreignFrame.rx = s.rx ∧
      s.foreignFrame.cap = s.cap ∧
      s.foreignFrame.srx = s.srx ∧
      s.foreignFrame.ply = s.ply ∧
      s.foreignFrame.stc = s.stc ∧
      s.foreignFrame.ties = s.ties ∧
      s.foreignFrame.pending = s.pending := by
  refine ⟨?_, ?_, ?_, ?_, ?_, ?_, ?_, ?_, ?_⟩ <;>
    (unfold State.foreignFrame; (try dsimp only); repeat' (first | (simp; done) | split))

@[simp] theorem State.stripped_frame (s : State) (i : Identity) (c : Bool) :
    (s.stripped i c).now = s.now ∧
      (s.stripped i c).releasedAt = s.releasedAt ∧
      (s.stripped i c).rx = s.rx ∧
      (s.stripped i c).cap = s.cap ∧
      (s.stripped i c).srx = s.srx ∧
      (s.stripped i c).ply = s.ply ∧
      (s.stripped i c).stc = s.stc ∧
      (s.stripped i c).ties = s.ties ∧
      (s.stripped i c).pending = s.pending := by
  refine ⟨?_, ?_, ?_, ?_, ?_, ?_, ?_, ?_, ?_⟩
  · unfold State.stripped; dsimp only; split
    · simp [foldl_keeps (p := State.now) State.skipHead (fun b a => by simp)]
    · split <;> simp
  · unfold State.stripped; dsimp only; split
    · simp [foldl_keeps (p := State.releasedAt) State.skipHead (fun b a => by simp)]
    · split <;> simp
  · unfold State.stripped; dsimp only; split
    · simp [foldl_keeps (p := State.rx) State.skipHead (fun b a => by simp)]
    · split <;> simp
  · unfold State.stripped; dsimp only; split
    · simp [foldl_keeps (p := State.cap) State.skipHead (fun b a => by simp)]
    · split <;> simp
  · unfold State.stripped; dsimp only; split
    · simp [foldl_keeps (p := State.srx) State.skipHead (fun b a => by simp)]
    · split <;> simp
  · unfold State.stripped; dsimp only; split
    · simp [foldl_keeps (p := State.ply) State.skipHead (fun b a => by simp)]
    · split <;> simp
  · unfold State.stripped; dsimp only; split
    · simp [foldl_keeps (p := State.stc) State.skipHead (fun b a => by simp)]
    · split <;> simp
  · unfold State.stripped; dsimp only; split
    · simp [foldl_keeps (p := State.ties) State.skipHead (fun b a => by simp)]
    · split <;> simp
  · unfold State.stripped; dsimp only; split
    · simp [foldl_keeps (p := State.pending) State.skipHead (fun b a => by simp)]
    · split <;> simp

@[simp] theorem State.abandon_frame (s : State) (e : Entry) :
    (s.abandon e).now = s.now ∧
      (s.abandon e).releasedAt = s.releasedAt ∧
      (s.abandon e).atc = s.atc ∧
      (s.abandon e).rx = s.rx ∧
      (s.abandon e).rfw = s.rfw ∧
      (s.abandon e).inq = s.inq ∧
      (s.abandon e).trm = s.trm ∧
      (s.abandon e).pru = s.pru ∧
      (s.abandon e).cap = s.cap ∧
      (s.abandon e).srx = s.srx ∧
      (s.abandon e).ply = s.ply ∧
      (s.abandon e).stc = s.stc ∧
      (s.abandon e).ties = s.ties ∧
      (s.abandon e).pending = s.pending := by
  refine ⟨?_, ?_, ?_, ?_, ?_, ?_, ?_, ?_, ?_, ?_, ?_, ?_, ?_, ?_⟩ <;>
    (unfold State.abandon; (try dsimp only); repeat' (first | (simp; done) | split))

@[simp] theorem State.abandonTransit_frame (s : State) :
    s.abandonTransit.now = s.now ∧
      s.abandonTransit.releasedAt = s.releasedAt ∧
      s.abandonTransit.atc = s.atc ∧
      s.abandonTransit.rx = s.rx ∧
      s.abandonTransit.rfw = s.rfw ∧
      s.abandonTransit.inq = s.inq ∧
      s.abandonTransit.pru = s.pru ∧
      s.abandonTransit.cap = s.cap ∧
      s.abandonTransit.srx = s.srx ∧
      s.abandonTransit.ply = s.ply ∧
      s.abandonTransit.stc = s.stc ∧
      s.abandonTransit.ties = s.ties ∧
      s.abandonTransit.pending = s.pending := by
  refine ⟨?_, ?_, ?_, ?_, ?_, ?_, ?_, ?_, ?_, ?_, ?_, ?_, ?_⟩
  · simp [State.abandonTransit, foldl_keeps (p := State.now) State.abandon (fun b a => by simp)]
  · simp [State.abandonTransit, foldl_keeps (p := State.releasedAt) State.abandon (fun b a => by simp)]
  · simp [State.abandonTransit, foldl_keeps (p := State.atc) State.abandon (fun b a => by simp)]
  · simp [State.abandonTransit, foldl_keeps (p := State.rx) State.abandon (fun b a => by simp)]
  · simp [State.abandonTransit, foldl_keeps (p := State.rfw) State.abandon (fun b a => by simp)]
  · simp [State.abandonTransit, foldl_keeps (p := State.inq) State.abandon (fun b a => by simp)]
  · simp [State.abandonTransit, foldl_keeps (p := State.pru) State.abandon (fun b a => by simp)]
  · simp [State.abandonTransit, foldl_keeps (p := State.cap) State.abandon (fun b a => by simp)]
  · simp [State.abandonTransit, foldl_keeps (p := State.srx) State.abandon (fun b a => by simp)]
  · simp [State.abandonTransit, foldl_keeps (p := State.ply) State.abandon (fun b a => by simp)]
  · simp [State.abandonTransit, foldl_keeps (p := State.stc) State.abandon (fun b a => by simp)]
  · simp [State.abandonTransit, foldl_keeps (p := State.ties) State.abandon (fun b a => by simp)]
  · simp [State.abandonTransit, foldl_keeps (p := State.pending) State.abandon (fun b a => by simp)]

/-! ## Playout and reception -/

@[simp] theorem State.computeChannels_frame (s : State) (w : Assignment → Bool) :
    (s.computeChannels w).now = s.now ∧
      (s.computeChannels w).releasedAt = s.releasedAt ∧
      (s.computeChannels w).atc = s.atc ∧
      (s.computeChannels w).rx = s.rx ∧
      (s.computeChannels w).rfw = s.rfw ∧
      (s.computeChannels w).inq = s.inq ∧
      (s.computeChannels w).trm = s.trm ∧
      (s.computeChannels w).pru = s.pru ∧
      (s.computeChannels w).cap = s.cap ∧
      (s.computeChannels w).srx = s.srx ∧
      (s.computeChannels w).pos = s.pos ∧
      (s.computeChannels w).stc = s.stc ∧
      (s.computeChannels w).svp = s.svp ∧
      (s.computeChannels w).ties = s.ties ∧
      (s.computeChannels w).pending = s.pending := by
  refine ⟨?_, ?_, ?_, ?_, ?_, ?_, ?_, ?_, ?_, ?_, ?_, ?_, ?_, ?_, ?_⟩ <;>
    (unfold State.computeChannels; (try dsimp only); repeat' (first | (simp; done) | split))

@[simp] theorem State.refreshStream_frame (s : State) (n : Fin 16) :
    (s.refreshStream n).now = s.now ∧
      (s.refreshStream n).releasedAt = s.releasedAt ∧
      (s.refreshStream n).atc = s.atc ∧
      (s.refreshStream n).rx = s.rx ∧
      (s.refreshStream n).rfw = s.rfw ∧
      (s.refreshStream n).inq = s.inq ∧
      (s.refreshStream n).trm = s.trm ∧
      (s.refreshStream n).pru = s.pru ∧
      (s.refreshStream n).cap = s.cap ∧
      (s.refreshStream n).srx = s.srx ∧
      (s.refreshStream n).pos = s.pos ∧
      (s.refreshStream n).stc = s.stc ∧
      (s.refreshStream n).svp = s.svp ∧
      (s.refreshStream n).ties = s.ties ∧
      (s.refreshStream n).pending = s.pending := by
  refine ⟨?_, ?_, ?_, ?_, ?_, ?_, ?_, ?_, ?_, ?_, ?_, ?_, ?_, ?_, ?_⟩ <;>
    (unfold State.refreshStream; (try dsimp only); repeat' (first | (simp; done) | split))

@[simp] theorem State.refreshAll_frame (s : State) :
    s.refreshAll.now = s.now ∧
      s.refreshAll.releasedAt = s.releasedAt ∧
      s.refreshAll.atc = s.atc ∧
      s.refreshAll.rx = s.rx ∧
      s.refreshAll.rfw = s.rfw ∧
      s.refreshAll.inq = s.inq ∧
      s.refreshAll.trm = s.trm ∧
      s.refreshAll.pru = s.pru ∧
      s.refreshAll.cap = s.cap ∧
      s.refreshAll.srx = s.srx ∧
      s.refreshAll.pos = s.pos ∧
      s.refreshAll.stc = s.stc ∧
      s.refreshAll.svp = s.svp ∧
      s.refreshAll.ties = s.ties ∧
      s.refreshAll.pending = s.pending := by
  refine ⟨?_, ?_, ?_, ?_, ?_, ?_, ?_, ?_, ?_, ?_, ?_, ?_, ?_, ?_, ?_⟩ <;>
    (unfold State.refreshAll; (try dsimp only); repeat' (first | (simp; done) | split))

@[simp] theorem State.switchHeadphones_frame (s : State) :
    s.switchHeadphones.now = s.now ∧
      s.switchHeadphones.releasedAt = s.releasedAt ∧
      s.switchHeadphones.atc = s.atc ∧
      s.switchHeadphones.rx = s.rx ∧
      s.switchHeadphones.rfw = s.rfw ∧
      s.switchHeadphones.inq = s.inq ∧
      s.switchHeadphones.trm = s.trm ∧
      s.switchHeadphones.pru = s.pru ∧
      s.switchHeadphones.cap = s.cap ∧
      s.switchHeadphones.srx = s.srx ∧
      s.switchHeadphones.pos = s.pos ∧
      s.switchHeadphones.stc = s.stc ∧
      s.switchHeadphones.svp = s.svp ∧
      s.switchHeadphones.ties = s.ties ∧
      s.switchHeadphones.pending = s.pending := by
  refine ⟨?_, ?_, ?_, ?_, ?_, ?_, ?_, ?_, ?_, ?_, ?_, ?_, ?_, ?_, ?_⟩ <;>
    (unfold State.switchHeadphones; (try dsimp only); repeat' (first | (simp; done) | split))

@[simp] theorem State.setContext_frame (s : State) (n : Fin 16) (f : Context → Context) :
    (s.setContext n f).now = s.now ∧
      (s.setContext n f).releasedAt = s.releasedAt ∧
      (s.setContext n f).atc = s.atc ∧
      (s.setContext n f).rx = s.rx ∧
      (s.setContext n f).rfw = s.rfw ∧
      (s.setContext n f).inq = s.inq ∧
      (s.setContext n f).trm = s.trm ∧
      (s.setContext n f).pru = s.pru ∧
      (s.setContext n f).cap = s.cap ∧
      (s.setContext n f).ply = s.ply ∧
      (s.setContext n f).pos = s.pos ∧
      (s.setContext n f).stc = s.stc ∧
      (s.setContext n f).svp = s.svp ∧
      (s.setContext n f).ties = s.ties ∧
      (s.setContext n f).pending = s.pending := by
  refine ⟨?_, ?_, ?_, ?_, ?_, ?_, ?_, ?_, ?_, ?_, ?_, ?_, ?_, ?_, ?_⟩ <;>
    (unfold State.setContext; (try dsimp only); repeat' (first | (simp; done) | split))

@[simp] theorem State.toUnlocked_frame (s : State) (n : Fin 16) (a : StreamState) (o : Option Address) :
    (s.toUnlocked n a o).now = s.now ∧
      (s.toUnlocked n a o).releasedAt = s.releasedAt ∧
      (s.toUnlocked n a o).atc = s.atc ∧
      (s.toUnlocked n a o).rx = s.rx ∧
      (s.toUnlocked n a o).rfw = s.rfw ∧
      (s.toUnlocked n a o).inq = s.inq ∧
      (s.toUnlocked n a o).trm = s.trm ∧
      (s.toUnlocked n a o).pru = s.pru ∧
      (s.toUnlocked n a o).cap = s.cap ∧
      (s.toUnlocked n a o).stc = s.stc ∧
      (s.toUnlocked n a o).ties = s.ties ∧
      (s.toUnlocked n a o).pending = s.pending := by
  refine ⟨?_, ?_, ?_, ?_, ?_, ?_, ?_, ?_, ?_, ?_, ?_, ?_⟩ <;>
    (unfold State.toUnlocked; (try dsimp only); repeat' (first | (simp; done) | split))

@[simp] theorem State.claimantEvent_frame (s : State) (n : Fin 16) (a : Option Address) :
    (s.claimantEvent n a).now = s.now ∧
      (s.claimantEvent n a).releasedAt = s.releasedAt ∧
      (s.claimantEvent n a).atc = s.atc ∧
      (s.claimantEvent n a).rx = s.rx ∧
      (s.claimantEvent n a).rfw = s.rfw ∧
      (s.claimantEvent n a).inq = s.inq ∧
      (s.claimantEvent n a).trm = s.trm ∧
      (s.claimantEvent n a).pru = s.pru ∧
      (s.claimantEvent n a).cap = s.cap ∧
      (s.claimantEvent n a).stc = s.stc ∧
      (s.claimantEvent n a).ties = s.ties ∧
      (s.claimantEvent n a).pending = s.pending := by
  refine ⟨?_, ?_, ?_, ?_, ?_, ?_, ?_, ?_, ?_, ?_, ?_, ?_⟩ <;>
    (unfold State.claimantEvent; (try dsimp only); repeat' (first | (simp; done) | split))

@[simp] theorem State.offerEffects_frame (s : State) (n : Fin 16) (o : Offer) :
    (s.offerEffects n o).now = s.now ∧
      (s.offerEffects n o).releasedAt = s.releasedAt ∧
      (s.offerEffects n o).atc = s.atc ∧
      (s.offerEffects n o).rx = s.rx ∧
      (s.offerEffects n o).rfw = s.rfw ∧
      (s.offerEffects n o).inq = s.inq ∧
      (s.offerEffects n o).trm = s.trm ∧
      (s.offerEffects n o).pru = s.pru ∧
      (s.offerEffects n o).cap = s.cap ∧
      (s.offerEffects n o).srx = s.srx ∧
      (s.offerEffects n o).stc = s.stc ∧
      (s.offerEffects n o).ties = s.ties ∧
      (s.offerEffects n o).pending = s.pending := by
  refine ⟨?_, ?_, ?_, ?_, ?_, ?_, ?_, ?_, ?_, ?_, ?_, ?_, ?_⟩ <;>
    (unfold State.offerEffects; (try dsimp only); repeat' (first | (simp; done) | split))

@[simp] theorem State.offerToSrx_frame (s : State) (f : AudioFrame) :
    (s.offerToSrx f).1.now = s.now ∧
      (s.offerToSrx f).1.releasedAt = s.releasedAt ∧
      (s.offerToSrx f).1.atc = s.atc ∧
      (s.offerToSrx f).1.rx = s.rx ∧
      (s.offerToSrx f).1.rfw = s.rfw ∧
      (s.offerToSrx f).1.inq = s.inq ∧
      (s.offerToSrx f).1.trm = s.trm ∧
      (s.offerToSrx f).1.pru = s.pru ∧
      (s.offerToSrx f).1.cap = s.cap ∧
      (s.offerToSrx f).1.stc = s.stc ∧
      (s.offerToSrx f).1.ties = s.ties ∧
      (s.offerToSrx f).1.pending = s.pending := by
  refine ⟨?_, ?_, ?_, ?_, ?_, ?_, ?_, ?_, ?_, ?_, ?_, ?_⟩ <;>
    (unfold State.offerToSrx; (try dsimp only); repeat' (first | (simp; done) | split))

/-! ## Presence -/

@[simp] theorem State.resolveSource_frame (g : Image) (s : State) (i : Fin 4) :
    (State.resolveSource g s i).now = s.now ∧
      (State.resolveSource g s i).releasedAt = s.releasedAt ∧
      (State.resolveSource g s i).atc = s.atc ∧
      (State.resolveSource g s i).rx = s.rx ∧
      (State.resolveSource g s i).rfw = s.rfw ∧
      (State.resolveSource g s i).inq = s.inq ∧
      (State.resolveSource g s i).cap = s.cap ∧
      (State.resolveSource g s i).srx = s.srx ∧
      (State.resolveSource g s i).ply = s.ply ∧
      (State.resolveSource g s i).pos = s.pos ∧
      (State.resolveSource g s i).stc = s.stc ∧
      (State.resolveSource g s i).ties = s.ties ∧
      (State.resolveSource g s i).pending = s.pending := by
  refine ⟨?_, ?_, ?_, ?_, ?_, ?_, ?_, ?_, ?_, ?_, ?_, ?_, ?_⟩ <;>
    (unfold State.resolveSource; (try dsimp only); repeat' (first | (simp; done) | split))

@[simp] theorem State.resolveSubscription_frame (g : Image) (s : State) (n : Fin 16) :
    (State.resolveSubscription g s n).now = s.now ∧
      (State.resolveSubscription g s n).releasedAt = s.releasedAt ∧
      (State.resolveSubscription g s n).atc = s.atc ∧
      (State.resolveSubscription g s n).rx = s.rx ∧
      (State.resolveSubscription g s n).rfw = s.rfw ∧
      (State.resolveSubscription g s n).inq = s.inq ∧
      (State.resolveSubscription g s n).trm = s.trm ∧
      (State.resolveSubscription g s n).cap = s.cap ∧
      (State.resolveSubscription g s n).stc = s.stc ∧
      (State.resolveSubscription g s n).ties = s.ties ∧
      (State.resolveSubscription g s n).pending = s.pending := by
  refine ⟨?_, ?_, ?_, ?_, ?_, ?_, ?_, ?_, ?_, ?_, ?_⟩ <;>
    (unfold State.resolveSubscription; (try dsimp only); repeat' (first | (simp; done) | split))

@[simp] theorem State.resolveClaims_frame (s : State) :
    s.resolveClaims.now = s.now ∧
      s.resolveClaims.releasedAt = s.releasedAt ∧
      s.resolveClaims.atc = s.atc ∧
      s.resolveClaims.rx = s.rx ∧
      s.resolveClaims.rfw = s.rfw ∧
      s.resolveClaims.cap = s.cap ∧
      s.resolveClaims.stc = s.stc ∧
      s.resolveClaims.ties = s.ties ∧
      s.resolveClaims.pending = s.pending := by
  refine ⟨?_, ?_, ?_, ?_, ?_, ?_, ?_, ?_, ?_⟩
  · unfold State.resolveClaims; dsimp only; split
    · rfl
    · refine (foldl_keeps (p := State.now) _ (fun b a => by simp) _ _).trans ?_
      have h (l : List (Fin 4)) (g : Image) (t : State) : (l.foldl (State.resolveSource g) t).now = t.now :=
        foldl_keeps (p := State.now) (State.resolveSource g) (fun b a => by simp) l t
      split <;> simp [h]
  · unfold State.resolveClaims; dsimp only; split
    · rfl
    · refine (foldl_keeps (p := State.releasedAt) _ (fun b a => by simp) _ _).trans ?_
      have h (l : List (Fin 4)) (g : Image) (t : State) : (l.foldl (State.resolveSource g) t).releasedAt = t.releasedAt :=
        foldl_keeps (p := State.releasedAt) (State.resolveSource g) (fun b a => by simp) l t
      split <;> simp [h]
  · unfold State.resolveClaims; dsimp only; split
    · rfl
    · refine (foldl_keeps (p := State.atc) _ (fun b a => by simp) _ _).trans ?_
      have h (l : List (Fin 4)) (g : Image) (t : State) : (l.foldl (State.resolveSource g) t).atc = t.atc :=
        foldl_keeps (p := State.atc) (State.resolveSource g) (fun b a => by simp) l t
      split <;> simp [h]
  · unfold State.resolveClaims; dsimp only; split
    · rfl
    · refine (foldl_keeps (p := State.rx) _ (fun b a => by simp) _ _).trans ?_
      have h (l : List (Fin 4)) (g : Image) (t : State) : (l.foldl (State.resolveSource g) t).rx = t.rx :=
        foldl_keeps (p := State.rx) (State.resolveSource g) (fun b a => by simp) l t
      split <;> simp [h]
  · unfold State.resolveClaims; dsimp only; split
    · rfl
    · refine (foldl_keeps (p := State.rfw) _ (fun b a => by simp) _ _).trans ?_
      have h (l : List (Fin 4)) (g : Image) (t : State) : (l.foldl (State.resolveSource g) t).rfw = t.rfw :=
        foldl_keeps (p := State.rfw) (State.resolveSource g) (fun b a => by simp) l t
      split <;> simp [h]
  · unfold State.resolveClaims; dsimp only; split
    · rfl
    · refine (foldl_keeps (p := State.cap) _ (fun b a => by simp) _ _).trans ?_
      have h (l : List (Fin 4)) (g : Image) (t : State) : (l.foldl (State.resolveSource g) t).cap = t.cap :=
        foldl_keeps (p := State.cap) (State.resolveSource g) (fun b a => by simp) l t
      split <;> simp [h]
  · unfold State.resolveClaims; dsimp only; split
    · rfl
    · refine (foldl_keeps (p := State.stc) _ (fun b a => by simp) _ _).trans ?_
      have h (l : List (Fin 4)) (g : Image) (t : State) : (l.foldl (State.resolveSource g) t).stc = t.stc :=
        foldl_keeps (p := State.stc) (State.resolveSource g) (fun b a => by simp) l t
      split <;> simp [h]
  · unfold State.resolveClaims; dsimp only; split
    · rfl
    · refine (foldl_keeps (p := State.ties) _ (fun b a => by simp) _ _).trans ?_
      have h (l : List (Fin 4)) (g : Image) (t : State) : (l.foldl (State.resolveSource g) t).ties = t.ties :=
        foldl_keeps (p := State.ties) (State.resolveSource g) (fun b a => by simp) l t
      split <;> simp [h]
  · unfold State.resolveClaims; dsimp only; split
    · rfl
    · refine (foldl_keeps (p := State.pending) _ (fun b a => by simp) _ _).trans ?_
      have h (l : List (Fin 4)) (g : Image) (t : State) : (l.foldl (State.resolveSource g) t).pending = t.pending :=
        foldl_keeps (p := State.pending) (State.resolveSource g) (fun b a => by simp) l t
      split <;> simp [h]

@[simp] theorem State.setPeer_frame (s : State) (i : Fin 30) (p : Peer) :
    (s.setPeer i p).now = s.now ∧
      (s.setPeer i p).releasedAt = s.releasedAt ∧
      (s.setPeer i p).atc = s.atc ∧
      (s.setPeer i p).rx = s.rx ∧
      (s.setPeer i p).rfw = s.rfw ∧
      (s.setPeer i p).inq = s.inq ∧
      (s.setPeer i p).trm = s.trm ∧
      (s.setPeer i p).cap = s.cap ∧
      (s.setPeer i p).srx = s.srx ∧
      (s.setPeer i p).ply = s.ply ∧
      (s.setPeer i p).pos = s.pos ∧
      (s.setPeer i p).stc = s.stc ∧
      (s.setPeer i p).svp = s.svp ∧
      (s.setPeer i p).ties = s.ties ∧
      (s.setPeer i p).pending = s.pending := by
  refine ⟨?_, ?_, ?_, ?_, ?_, ?_, ?_, ?_, ?_, ?_, ?_, ?_, ?_, ?_, ?_⟩ <;>
    (unfold State.setPeer; (try dsimp only); repeat' (first | (simp; done) | split))

@[simp] theorem State.departure_frame (s : State) (i : Fin 30) :
    (s.departure i).now = s.now ∧
      (s.departure i).releasedAt = s.releasedAt ∧
      (s.departure i).atc = s.atc ∧
      (s.departure i).rx = s.rx ∧
      (s.departure i).rfw = s.rfw ∧
      (s.departure i).cap = s.cap ∧
      (s.departure i).stc = s.stc ∧
      (s.departure i).ties = s.ties ∧
      (s.departure i).pending = s.pending := by
  refine ⟨?_, ?_, ?_, ?_, ?_, ?_, ?_, ?_, ?_⟩ <;>
    (unfold State.departure; (try dsimp only); repeat' (first | (simp; done) | split))

@[simp] theorem State.takeAnnounce_frame (s : State) (f : AnnounceFrame) (i : Fin 30) :
    (s.takeAnnounce f i).now = s.now ∧
      (s.takeAnnounce f i).releasedAt = s.releasedAt ∧
      (s.takeAnnounce f i).atc = s.atc ∧
      (s.takeAnnounce f i).rx = s.rx ∧
      (s.takeAnnounce f i).rfw = s.rfw ∧
      (s.takeAnnounce f i).cap = s.cap ∧
      (s.takeAnnounce f i).stc = s.stc ∧
      (s.takeAnnounce f i).ties = s.ties ∧
      (s.takeAnnounce f i).pending = s.pending := by
  refine ⟨?_, ?_, ?_, ?_, ?_, ?_, ?_, ?_, ?_⟩ <;>
    (unfold State.takeAnnounce; (try dsimp only); repeat' (first | (simp; done) | split))

@[simp] theorem State.offerToPru_frame (s : State) (f : AnnounceFrame) :
    (s.offerToPru f).1.now = s.now ∧
      (s.offerToPru f).1.releasedAt = s.releasedAt ∧
      (s.offerToPru f).1.atc = s.atc ∧
      (s.offerToPru f).1.rx = s.rx ∧
      (s.offerToPru f).1.rfw = s.rfw ∧
      (s.offerToPru f).1.cap = s.cap ∧
      (s.offerToPru f).1.stc = s.stc ∧
      (s.offerToPru f).1.ties = s.ties ∧
      (s.offerToPru f).1.pending = s.pending := by
  refine ⟨?_, ?_, ?_, ?_, ?_, ?_, ?_, ?_, ?_⟩ <;>
    (unfold State.offerToPru; (try dsimp only); repeat' (first | (simp; done) | split))

@[simp] theorem State.expirePeer_frame (s : State) (i : Fin 30) :
    (s.expirePeer i).now = s.now ∧
      (s.expirePeer i).releasedAt = s.releasedAt ∧
      (s.expirePeer i).atc = s.atc ∧
      (s.expirePeer i).rx = s.rx ∧
      (s.expirePeer i).cap = s.cap ∧
      (s.expirePeer i).stc = s.stc ∧
      (s.expirePeer i).ties = s.ties ∧
      (s.expirePeer i).pending = s.pending := by
  refine ⟨?_, ?_, ?_, ?_, ?_, ?_, ?_, ?_⟩ <;>
    (unfold State.expirePeer; (try dsimp only); repeat' (first | (simp; done) | split))

@[simp] theorem State.clearPresence_frame (s : State) :
    s.clearPresence.now = s.now ∧
      s.clearPresence.releasedAt = s.releasedAt ∧
      s.clearPresence.atc = s.atc ∧
      s.clearPresence.rx = s.rx ∧
      s.clearPresence.rfw = s.rfw ∧
      s.clearPresence.inq = s.inq ∧
      s.clearPresence.trm = s.trm ∧
      s.clearPresence.cap = s.cap ∧
      s.clearPresence.srx = s.srx ∧
      s.clearPresence.ply = s.ply ∧
      s.clearPresence.pos = s.pos ∧
      s.clearPresence.stc = s.stc ∧
      s.clearPresence.svp = s.svp ∧
      s.clearPresence.ties = s.ties ∧
      s.clearPresence.pending = s.pending := by
  refine ⟨?_, ?_, ?_, ?_, ?_, ?_, ?_, ?_, ?_, ?_, ?_, ?_, ?_, ?_, ?_⟩ <;>
    (unfold State.clearPresence; (try dsimp only); repeat' (first | (simp; done) | split))

/-! ## Cues and keys -/

@[simp] theorem State.buildCue_frame (s : State) (d : Address) (c : CueCode) (p : BitVec 4) :
    (s.buildCue d c p).now = s.now ∧
      (s.buildCue d c p).releasedAt = s.releasedAt ∧
      (s.buildCue d c p).atc = s.atc ∧
      (s.buildCue d c p).rx = s.rx ∧
      (s.buildCue d c p).rfw = s.rfw ∧
      (s.buildCue d c p).trm = s.trm ∧
      (s.buildCue d c p).pru = s.pru ∧
      (s.buildCue d c p).cap = s.cap ∧
      (s.buildCue d c p).srx = s.srx ∧
      (s.buildCue d c p).ply = s.ply ∧
      (s.buildCue d c p).stc = s.stc ∧
      (s.buildCue d c p).ties = s.ties ∧
      (s.buildCue d c p).pending = s.pending := by
  refine ⟨?_, ?_, ?_, ?_, ?_, ?_, ?_, ?_, ?_, ?_, ?_, ?_, ?_⟩ <;>
    (unfold State.buildCue; (try dsimp only); repeat' (first | (simp; done) | split))

@[simp] theorem State.pressTalk_frame (s : State) (g : Image) (p : Fin 4) :
    (s.pressTalk g p).now = s.now ∧
      (s.pressTalk g p).releasedAt = s.releasedAt ∧
      (s.pressTalk g p).atc = s.atc ∧
      (s.pressTalk g p).rx = s.rx ∧
      (s.pressTalk g p).rfw = s.rfw ∧
      (s.pressTalk g p).trm = s.trm ∧
      (s.pressTalk g p).pru = s.pru ∧
      (s.pressTalk g p).cap = s.cap ∧
      (s.pressTalk g p).srx = s.srx ∧
      (s.pressTalk g p).ply = s.ply ∧
      (s.pressTalk g p).stc = s.stc ∧
      (s.pressTalk g p).ties = s.ties ∧
      (s.pressTalk g p).pending = s.pending := by
  refine ⟨?_, ?_, ?_, ?_, ?_, ?_, ?_, ?_, ?_, ?_, ?_, ?_, ?_⟩ <;>
    (unfold State.pressTalk; (try dsimp only); repeat' (first | (simp; done) | split))

@[simp] theorem State.releaseTalk_frame (s : State) (g : Image) (p : Fin 4) :
    (s.releaseTalk g p).now = s.now ∧
      (s.releaseTalk g p).releasedAt = s.releasedAt ∧
      (s.releaseTalk g p).atc = s.atc ∧
      (s.releaseTalk g p).rx = s.rx ∧
      (s.releaseTalk g p).rfw = s.rfw ∧
      (s.releaseTalk g p).trm = s.trm ∧
      (s.releaseTalk g p).pru = s.pru ∧
      (s.releaseTalk g p).cap = s.cap ∧
      (s.releaseTalk g p).srx = s.srx ∧
      (s.releaseTalk g p).ply = s.ply ∧
      (s.releaseTalk g p).stc = s.stc ∧
      (s.releaseTalk g p).ties = s.ties ∧
      (s.releaseTalk g p).pending = s.pending := by
  refine ⟨?_, ?_, ?_, ?_, ?_, ?_, ?_, ?_, ?_, ?_, ?_, ?_, ?_⟩ <;>
    (unfold State.releaseTalk; (try dsimp only); repeat' (first | (simp; done) | split))

@[simp] theorem State.pressAck_frame (s : State) (g : Image) (p : Fin 4) :
    (s.pressAck g p).now = s.now ∧
      (s.pressAck g p).releasedAt = s.releasedAt ∧
      (s.pressAck g p).atc = s.atc ∧
      (s.pressAck g p).rx = s.rx ∧
      (s.pressAck g p).rfw = s.rfw ∧
      (s.pressAck g p).inq = s.inq ∧
      (s.pressAck g p).trm = s.trm ∧
      (s.pressAck g p).pru = s.pru ∧
      (s.pressAck g p).cap = s.cap ∧
      (s.pressAck g p).srx = s.srx ∧
      (s.pressAck g p).ply = s.ply ∧
      (s.pressAck g p).stc = s.stc ∧
      (s.pressAck g p).svp = s.svp ∧
      (s.pressAck g p).ties = s.ties ∧
      (s.pressAck g p).pending = s.pending := by
  refine ⟨?_, ?_, ?_, ?_, ?_, ?_, ?_, ?_, ?_, ?_, ?_, ?_, ?_, ?_, ?_⟩ <;>
    (unfold State.pressAck; (try dsimp only); repeat' (first | (simp; done) | split))

@[simp] theorem State.venueKey_frame (s : State) (g : Image) (i : Fin 16) (p : Bool) :
    (s.venueKey g i p).now = s.now ∧
      (s.venueKey g i p).releasedAt = s.releasedAt ∧
      (s.venueKey g i p).atc = s.atc ∧
      (s.venueKey g i p).rx = s.rx ∧
      (s.venueKey g i p).rfw = s.rfw ∧
      (s.venueKey g i p).trm = s.trm ∧
      (s.venueKey g i p).pru = s.pru ∧
      (s.venueKey g i p).cap = s.cap ∧
      (s.venueKey g i p).srx = s.srx ∧
      (s.venueKey g i p).ply = s.ply ∧
      (s.venueKey g i p).stc = s.stc ∧
      (s.venueKey g i p).ties = s.ties ∧
      (s.venueKey g i p).pending = s.pending := by
  refine ⟨?_, ?_, ?_, ?_, ?_, ?_, ?_, ?_, ?_, ?_, ?_, ?_, ?_⟩ <;>
    (unfold State.venueKey; (try dsimp only); repeat' (first | (simp; done) | split))

@[simp] theorem State.galleryKey_frame (s : State) (g : Image) (i : Fin 16) (p : Bool) :
    (s.galleryKey g i p).now = s.now ∧
      (s.galleryKey g i p).releasedAt = s.releasedAt ∧
      (s.galleryKey g i p).atc = s.atc ∧
      (s.galleryKey g i p).rx = s.rx ∧
      (s.galleryKey g i p).rfw = s.rfw ∧
      (s.galleryKey g i p).trm = s.trm ∧
      (s.galleryKey g i p).pru = s.pru ∧
      (s.galleryKey g i p).cap = s.cap ∧
      (s.galleryKey g i p).srx = s.srx ∧
      (s.galleryKey g i p).ply = s.ply ∧
      (s.galleryKey g i p).stc = s.stc ∧
      (s.galleryKey g i p).ties = s.ties ∧
      (s.galleryKey g i p).pending = s.pending := by
  refine ⟨?_, ?_, ?_, ?_, ?_, ?_, ?_, ?_, ?_, ?_, ?_, ?_, ?_⟩ <;>
    (unfold State.galleryKey; (try dsimp only); repeat' (first | (simp; done) | split))

@[simp] theorem State.keyEvent_frame (s : State) (g : Image) (i : Fin 16) (p : Bool) :
    (s.keyEvent g i p).now = s.now ∧
      (s.keyEvent g i p).releasedAt = s.releasedAt ∧
      (s.keyEvent g i p).atc = s.atc ∧
      (s.keyEvent g i p).rx = s.rx ∧
      (s.keyEvent g i p).rfw = s.rfw ∧
      (s.keyEvent g i p).trm = s.trm ∧
      (s.keyEvent g i p).pru = s.pru ∧
      (s.keyEvent g i p).cap = s.cap ∧
      (s.keyEvent g i p).srx = s.srx ∧
      (s.keyEvent g i p).ply = s.ply ∧
      (s.keyEvent g i p).stc = s.stc ∧
      (s.keyEvent g i p).ties = s.ties ∧
      (s.keyEvent g i p).pending = s.pending := by
  refine ⟨?_, ?_, ?_, ?_, ?_, ?_, ?_, ?_, ?_, ?_, ?_, ?_, ?_⟩ <;>
    (unfold State.keyEvent; (try dsimp only); repeat' (first | (simp; done) | split))

@[simp] theorem State.judgeInput_frame (g : Image) (raw : BitVec 16) (s : State) (i : Fin 16) :
    (State.judgeInput g raw s i).now = s.now ∧
      (State.judgeInput g raw s i).releasedAt = s.releasedAt ∧
      (State.judgeInput g raw s i).atc = s.atc ∧
      (State.judgeInput g raw s i).rx = s.rx ∧
      (State.judgeInput g raw s i).rfw = s.rfw ∧
      (State.judgeInput g raw s i).trm = s.trm ∧
      (State.judgeInput g raw s i).pru = s.pru ∧
      (State.judgeInput g raw s i).cap = s.cap ∧
      (State.judgeInput g raw s i).srx = s.srx ∧
      (State.judgeInput g raw s i).ply = s.ply ∧
      (State.judgeInput g raw s i).stc = s.stc ∧
      (State.judgeInput g raw s i).ties = s.ties ∧
      (State.judgeInput g raw s i).pending = s.pending := by
  refine ⟨?_, ?_, ?_, ?_, ?_, ?_, ?_, ?_, ?_, ?_, ?_, ?_, ?_⟩ <;>
    (unfold State.judgeInput; (try dsimp only); repeat' (first | (simp; done) | split))

@[simp] theorem State.judgeScan_frame (s : State) (g : Image) (raw : BitVec 16) :
    (s.judgeScan g raw).now = s.now ∧
      (s.judgeScan g raw).releasedAt = s.releasedAt ∧
      (s.judgeScan g raw).atc = s.atc ∧
      (s.judgeScan g raw).rx = s.rx ∧
      (s.judgeScan g raw).rfw = s.rfw ∧
      (s.judgeScan g raw).trm = s.trm ∧
      (s.judgeScan g raw).pru = s.pru ∧
      (s.judgeScan g raw).cap = s.cap ∧
      (s.judgeScan g raw).srx = s.srx ∧
      (s.judgeScan g raw).ply = s.ply ∧
      (s.judgeScan g raw).stc = s.stc ∧
      (s.judgeScan g raw).ties = s.ties ∧
      (s.judgeScan g raw).pending = s.pending := by
  refine ⟨?_, ?_, ?_, ?_, ?_, ?_, ?_, ?_, ?_, ?_, ?_, ?_, ?_⟩
  · exact foldl_keeps (p := State.now) _ (fun b a => by simp) _ _
  · exact foldl_keeps (p := State.releasedAt) _ (fun b a => by simp) _ _
  · exact foldl_keeps (p := State.atc) _ (fun b a => by simp) _ _
  · exact foldl_keeps (p := State.rx) _ (fun b a => by simp) _ _
  · exact foldl_keeps (p := State.rfw) _ (fun b a => by simp) _ _
  · exact foldl_keeps (p := State.trm) _ (fun b a => by simp) _ _
  · exact foldl_keeps (p := State.pru) _ (fun b a => by simp) _ _
  · exact foldl_keeps (p := State.cap) _ (fun b a => by simp) _ _
  · exact foldl_keeps (p := State.srx) _ (fun b a => by simp) _ _
  · exact foldl_keeps (p := State.ply) _ (fun b a => by simp) _ _
  · exact foldl_keeps (p := State.stc) _ (fun b a => by simp) _ _
  · exact foldl_keeps (p := State.ties) _ (fun b a => by simp) _ _
  · exact foldl_keeps (p := State.pending) _ (fun b a => by simp) _ _

@[simp] theorem State.keyScan_frame (s : State) (raw : BitVec 16) :
    (s.keyScan raw).now = s.now ∧
      (s.keyScan raw).releasedAt = s.releasedAt ∧
      (s.keyScan raw).atc = s.atc ∧
      (s.keyScan raw).rx = s.rx ∧
      (s.keyScan raw).trm = s.trm ∧
      (s.keyScan raw).pru = s.pru ∧
      (s.keyScan raw).cap = s.cap ∧
      (s.keyScan raw).srx = s.srx ∧
      (s.keyScan raw).ply = s.ply ∧
      (s.keyScan raw).stc = s.stc ∧
      (s.keyScan raw).ties = s.ties ∧
      (s.keyScan raw).pending = s.pending := by
  refine ⟨?_, ?_, ?_, ?_, ?_, ?_, ?_, ?_, ?_, ?_, ?_, ?_⟩ <;>
    (unfold State.keyScan; (try dsimp only); repeat' (first | (simp; done) | split))

@[simp] theorem State.venueCue_frame (s : State) (f : CueFrame) :
    (s.venueCue f).now = s.now ∧
      (s.venueCue f).releasedAt = s.releasedAt ∧
      (s.venueCue f).atc = s.atc ∧
      (s.venueCue f).rx = s.rx ∧
      (s.venueCue f).rfw = s.rfw ∧
      (s.venueCue f).inq = s.inq ∧
      (s.venueCue f).trm = s.trm ∧
      (s.venueCue f).pru = s.pru ∧
      (s.venueCue f).cap = s.cap ∧
      (s.venueCue f).srx = s.srx ∧
      (s.venueCue f).ply = s.ply ∧
      (s.venueCue f).stc = s.stc ∧
      (s.venueCue f).svp = s.svp ∧
      (s.venueCue f).ties = s.ties ∧
      (s.venueCue f).pending = s.pending := by
  refine ⟨?_, ?_, ?_, ?_, ?_, ?_, ?_, ?_, ?_, ?_, ?_, ?_, ?_, ?_, ?_⟩ <;>
    (unfold State.venueCue; (try dsimp only); repeat' (first | (simp; done) | split))

@[simp] theorem State.galleryCue_frame (s : State) (g : Image) (f : CueFrame) :
    (s.galleryCue g f).now = s.now ∧
      (s.galleryCue g f).releasedAt = s.releasedAt ∧
      (s.galleryCue g f).atc = s.atc ∧
      (s.galleryCue g f).rx = s.rx ∧
      (s.galleryCue g f).rfw = s.rfw ∧
      (s.galleryCue g f).inq = s.inq ∧
      (s.galleryCue g f).trm = s.trm ∧
      (s.galleryCue g f).pru = s.pru ∧
      (s.galleryCue g f).cap = s.cap ∧
      (s.galleryCue g f).srx = s.srx ∧
      (s.galleryCue g f).ply = s.ply ∧
      (s.galleryCue g f).stc = s.stc ∧
      (s.galleryCue g f).svp = s.svp ∧
      (s.galleryCue g f).ties = s.ties ∧
      (s.galleryCue g f).pending = s.pending := by
  refine ⟨?_, ?_, ?_, ?_, ?_, ?_, ?_, ?_, ?_, ?_, ?_, ?_, ?_, ?_, ?_⟩ <;>
    (unfold State.galleryCue; (try dsimp only); repeat' (first | (simp; done) | split))

@[simp] theorem State.takeCue_frame (s : State) (g : Image) (f : CueFrame) (i : Fin 30) :
    (s.takeCue g f i).1.now = s.now ∧
      (s.takeCue g f i).1.releasedAt = s.releasedAt ∧
      (s.takeCue g f i).1.atc = s.atc ∧
      (s.takeCue g f i).1.rx = s.rx ∧
      (s.takeCue g f i).1.rfw = s.rfw ∧
      (s.takeCue g f i).1.inq = s.inq ∧
      (s.takeCue g f i).1.trm = s.trm ∧
      (s.takeCue g f i).1.pru = s.pru ∧
      (s.takeCue g f i).1.cap = s.cap ∧
      (s.takeCue g f i).1.srx = s.srx ∧
      (s.takeCue g f i).1.ply = s.ply ∧
      (s.takeCue g f i).1.stc = s.stc ∧
      (s.takeCue g f i).1.ties = s.ties ∧
      (s.takeCue g f i).1.pending = s.pending := by
  refine ⟨?_, ?_, ?_, ?_, ?_, ?_, ?_, ?_, ?_, ?_, ?_, ?_, ?_, ?_⟩ <;>
    (unfold State.takeCue; (try dsimp only); repeat' (first | (simp; done) | split))

@[simp] theorem State.offerToPos_frame (s : State) (f : CueFrame) :
    (s.offerToPos f).1.now = s.now ∧
      (s.offerToPos f).1.releasedAt = s.releasedAt ∧
      (s.offerToPos f).1.atc = s.atc ∧
      (s.offerToPos f).1.rx = s.rx ∧
      (s.offerToPos f).1.rfw = s.rfw ∧
      (s.offerToPos f).1.inq = s.inq ∧
      (s.offerToPos f).1.trm = s.trm ∧
      (s.offerToPos f).1.pru = s.pru ∧
      (s.offerToPos f).1.cap = s.cap ∧
      (s.offerToPos f).1.srx = s.srx ∧
      (s.offerToPos f).1.ply = s.ply ∧
      (s.offerToPos f).1.stc = s.stc ∧
      (s.offerToPos f).1.ties = s.ties ∧
      (s.offerToPos f).1.pending = s.pending := by
  refine ⟨?_, ?_, ?_, ?_, ?_, ?_, ?_, ?_, ?_, ?_, ?_, ?_, ?_, ?_⟩ <;>
    (unfold State.offerToPos; (try dsimp only); repeat' (first | (simp; done) | split))

@[simp] theorem State.toggleFlash_frame (s : State) :
    s.toggleFlash.now = s.now ∧
      s.toggleFlash.releasedAt = s.releasedAt ∧
      s.toggleFlash.atc = s.atc ∧
      s.toggleFlash.rx = s.rx ∧
      s.toggleFlash.rfw = s.rfw ∧
      s.toggleFlash.inq = s.inq ∧
      s.toggleFlash.trm = s.trm ∧
      s.toggleFlash.pru = s.pru ∧
      s.toggleFlash.cap = s.cap ∧
      s.toggleFlash.srx = s.srx ∧
      s.toggleFlash.ply = s.ply ∧
      s.toggleFlash.stc = s.stc ∧
      s.toggleFlash.svp = s.svp ∧
      s.toggleFlash.ties = s.ties ∧
      s.toggleFlash.pending = s.pending := by
  refine ⟨?_, ?_, ?_, ?_, ?_, ?_, ?_, ?_, ?_, ?_, ?_, ?_, ?_, ?_, ?_⟩ <;>
    (unfold State.toggleFlash; (try dsimp only); repeat' (first | (simp; done) | split))

/-! ## Forwarding -/

@[simp] theorem State.appendRepeat_frame (s : State) (o : List Octet) :
    (s.appendRepeat o).now = s.now ∧
      (s.appendRepeat o).releasedAt = s.releasedAt ∧
      (s.appendRepeat o).atc = s.atc ∧
      (s.appendRepeat o).rx = s.rx ∧
      (s.appendRepeat o).inq = s.inq ∧
      (s.appendRepeat o).trm = s.trm ∧
      (s.appendRepeat o).pru = s.pru ∧
      (s.appendRepeat o).cap = s.cap ∧
      (s.appendRepeat o).srx = s.srx ∧
      (s.appendRepeat o).ply = s.ply ∧
      (s.appendRepeat o).pos = s.pos ∧
      (s.appendRepeat o).stc = s.stc ∧
      (s.appendRepeat o).ties = s.ties ∧
      (s.appendRepeat o).pending = s.pending := by
  refine ⟨?_, ?_, ?_, ?_, ?_, ?_, ?_, ?_, ?_, ?_, ?_, ?_, ?_, ?_⟩ <;>
    (unfold State.appendRepeat; (try dsimp only); repeat' (first | (simp; done) | split))

@[simp] theorem State.offerToCopier_frame (s : State) (f : Frame) :
    (s.offerToCopier f).1.now = s.now ∧
      (s.offerToCopier f).1.releasedAt = s.releasedAt ∧
      (s.offerToCopier f).1.atc = s.atc ∧
      (s.offerToCopier f).1.rx = s.rx ∧
      (s.offerToCopier f).1.rfw = s.rfw ∧
      (s.offerToCopier f).1.cap = s.cap ∧
      (s.offerToCopier f).1.stc = s.stc ∧
      (s.offerToCopier f).1.ties = s.ties ∧
      (s.offerToCopier f).1.pending = s.pending := by
  cases f <;> simp [State.offerToCopier]

@[simp] theorem State.takeFrame_frame (s : State) (o : List Octet) :
    (s.takeFrame o).now = s.now ∧
      (s.takeFrame o).releasedAt = s.releasedAt ∧
      (s.takeFrame o).rx = s.rx ∧
      (s.takeFrame o).cap = s.cap ∧
      (s.takeFrame o).stc = s.stc ∧
      (s.takeFrame o).ties = s.ties ∧
      (s.takeFrame o).pending = s.pending := by
  refine ⟨?_, ?_, ?_, ?_, ?_, ?_, ?_⟩ <;>
    (unfold State.takeFrame; (try dsimp only); repeat' (first | (simp; done) | split))

@[simp] theorem State.judgeFrame_frame (s : State) (r : RxFrame) :
    (s.judgeFrame r).now = s.now ∧
      (s.judgeFrame r).releasedAt = s.releasedAt ∧
      (s.judgeFrame r).rx = s.rx ∧
      (s.judgeFrame r).cap = s.cap ∧
      (s.judgeFrame r).stc = s.stc ∧
      (s.judgeFrame r).ties = s.ties ∧
      (s.judgeFrame r).pending = s.pending := by
  refine ⟨?_, ?_, ?_, ?_, ?_, ?_, ?_⟩ <;>
    (unfold State.judgeFrame; (try dsimp only); repeat' (first | (simp; done) | split))

@[simp] theorem State.arrival_frame (s : State) :
    s.arrival.now = s.now ∧
      s.arrival.releasedAt = s.releasedAt ∧
      s.arrival.cap = s.cap ∧
      s.arrival.stc = s.stc ∧
      s.arrival.ties = s.ties ∧
      s.arrival.pending = s.pending := by
  refine ⟨?_, ?_, ?_, ?_, ?_, ?_⟩ <;>
    (unfold State.arrival; (try dsimp only); repeat' (first | (simp; done) | split))

@[simp] theorem State.txReady_frame (s : State) :
    s.txReady.now = s.now ∧
      s.txReady.releasedAt = s.releasedAt ∧
      s.txReady.atc = s.atc ∧
      s.txReady.rx = s.rx ∧
      s.txReady.inq = s.inq ∧
      s.txReady.trm = s.trm ∧
      s.txReady.pru = s.pru ∧
      s.txReady.cap = s.cap ∧
      s.txReady.srx = s.srx ∧
      s.txReady.ply = s.ply ∧
      s.txReady.pos = s.pos ∧
      s.txReady.stc = s.stc ∧
      s.txReady.svp = s.svp ∧
      s.txReady.ties = s.ties ∧
      s.txReady.pending = s.pending := by
  refine ⟨?_, ?_, ?_, ?_, ?_, ?_, ?_, ?_, ?_, ?_, ?_, ?_, ?_, ?_, ?_⟩ <;>
    (unfold State.txReady; (try dsimp only); repeat' (first | (simp; done) | split))

@[simp] theorem State.startRepeat_frame (s : State) :
    s.startRepeat.now = s.now ∧
      s.startRepeat.releasedAt = s.releasedAt ∧
      s.startRepeat.atc = s.atc ∧
      s.startRepeat.rx = s.rx ∧
      s.startRepeat.inq = s.inq ∧
      s.startRepeat.trm = s.trm ∧
      s.startRepeat.pru = s.pru ∧
      s.startRepeat.cap = s.cap ∧
      s.startRepeat.srx = s.srx ∧
      s.startRepeat.ply = s.ply ∧
      s.startRepeat.pos = s.pos ∧
      s.startRepeat.stc = s.stc ∧
      s.startRepeat.ties = s.ties ∧
      s.startRepeat.pending = s.pending := by
  refine ⟨?_, ?_, ?_, ?_, ?_, ?_, ?_, ?_, ?_, ?_, ?_, ?_, ?_, ?_⟩ <;>
    (unfold State.startRepeat; (try dsimp only); repeat' (first | (simp; done) | split))

@[simp] theorem State.startOwn_frame (s : State) (f : Frame) :
    (s.startOwn f).now = s.now ∧
      (s.startOwn f).releasedAt = s.releasedAt ∧
      (s.startOwn f).atc = s.atc ∧
      (s.startOwn f).rx = s.rx ∧
      (s.startOwn f).pru = s.pru ∧
      (s.startOwn f).cap = s.cap ∧
      (s.startOwn f).srx = s.srx ∧
      (s.startOwn f).ply = s.ply ∧
      (s.startOwn f).pos = s.pos ∧
      (s.startOwn f).stc = s.stc ∧
      (s.startOwn f).ties = s.ties ∧
      (s.startOwn f).pending = s.pending := by
  refine ⟨?_, ?_, ?_, ?_, ?_, ?_, ?_, ?_, ?_, ?_, ?_, ?_⟩ <;>
    (unfold State.startOwn; (try dsimp only); repeat' (first | (simp; done) | split))

@[simp] theorem State.startChosen_frame (s : State) :
    s.startChosen.now = s.now ∧
      s.startChosen.releasedAt = s.releasedAt ∧
      s.startChosen.atc = s.atc ∧
      s.startChosen.rx = s.rx ∧
      s.startChosen.pru = s.pru ∧
      s.startChosen.cap = s.cap ∧
      s.startChosen.srx = s.srx ∧
      s.startChosen.ply = s.ply ∧
      s.startChosen.pos = s.pos ∧
      s.startChosen.stc = s.stc ∧
      s.startChosen.ties = s.ties ∧
      s.startChosen.pending = s.pending := by
  refine ⟨?_, ?_, ?_, ?_, ?_, ?_, ?_, ?_, ?_, ?_, ?_, ?_⟩ <;>
    (unfold State.startChosen; (try dsimp only); repeat' (first | (simp; done) | split))

@[simp] theorem State.endFrame_frame (s : State) :
    s.endFrame.now = s.now ∧
      s.endFrame.releasedAt = s.releasedAt ∧
      s.endFrame.rx = s.rx ∧
      s.endFrame.inq = s.inq ∧
      s.endFrame.trm = s.trm ∧
      s.endFrame.pru = s.pru ∧
      s.endFrame.cap = s.cap ∧
      s.endFrame.srx = s.srx ∧
      s.endFrame.ply = s.ply ∧
      s.endFrame.pos = s.pos ∧
      s.endFrame.stc = s.stc ∧
      s.endFrame.svp = s.svp ∧
      s.endFrame.ties = s.ties ∧
      s.endFrame.pending = s.pending := by
  refine ⟨?_, ?_, ?_, ?_, ?_, ?_, ?_, ?_, ?_, ?_, ?_, ?_, ?_, ?_⟩ <;>
    (unfold State.endFrame; (try dsimp only); repeat' (first | (simp; done) | split))

/-! ## Leaving and the receive line -/

@[simp] theorem State.restartClearing_frame (s : State) :
    s.restartClearing.now = s.now ∧
      s.restartClearing.releasedAt = s.releasedAt ∧
      s.restartClearing.atc = s.atc ∧
      s.restartClearing.rx = s.rx ∧
      s.restartClearing.rfw = s.rfw ∧
      s.restartClearing.inq = s.inq ∧
      s.restartClearing.trm = s.trm ∧
      s.restartClearing.cap = s.cap ∧
      s.restartClearing.stc = s.stc ∧
      s.restartClearing.ties = s.ties ∧
      s.restartClearing.pending = s.pending := by
  refine ⟨?_, ?_, ?_, ?_, ?_, ?_, ?_, ?_, ?_, ?_, ?_⟩
  · simp only [State.restartClearing, State.clearPositions_frame]
    exact (foldl_keeps (p := State.now) _ (fun b a => by simp) _ _).trans (by simp)
  · simp only [State.restartClearing, State.clearPositions_frame]
    exact (foldl_keeps (p := State.releasedAt) _ (fun b a => by simp) _ _).trans (by simp)
  · simp only [State.restartClearing, State.clearPositions_frame]
    exact (foldl_keeps (p := State.atc) _ (fun b a => by simp) _ _).trans (by simp)
  · simp only [State.restartClearing, State.clearPositions_frame]
    exact (foldl_keeps (p := State.rx) _ (fun b a => by simp) _ _).trans (by simp)
  · simp only [State.restartClearing, State.clearPositions_frame]
    exact (foldl_keeps (p := State.rfw) _ (fun b a => by simp) _ _).trans (by simp)
  · simp only [State.restartClearing, State.clearPositions_frame]
    exact (foldl_keeps (p := State.inq) _ (fun b a => by simp) _ _).trans (by simp)
  · simp only [State.restartClearing, State.clearPositions_frame]
    exact (foldl_keeps (p := State.trm) _ (fun b a => by simp) _ _).trans (by simp)
  · simp only [State.restartClearing, State.clearPositions_frame]
    exact (foldl_keeps (p := State.cap) _ (fun b a => by simp) _ _).trans (by simp)
  · simp only [State.restartClearing, State.clearPositions_frame]
    exact (foldl_keeps (p := State.stc) _ (fun b a => by simp) _ _).trans (by simp)
  · simp only [State.restartClearing, State.clearPositions_frame]
    exact (foldl_keeps (p := State.ties) _ (fun b a => by simp) _ _).trans (by simp)
  · simp only [State.restartClearing, State.clearPositions_frame]
    exact (foldl_keeps (p := State.pending) _ (fun b a => by simp) _ _).trans (by simp)

@[simp] theorem State.discardSlot_frame (s : State) :
    s.discardSlot.now = s.now ∧
      s.discardSlot.releasedAt = s.releasedAt ∧
      s.discardSlot.atc = s.atc ∧
      s.discardSlot.rx = s.rx ∧
      s.discardSlot.rfw = s.rfw ∧
      s.discardSlot.trm = s.trm ∧
      s.discardSlot.pru = s.pru ∧
      s.discardSlot.cap = s.cap ∧
      s.discardSlot.srx = s.srx ∧
      s.discardSlot.ply = s.ply ∧
      s.discardSlot.pos = s.pos ∧
      s.discardSlot.stc = s.stc ∧
      s.discardSlot.ties = s.ties ∧
      s.discardSlot.pending = s.pending := by
  refine ⟨?_, ?_, ?_, ?_, ?_, ?_, ?_, ?_, ?_, ?_, ?_, ?_, ?_, ?_⟩ <;>
    (unfold State.discardSlot; (try dsimp only); repeat' (first | (simp; done) | split))

@[simp] theorem State.release_frame (s : State) :
    s.release.now = s.now ∧
      s.release.releasedAt = s.releasedAt ∧
      s.release.cap = s.cap ∧
      s.release.stc = s.stc ∧
      s.release.ties = s.ties ∧
      s.release.pending = s.pending := by
  refine ⟨?_, ?_, ?_, ?_, ?_, ?_⟩ <;>
    (unfold State.release; (try dsimp only); repeat' (first | (simp; done) | split))

@[simp] theorem State.leaveLimit_frame (s : State) :
    s.leaveLimit.now = s.now ∧
      s.leaveLimit.releasedAt = s.releasedAt ∧
      s.leaveLimit.cap = s.cap ∧
      s.leaveLimit.stc = s.stc ∧
      s.leaveLimit.ties = s.ties ∧
      s.leaveLimit.pending = s.pending := by
  refine ⟨?_, ?_, ?_, ?_, ?_, ?_⟩ <;>
    (unfold State.leaveLimit; (try dsimp only); repeat' (first | (simp; done) | split))

@[simp] theorem State.assemble_frame (s : State) (e : LineEvent) :
    (s.assemble e).now = s.now ∧
      (s.assemble e).releasedAt = s.releasedAt ∧
      (s.assemble e).atc = s.atc ∧
      (s.assemble e).rfw = s.rfw ∧
      (s.assemble e).inq = s.inq ∧
      (s.assemble e).trm = s.trm ∧
      (s.assemble e).pru = s.pru ∧
      (s.assemble e).cap = s.cap ∧
      (s.assemble e).srx = s.srx ∧
      (s.assemble e).ply = s.ply ∧
      (s.assemble e).pos = s.pos ∧
      (s.assemble e).stc = s.stc ∧
      (s.assemble e).ties = s.ties ∧
      (s.assemble e).pending = s.pending := by
  refine ⟨?_, ?_, ?_, ?_, ?_, ?_, ?_, ?_, ?_, ?_, ?_, ?_, ?_, ?_⟩ <;>
    (unfold State.assemble; (try dsimp only); repeat' (first | (simp; done) | split))

@[simp] theorem State.takeUnit_frame (s : State) (e : LineEvent) :
    (s.takeUnit e).now = s.now ∧
      (s.takeUnit e).releasedAt = s.releasedAt ∧
      (s.takeUnit e).rfw = s.rfw ∧
      (s.takeUnit e).inq = s.inq ∧
      (s.takeUnit e).trm = s.trm ∧
      (s.takeUnit e).pru = s.pru ∧
      (s.takeUnit e).cap = s.cap ∧
      (s.takeUnit e).srx = s.srx ∧
      (s.takeUnit e).ply = s.ply ∧
      (s.takeUnit e).pos = s.pos ∧
      (s.takeUnit e).stc = s.stc ∧
      (s.takeUnit e).ties = s.ties ∧
      (s.takeUnit e).pending = s.pending := by
  refine ⟨?_, ?_, ?_, ?_, ?_, ?_, ?_, ?_, ?_, ?_, ?_, ?_, ?_⟩ <;>
    (unfold State.takeUnit; (try dsimp only); repeat' (first | (simp; done) | split))

@[simp] theorem State.abortOpen_frame (s : State) :
    s.abortOpen.now = s.now ∧
      s.abortOpen.releasedAt = s.releasedAt ∧
      s.abortOpen.atc = s.atc ∧
      s.abortOpen.rfw = s.rfw ∧
      s.abortOpen.inq = s.inq ∧
      s.abortOpen.trm = s.trm ∧
      s.abortOpen.pru = s.pru ∧
      s.abortOpen.cap = s.cap ∧
      s.abortOpen.srx = s.srx ∧
      s.abortOpen.ply = s.ply ∧
      s.abortOpen.pos = s.pos ∧
      s.abortOpen.stc = s.stc ∧
      s.abortOpen.ties = s.ties ∧
      s.abortOpen.pending = s.pending := by
  refine ⟨?_, ?_, ?_, ?_, ?_, ?_, ?_, ?_, ?_, ?_, ?_, ?_, ?_, ?_⟩ <;>
    (unfold State.abortOpen; (try dsimp only); repeat' (first | (simp; done) | split))

@[simp] theorem State.declareLoss_frame (s : State) :
    s.declareLoss.now = s.now ∧
      s.declareLoss.releasedAt = s.releasedAt ∧
      s.declareLoss.rfw = s.rfw ∧
      s.declareLoss.inq = s.inq ∧
      s.declareLoss.trm = s.trm ∧
      s.declareLoss.pru = s.pru ∧
      s.declareLoss.cap = s.cap ∧
      s.declareLoss.srx = s.srx ∧
      s.declareLoss.ply = s.ply ∧
      s.declareLoss.pos = s.pos ∧
      s.declareLoss.stc = s.stc ∧
      s.declareLoss.ties = s.ties ∧
      s.declareLoss.pending = s.pending := by
  refine ⟨?_, ?_, ?_, ?_, ?_, ?_, ?_, ?_, ?_, ?_, ?_, ?_, ?_⟩ <;>
    (unfold State.declareLoss; (try dsimp only); repeat' (first | (simp; done) | split))

@[simp] theorem State.declareRestoral_frame (s : State) :
    s.declareRestoral.now = s.now ∧
      s.declareRestoral.releasedAt = s.releasedAt ∧
      s.declareRestoral.rx = s.rx ∧
      s.declareRestoral.rfw = s.rfw ∧
      s.declareRestoral.inq = s.inq ∧
      s.declareRestoral.trm = s.trm ∧
      s.declareRestoral.pru = s.pru ∧
      s.declareRestoral.cap = s.cap ∧
      s.declareRestoral.srx = s.srx ∧
      s.declareRestoral.ply = s.ply ∧
      s.declareRestoral.pos = s.pos ∧
      s.declareRestoral.stc = s.stc ∧
      s.declareRestoral.ties = s.ties ∧
      s.declareRestoral.pending = s.pending := by
  refine ⟨?_, ?_, ?_, ?_, ?_, ?_, ?_, ?_, ?_, ?_, ?_, ?_, ?_, ?_⟩ <;>
    (unfold State.declareRestoral; (try dsimp only); repeat' (first | (simp; done) | split))

@[simp] theorem State.holdoffExpired_frame (s : State) :
    s.holdoffExpired.now = s.now ∧
      s.holdoffExpired.releasedAt = s.releasedAt ∧
      s.holdoffExpired.rx = s.rx ∧
      s.holdoffExpired.rfw = s.rfw ∧
      s.holdoffExpired.inq = s.inq ∧
      s.holdoffExpired.trm = s.trm ∧
      s.holdoffExpired.pru = s.pru ∧
      s.holdoffExpired.cap = s.cap ∧
      s.holdoffExpired.srx = s.srx ∧
      s.holdoffExpired.ply = s.ply ∧
      s.holdoffExpired.pos = s.pos ∧
      s.holdoffExpired.stc = s.stc ∧
      s.holdoffExpired.svp = s.svp ∧
      s.holdoffExpired.ties = s.ties ∧
      s.holdoffExpired.pending = s.pending := by
  refine ⟨?_, ?_, ?_, ?_, ?_, ?_, ?_, ?_, ?_, ?_, ?_, ?_, ?_, ?_, ?_⟩ <;>
    (unfold State.holdoffExpired; (try dsimp only); repeat' (first | (simp; done) | split))

@[simp] theorem State.attachNow_frame (s : State) :
    s.attachNow.now = s.now ∧
      s.attachNow.releasedAt = s.releasedAt ∧
      s.attachNow.cap = s.cap ∧
      s.attachNow.srx = s.srx ∧
      s.attachNow.ply = s.ply ∧
      s.attachNow.pos = s.pos ∧
      s.attachNow.stc = s.stc ∧
      s.attachNow.ties = s.ties ∧
      s.attachNow.pending = s.pending := by
  refine ⟨?_, ?_, ?_, ?_, ?_, ?_, ?_, ?_, ?_⟩ <;>
    (unfold State.attachNow; (try dsimp only); repeat' (first | (simp; done) | split))

@[simp] theorem State.returnTimeout_frame (s : State) :
    s.returnTimeout.now = s.now ∧
      s.returnTimeout.releasedAt = s.releasedAt ∧
      s.returnTimeout.rx = s.rx ∧
      s.returnTimeout.inq = s.inq ∧
      s.returnTimeout.pru = s.pru ∧
      s.returnTimeout.cap = s.cap ∧
      s.returnTimeout.srx = s.srx ∧
      s.returnTimeout.ply = s.ply ∧
      s.returnTimeout.stc = s.stc ∧
      s.returnTimeout.ties = s.ties ∧
      s.returnTimeout.pending = s.pending := by
  refine ⟨?_, ?_, ?_, ?_, ?_, ?_, ?_, ?_, ?_, ?_, ?_⟩ <;>
    (unfold State.returnTimeout; (try dsimp only); repeat' (first | (simp; done) | split))

@[simp] theorem State.announceTimer_frame (s : State) :
    s.announceTimer.now = s.now ∧
      s.announceTimer.releasedAt = s.releasedAt ∧
      s.announceTimer.atc = s.atc ∧
      s.announceTimer.rx = s.rx ∧
      s.announceTimer.trm = s.trm ∧
      s.announceTimer.cap = s.cap ∧
      s.announceTimer.srx = s.srx ∧
      s.announceTimer.ply = s.ply ∧
      s.announceTimer.pos = s.pos ∧
      s.announceTimer.stc = s.stc ∧
      s.announceTimer.ties = s.ties ∧
      s.announceTimer.pending = s.pending := by
  refine ⟨?_, ?_, ?_, ?_, ?_, ?_, ?_, ?_, ?_, ?_, ?_, ?_⟩ <;>
    (unfold State.announceTimer; (try dsimp only); repeat' (first | (simp; done) | split))

/-! ## The clock and capture -/

@[simp] theorem State.countedOn_frame (s : State) (g : Image) :
    (s.countedOn g).now = s.now ∧
      (s.countedOn g).releasedAt = s.releasedAt ∧
      (s.countedOn g).atc = s.atc ∧
      (s.countedOn g).rx = s.rx ∧
      (s.countedOn g).rfw = s.rfw ∧
      (s.countedOn g).inq = s.inq ∧
      (s.countedOn g).trm = s.trm ∧
      (s.countedOn g).pru = s.pru ∧
      (s.countedOn g).pos = s.pos ∧
      (s.countedOn g).stc = s.stc ∧
      (s.countedOn g).svp = s.svp ∧
      (s.countedOn g).ties = s.ties ∧
      (s.countedOn g).pending = s.pending := by
  refine ⟨?_, ?_, ?_, ?_, ?_, ?_, ?_, ?_, ?_, ?_, ?_, ?_, ?_⟩ <;>
    (unfold State.countedOn; (try dsimp only); repeat' (first | (simp; done) | split))

@[simp] theorem State.countIncrement_frame (s : State) :
    s.countIncrement.now = s.now ∧
      s.countIncrement.releasedAt = s.releasedAt ∧
      s.countIncrement.atc = s.atc ∧
      s.countIncrement.rx = s.rx ∧
      s.countIncrement.rfw = s.rfw ∧
      s.countIncrement.inq = s.inq ∧
      s.countIncrement.trm = s.trm ∧
      s.countIncrement.pru = s.pru ∧
      s.countIncrement.pos = s.pos ∧
      s.countIncrement.stc = s.stc ∧
      s.countIncrement.svp = s.svp ∧
      s.countIncrement.ties = s.ties ∧
      s.countIncrement.pending = s.pending := by
  refine ⟨?_, ?_, ?_, ?_, ?_, ?_, ?_, ?_, ?_, ?_, ?_, ?_, ?_⟩ <;>
    (unfold State.countIncrement; (try dsimp only); repeat' (first | (simp; done) | split))

@[simp] theorem State.dividerIncrement_frame (s : State) :
    s.dividerIncrement.now = s.now ∧
      s.dividerIncrement.releasedAt = s.releasedAt ∧
      s.dividerIncrement.atc = s.atc ∧
      s.dividerIncrement.rx = s.rx ∧
      s.dividerIncrement.rfw = s.rfw ∧
      s.dividerIncrement.inq = s.inq ∧
      s.dividerIncrement.trm = s.trm ∧
      s.dividerIncrement.pru = s.pru ∧
      s.dividerIncrement.pos = s.pos ∧
      s.dividerIncrement.stc = s.stc ∧
      s.dividerIncrement.svp = s.svp ∧
      s.dividerIncrement.ties = s.ties ∧
      s.dividerIncrement.pending = s.pending := by
  refine ⟨?_, ?_, ?_, ?_, ?_, ?_, ?_, ?_, ?_, ?_, ?_, ?_, ?_⟩ <;>
    (unfold State.dividerIncrement; (try dsimp only); repeat' (first | (simp; done) | split))

@[simp] theorem State.edgeInWordclock_frame (s : State) :
    s.edgeInWordclock.now = s.now ∧
      s.edgeInWordclock.releasedAt = s.releasedAt ∧
      s.edgeInWordclock.atc = s.atc ∧
      s.edgeInWordclock.rx = s.rx ∧
      s.edgeInWordclock.rfw = s.rfw ∧
      s.edgeInWordclock.inq = s.inq ∧
      s.edgeInWordclock.trm = s.trm ∧
      s.edgeInWordclock.pru = s.pru ∧
      s.edgeInWordclock.pos = s.pos ∧
      s.edgeInWordclock.stc = s.stc ∧
      s.edgeInWordclock.svp = s.svp ∧
      s.edgeInWordclock.ties = s.ties ∧
      s.edgeInWordclock.pending = s.pending := by
  refine ⟨?_, ?_, ?_, ?_, ?_, ?_, ?_, ?_, ?_, ?_, ?_, ?_, ?_⟩ <;>
    (unfold State.edgeInWordclock; (try dsimp only); repeat' (first | (simp; done) | split))

@[simp] theorem State.edgeInHoldover_frame (s : State) (b : Bool) :
    (s.edgeInHoldover b).now = s.now ∧
      (s.edgeInHoldover b).releasedAt = s.releasedAt ∧
      (s.edgeInHoldover b).atc = s.atc ∧
      (s.edgeInHoldover b).rx = s.rx ∧
      (s.edgeInHoldover b).rfw = s.rfw ∧
      (s.edgeInHoldover b).inq = s.inq ∧
      (s.edgeInHoldover b).trm = s.trm ∧
      (s.edgeInHoldover b).pru = s.pru ∧
      (s.edgeInHoldover b).srx = s.srx ∧
      (s.edgeInHoldover b).ply = s.ply ∧
      (s.edgeInHoldover b).pos = s.pos ∧
      (s.edgeInHoldover b).stc = s.stc ∧
      (s.edgeInHoldover b).svp = s.svp ∧
      (s.edgeInHoldover b).ties = s.ties ∧
      (s.edgeInHoldover b).pending = s.pending := by
  refine ⟨?_, ?_, ?_, ?_, ?_, ?_, ?_, ?_, ?_, ?_, ?_, ?_, ?_, ?_, ?_⟩ <;>
    (unfold State.edgeInHoldover; (try dsimp only); repeat' (first | (simp; done) | split))

@[simp] theorem State.wclkEdge_frame (s : State) :
    s.wclkEdge.now = s.now ∧
      s.wclkEdge.releasedAt = s.releasedAt ∧
      s.wclkEdge.atc = s.atc ∧
      s.wclkEdge.rx = s.rx ∧
      s.wclkEdge.rfw = s.rfw ∧
      s.wclkEdge.inq = s.inq ∧
      s.wclkEdge.trm = s.trm ∧
      s.wclkEdge.pru = s.pru ∧
      s.wclkEdge.pos = s.pos ∧
      s.wclkEdge.stc = s.stc ∧
      s.wclkEdge.svp = s.svp ∧
      s.wclkEdge.ties = s.ties ∧
      s.wclkEdge.pending = s.pending := by
  refine ⟨?_, ?_, ?_, ?_, ?_, ?_, ?_, ?_, ?_, ?_, ?_, ?_, ?_⟩ <;>
    (unfold State.wclkEdge; (try dsimp only); repeat' (first | (simp; done) | split))

@[simp] theorem State.reportHoldover_frame (s : State) :
    s.reportHoldover.now = s.now ∧
      s.reportHoldover.releasedAt = s.releasedAt ∧
      s.reportHoldover.atc = s.atc ∧
      s.reportHoldover.rx = s.rx ∧
      s.reportHoldover.rfw = s.rfw ∧
      s.reportHoldover.inq = s.inq ∧
      s.reportHoldover.trm = s.trm ∧
      s.reportHoldover.pru = s.pru ∧
      s.reportHoldover.cap = s.cap ∧
      s.reportHoldover.srx = s.srx ∧
      s.reportHoldover.ply = s.ply ∧
      s.reportHoldover.pos = s.pos ∧
      s.reportHoldover.stc = s.stc ∧
      s.reportHoldover.ties = s.ties ∧
      s.reportHoldover.pending = s.pending := by
  refine ⟨?_, ?_, ?_, ?_, ?_, ?_, ?_, ?_, ?_, ?_, ?_, ?_, ?_, ?_, ?_⟩ <;>
    (unfold State.reportHoldover; (try dsimp only); repeat' (first | (simp; done) | split))

@[simp] theorem State.wordClockLost_frame (s : State) :
    s.wordClockLost.now = s.now ∧
      s.wordClockLost.releasedAt = s.releasedAt ∧
      s.wordClockLost.atc = s.atc ∧
      s.wordClockLost.rx = s.rx ∧
      s.wordClockLost.rfw = s.rfw ∧
      s.wordClockLost.inq = s.inq ∧
      s.wordClockLost.trm = s.trm ∧
      s.wordClockLost.pru = s.pru ∧
      s.wordClockLost.pos = s.pos ∧
      s.wordClockLost.stc = s.stc ∧
      s.wordClockLost.ties = s.ties ∧
      s.wordClockLost.pending = s.pending := by
  refine ⟨?_, ?_, ?_, ?_, ?_, ?_, ?_, ?_, ?_, ?_, ?_, ?_⟩ <;>
    (unfold State.wordClockLost; (try dsimp only); repeat' (first | (simp; done) | split))

@[simp] theorem State.qualificationSilence_frame (s : State) :
    s.qualificationSilence.now = s.now ∧
      s.qualificationSilence.releasedAt = s.releasedAt ∧
      s.qualificationSilence.atc = s.atc ∧
      s.qualificationSilence.rx = s.rx ∧
      s.qualificationSilence.rfw = s.rfw ∧
      s.qualificationSilence.inq = s.inq ∧
      s.qualificationSilence.trm = s.trm ∧
      s.qualificationSilence.pru = s.pru ∧
      s.qualificationSilence.srx = s.srx ∧
      s.qualificationSilence.ply = s.ply ∧
      s.qualificationSilence.pos = s.pos ∧
      s.qualificationSilence.stc = s.stc ∧
      s.qualificationSilence.svp = s.svp ∧
      s.qualificationSilence.ties = s.ties ∧
      s.qualificationSilence.pending = s.pending := by
  refine ⟨?_, ?_, ?_, ?_, ?_, ?_, ?_, ?_, ?_, ?_, ?_, ?_, ?_, ?_, ?_⟩ <;>
    (unfold State.qualificationSilence; (try dsimp only); repeat' (first | (simp; done) | split))

@[simp] theorem State.setStore_frame (s : State) (q : Fin 2) (f : PortStore → PortStore) :
    (s.setStore q f).now = s.now ∧
      (s.setStore q f).releasedAt = s.releasedAt ∧
      (s.setStore q f).atc = s.atc ∧
      (s.setStore q f).rx = s.rx ∧
      (s.setStore q f).rfw = s.rfw ∧
      (s.setStore q f).inq = s.inq ∧
      (s.setStore q f).trm = s.trm ∧
      (s.setStore q f).pru = s.pru ∧
      (s.setStore q f).srx = s.srx ∧
      (s.setStore q f).ply = s.ply ∧
      (s.setStore q f).pos = s.pos ∧
      (s.setStore q f).stc = s.stc ∧
      (s.setStore q f).svp = s.svp ∧
      (s.setStore q f).ties = s.ties ∧
      (s.setStore q f).pending = s.pending := by
  refine ⟨?_, ?_, ?_, ?_, ?_, ?_, ?_, ?_, ?_, ?_, ?_, ?_, ?_, ?_, ?_⟩ <;>
    (unfold State.setStore; (try dsimp only); repeat' (first | (simp; done) | split))

@[simp] theorem State.fixStatus_frame (b : Nat) (s : State) (q : Fin 2) :
    (State.fixStatus b s q).now = s.now ∧
      (State.fixStatus b s q).releasedAt = s.releasedAt ∧
      (State.fixStatus b s q).atc = s.atc ∧
      (State.fixStatus b s q).rx = s.rx ∧
      (State.fixStatus b s q).rfw = s.rfw ∧
      (State.fixStatus b s q).inq = s.inq ∧
      (State.fixStatus b s q).trm = s.trm ∧
      (State.fixStatus b s q).pru = s.pru ∧
      (State.fixStatus b s q).srx = s.srx ∧
      (State.fixStatus b s q).ply = s.ply ∧
      (State.fixStatus b s q).pos = s.pos ∧
      (State.fixStatus b s q).stc = s.stc ∧
      (State.fixStatus b s q).ties = s.ties ∧
      (State.fixStatus b s q).pending = s.pending := by
  refine ⟨?_, ?_, ?_, ?_, ?_, ?_, ?_, ?_, ?_, ?_, ?_, ?_, ?_, ?_⟩ <;>
    (unfold State.fixStatus; (try dsimp only); repeat' (first | (simp; done) | split))

@[simp] theorem State.assembleOne_frame (g : Image) (gates : Vector (Vector Bool 4) 4) (st : Vector BlockStatus 2) (s : State) (i : Fin 4) :
    (State.assembleOne g gates st s i).now = s.now ∧
      (State.assembleOne g gates st s i).releasedAt = s.releasedAt ∧
      (State.assembleOne g gates st s i).atc = s.atc ∧
      (State.assembleOne g gates st s i).rx = s.rx ∧
      (State.assembleOne g gates st s i).rfw = s.rfw ∧
      (State.assembleOne g gates st s i).trm = s.trm ∧
      (State.assembleOne g gates st s i).pru = s.pru ∧
      (State.assembleOne g gates st s i).srx = s.srx ∧
      (State.assembleOne g gates st s i).ply = s.ply ∧
      (State.assembleOne g gates st s i).pos = s.pos ∧
      (State.assembleOne g gates st s i).stc = s.stc ∧
      (State.assembleOne g gates st s i).ties = s.ties ∧
      (State.assembleOne g gates st s i).pending = s.pending := by
  refine ⟨?_, ?_, ?_, ?_, ?_, ?_, ?_, ?_, ?_, ?_, ?_, ?_, ?_⟩ <;>
    (unfold State.assembleOne; (try dsimp only); repeat' (first | (simp; done) | split))

@[simp] theorem State.openingTick_frame (s : State) (g : Image) :
    (s.openingTick g).now = s.now ∧
      (s.openingTick g).releasedAt = s.releasedAt ∧
      (s.openingTick g).atc = s.atc ∧
      (s.openingTick g).rx = s.rx ∧
      (s.openingTick g).rfw = s.rfw ∧
      (s.openingTick g).inq = s.inq ∧
      (s.openingTick g).trm = s.trm ∧
      (s.openingTick g).pru = s.pru ∧
      (s.openingTick g).srx = s.srx ∧
      (s.openingTick g).ply = s.ply ∧
      (s.openingTick g).pos = s.pos ∧
      (s.openingTick g).stc = s.stc ∧
      (s.openingTick g).svp = s.svp ∧
      (s.openingTick g).ties = s.ties ∧
      (s.openingTick g).pending = s.pending := by
  refine ⟨?_, ?_, ?_, ?_, ?_, ?_, ?_, ?_, ?_, ?_, ?_, ?_, ?_, ?_, ?_⟩ <;>
    (unfold State.openingTick; (try dsimp only); repeat' (first | (simp; done) | split))

@[simp] theorem State.wrapTick_frame (s : State) :
    s.wrapTick.now = s.now ∧
      s.wrapTick.releasedAt = s.releasedAt ∧
      s.wrapTick.atc = s.atc ∧
      s.wrapTick.rx = s.rx ∧
      s.wrapTick.rfw = s.rfw ∧
      s.wrapTick.inq = s.inq ∧
      s.wrapTick.trm = s.trm ∧
      s.wrapTick.pru = s.pru ∧
      s.wrapTick.srx = s.srx ∧
      s.wrapTick.ply = s.ply ∧
      s.wrapTick.pos = s.pos ∧
      s.wrapTick.stc = s.stc ∧
      s.wrapTick.svp = s.svp ∧
      s.wrapTick.ties = s.ties ∧
      s.wrapTick.pending = s.pending := by
  refine ⟨?_, ?_, ?_, ?_, ?_, ?_, ?_, ?_, ?_, ?_, ?_, ?_, ?_, ?_, ?_⟩ <;>
    (unfold State.wrapTick; (try dsimp only); repeat' (first | (simp; done) | split))

@[simp] theorem State.buildingTick_frame (s : State) (g : Image) :
    (s.buildingTick g).now = s.now ∧
      (s.buildingTick g).releasedAt = s.releasedAt ∧
      (s.buildingTick g).atc = s.atc ∧
      (s.buildingTick g).rx = s.rx ∧
      (s.buildingTick g).trm = s.trm ∧
      (s.buildingTick g).pru = s.pru ∧
      (s.buildingTick g).srx = s.srx ∧
      (s.buildingTick g).ply = s.ply ∧
      (s.buildingTick g).pos = s.pos ∧
      (s.buildingTick g).stc = s.stc ∧
      (s.buildingTick g).ties = s.ties ∧
      (s.buildingTick g).pending = s.pending := by
  refine ⟨?_, ?_, ?_, ?_, ?_, ?_, ?_, ?_, ?_, ?_, ?_, ?_⟩
  · simp only [State.buildingTick, State.decideStart_frame]
    exact (foldl_keeps (p := State.now) _ (fun b a => by simp) _ _).trans
      (foldl_keeps (p := State.now) _ (fun b a => by simp) _ _)
  · simp only [State.buildingTick, State.decideStart_frame]
    exact (foldl_keeps (p := State.releasedAt) _ (fun b a => by simp) _ _).trans
      (foldl_keeps (p := State.releasedAt) _ (fun b a => by simp) _ _)
  · simp only [State.buildingTick, State.decideStart_frame]
    exact (foldl_keeps (p := State.atc) _ (fun b a => by simp) _ _).trans
      (foldl_keeps (p := State.atc) _ (fun b a => by simp) _ _)
  · simp only [State.buildingTick, State.decideStart_frame]
    exact (foldl_keeps (p := State.rx) _ (fun b a => by simp) _ _).trans
      (foldl_keeps (p := State.rx) _ (fun b a => by simp) _ _)
  · simp only [State.buildingTick, State.decideStart_frame]
    exact (foldl_keeps (p := State.trm) _ (fun b a => by simp) _ _).trans
      (foldl_keeps (p := State.trm) _ (fun b a => by simp) _ _)
  · simp only [State.buildingTick, State.decideStart_frame]
    exact (foldl_keeps (p := State.pru) _ (fun b a => by simp) _ _).trans
      (foldl_keeps (p := State.pru) _ (fun b a => by simp) _ _)
  · simp only [State.buildingTick, State.decideStart_frame]
    exact (foldl_keeps (p := State.srx) _ (fun b a => by simp) _ _).trans
      (foldl_keeps (p := State.srx) _ (fun b a => by simp) _ _)
  · simp only [State.buildingTick, State.decideStart_frame]
    exact (foldl_keeps (p := State.ply) _ (fun b a => by simp) _ _).trans
      (foldl_keeps (p := State.ply) _ (fun b a => by simp) _ _)
  · simp only [State.buildingTick, State.decideStart_frame]
    exact (foldl_keeps (p := State.pos) _ (fun b a => by simp) _ _).trans
      (foldl_keeps (p := State.pos) _ (fun b a => by simp) _ _)
  · simp only [State.buildingTick, State.decideStart_frame]
    exact (foldl_keeps (p := State.stc) _ (fun b a => by simp) _ _).trans
      (foldl_keeps (p := State.stc) _ (fun b a => by simp) _ _)
  · simp only [State.buildingTick, State.decideStart_frame]
    exact (foldl_keeps (p := State.ties) _ (fun b a => by simp) _ _).trans
      (foldl_keeps (p := State.ties) _ (fun b a => by simp) _ _)
  · simp only [State.buildingTick, State.decideStart_frame]
    exact (foldl_keeps (p := State.pending) _ (fun b a => by simp) _ _).trans
      (foldl_keeps (p := State.pending) _ (fun b a => by simp) _ _)

@[simp] theorem State.blockTick_frame (s : State) :
    s.blockTick.now = s.now ∧
      s.blockTick.releasedAt = s.releasedAt ∧
      s.blockTick.atc = s.atc ∧
      s.blockTick.rx = s.rx ∧
      s.blockTick.trm = s.trm ∧
      s.blockTick.pru = s.pru ∧
      s.blockTick.srx = s.srx ∧
      s.blockTick.pos = s.pos ∧
      s.blockTick.stc = s.stc ∧
      s.blockTick.ties = s.ties ∧
      s.blockTick.pending = s.pending := by
  refine ⟨?_, ?_, ?_, ?_, ?_, ?_, ?_, ?_, ?_, ?_, ?_⟩ <;>
    (unfold State.blockTick; (try dsimp only); repeat' (first | (simp; done) | split))

@[simp] theorem State.takeBoundary_frame (s : State) (n : Fin 16) :
    (s.takeBoundary n).now = s.now ∧
      (s.takeBoundary n).releasedAt = s.releasedAt ∧
      (s.takeBoundary n).atc = s.atc ∧
      (s.takeBoundary n).rx = s.rx ∧
      (s.takeBoundary n).rfw = s.rfw ∧
      (s.takeBoundary n).inq = s.inq ∧
      (s.takeBoundary n).trm = s.trm ∧
      (s.takeBoundary n).pru = s.pru ∧
      (s.takeBoundary n).cap = s.cap ∧
      (s.takeBoundary n).pos = s.pos ∧
      (s.takeBoundary n).stc = s.stc ∧
      (s.takeBoundary n).svp = s.svp ∧
      (s.takeBoundary n).ties = s.ties ∧
      (s.takeBoundary n).pending = s.pending := by
  refine ⟨?_, ?_, ?_, ?_, ?_, ?_, ?_, ?_, ?_, ?_, ?_, ?_, ?_, ?_⟩ <;>
    (unfold State.takeBoundary; (try dsimp only); repeat' (first | (simp; done) | split))

/-! ## Start-up and the service port -/

@[simp] theorem State.resetAbortDone_frame (s : State) :
    s.resetAbortDone.now = s.now ∧
      s.resetAbortDone.releasedAt = s.releasedAt ∧
      s.resetAbortDone.rx = s.rx ∧
      s.resetAbortDone.inq = s.inq ∧
      s.resetAbortDone.trm = s.trm ∧
      s.resetAbortDone.pru = s.pru ∧
      s.resetAbortDone.cap = s.cap ∧
      s.resetAbortDone.srx = s.srx ∧
      s.resetAbortDone.ply = s.ply ∧
      s.resetAbortDone.pos = s.pos ∧
      s.resetAbortDone.stc = s.stc ∧
      s.resetAbortDone.svp = s.svp ∧
      s.resetAbortDone.ties = s.ties ∧
      s.resetAbortDone.pending = s.pending := by
  refine ⟨?_, ?_, ?_, ?_, ?_, ?_, ?_, ?_, ?_, ?_, ?_, ?_, ?_, ?_⟩ <;>
    (unfold State.resetAbortDone; (try dsimp only); repeat' (first | (simp; done) | split))

@[simp] theorem State.releaseReset_frame (s : State) (p : Straps) :
    (s.releaseReset p).now = s.now ∧
      (s.releaseReset p).rx = s.rx ∧
      (s.releaseReset p).rfw = s.rfw ∧
      (s.releaseReset p).inq = s.inq ∧
      (s.releaseReset p).trm = s.trm ∧
      (s.releaseReset p).pru = s.pru ∧
      (s.releaseReset p).srx = s.srx ∧
      (s.releaseReset p).ply = s.ply ∧
      (s.releaseReset p).svp = s.svp ∧
      (s.releaseReset p).ties = s.ties ∧
      (s.releaseReset p).pending = s.pending := by
  refine ⟨?_, ?_, ?_, ?_, ?_, ?_, ?_, ?_, ?_, ?_, ?_⟩ <;>
    (unfold State.releaseReset; (try dsimp only); repeat' (first | (simp; done) | split))

@[simp] theorem State.loadFaulted_frame (s : State) (c : FaultCause) :
    (s.loadFaulted c).now = s.now ∧
      (s.loadFaulted c).releasedAt = s.releasedAt ∧
      (s.loadFaulted c).rx = s.rx ∧
      (s.loadFaulted c).rfw = s.rfw ∧
      (s.loadFaulted c).inq = s.inq ∧
      (s.loadFaulted c).trm = s.trm ∧
      (s.loadFaulted c).pru = s.pru ∧
      (s.loadFaulted c).cap = s.cap ∧
      (s.loadFaulted c).srx = s.srx ∧
      (s.loadFaulted c).ply = s.ply ∧
      (s.loadFaulted c).pos = s.pos ∧
      (s.loadFaulted c).svp = s.svp ∧
      (s.loadFaulted c).ties = s.ties ∧
      (s.loadFaulted c).pending = s.pending := by
  refine ⟨?_, ?_, ?_, ?_, ?_, ?_, ?_, ?_, ?_, ?_, ?_, ?_, ?_, ?_⟩ <;>
    (unfold State.loadFaulted; (try dsimp only); repeat' (first | (simp; done) | split))

@[simp] theorem State.goodLoad_frame (s : State) (g : Image) :
    (s.goodLoad g).now = s.now ∧
      (s.goodLoad g).releasedAt = s.releasedAt ∧
      (s.goodLoad g).rx = s.rx ∧
      (s.goodLoad g).rfw = s.rfw ∧
      (s.goodLoad g).inq = s.inq ∧
      (s.goodLoad g).trm = s.trm ∧
      (s.goodLoad g).pru = s.pru ∧
      (s.goodLoad g).cap = s.cap ∧
      (s.goodLoad g).srx = s.srx ∧
      (s.goodLoad g).ply = s.ply ∧
      (s.goodLoad g).svp = s.svp ∧
      (s.goodLoad g).ties = s.ties ∧
      (s.goodLoad g).pending = s.pending := by
  refine ⟨?_, ?_, ?_, ?_, ?_, ?_, ?_, ?_, ?_, ?_, ?_, ?_, ?_⟩ <;>
    (unfold State.goodLoad; (try dsimp only); repeat' (first | (simp; done) | split))

@[simp] theorem State.endLoad_frame (s : State) :
    s.endLoad.now = s.now ∧
      s.endLoad.releasedAt = s.releasedAt ∧
      s.endLoad.rx = s.rx ∧
      s.endLoad.rfw = s.rfw ∧
      s.endLoad.inq = s.inq ∧
      s.endLoad.trm = s.trm ∧
      s.endLoad.pru = s.pru ∧
      s.endLoad.cap = s.cap ∧
      s.endLoad.srx = s.srx ∧
      s.endLoad.ply = s.ply ∧
      s.endLoad.svp = s.svp ∧
      s.endLoad.ties = s.ties ∧
      s.endLoad.pending = s.pending := by
  refine ⟨?_, ?_, ?_, ?_, ?_, ?_, ?_, ?_, ?_, ?_, ?_, ?_, ?_⟩ <;>
    (unfold State.endLoad; (try dsimp only); repeat' (first | (simp; done) | split))

@[simp] theorem State.reply_frame (s : State) (a : Answer) :
    (s.reply a).now = s.now ∧
      (s.reply a).releasedAt = s.releasedAt ∧
      (s.reply a).atc = s.atc ∧
      (s.reply a).rx = s.rx ∧
      (s.reply a).rfw = s.rfw ∧
      (s.reply a).inq = s.inq ∧
      (s.reply a).trm = s.trm ∧
      (s.reply a).pru = s.pru ∧
      (s.reply a).cap = s.cap ∧
      (s.reply a).srx = s.srx ∧
      (s.reply a).ply = s.ply ∧
      (s.reply a).pos = s.pos ∧
      (s.reply a).stc = s.stc ∧
      (s.reply a).ties = s.ties ∧
      (s.reply a).pending = s.pending := by
  refine ⟨?_, ?_, ?_, ?_, ?_, ?_, ?_, ?_, ?_, ?_, ?_, ?_, ?_, ?_, ?_⟩ <;>
    (unfold State.reply; (try dsimp only); repeat' (first | (simp; done) | split))

@[simp] theorem State.answerWith_frame (d : State → AnswerData) (s : State) :
    (s.answerWith d).now = s.now ∧
      (s.answerWith d).releasedAt = s.releasedAt ∧
      (s.answerWith d).atc = s.atc ∧
      (s.answerWith d).rx = s.rx ∧
      (s.answerWith d).rfw = s.rfw ∧
      (s.answerWith d).inq = s.inq ∧
      (s.answerWith d).trm = s.trm ∧
      (s.answerWith d).pru = s.pru ∧
      (s.answerWith d).cap = s.cap ∧
      (s.answerWith d).srx = s.srx ∧
      (s.answerWith d).ply = s.ply ∧
      (s.answerWith d).pos = s.pos ∧
      (s.answerWith d).stc = s.stc ∧
      (s.answerWith d).ties = s.ties ∧
      (s.answerWith d).pending = s.pending := by
  refine ⟨?_, ?_, ?_, ?_, ?_, ?_, ?_, ?_, ?_, ?_, ?_, ?_, ?_, ?_, ?_⟩ <;>
    (unfold State.answerWith; (try dsimp only); repeat' (first | (simp; done) | split))

@[simp] theorem State.zeroCounters_frame (s : State) :
    s.zeroCounters.now = s.now ∧
      s.zeroCounters.releasedAt = s.releasedAt ∧
      s.zeroCounters.atc = s.atc ∧
      s.zeroCounters.rx = s.rx ∧
      s.zeroCounters.rfw = s.rfw ∧
      s.zeroCounters.inq = s.inq ∧
      s.zeroCounters.trm = s.trm ∧
      s.zeroCounters.pru = s.pru ∧
      s.zeroCounters.cap = s.cap ∧
      s.zeroCounters.ply = s.ply ∧
      s.zeroCounters.pos = s.pos ∧
      s.zeroCounters.stc = s.stc ∧
      s.zeroCounters.ties = s.ties ∧
      s.zeroCounters.pending = s.pending := by
  refine ⟨?_, ?_, ?_, ?_, ?_, ?_, ?_, ?_, ?_, ?_, ?_, ?_, ?_, ?_⟩ <;>
    (unfold State.zeroCounters; (try dsimp only); repeat' (first | (simp; done) | split))

@[simp] theorem State.clearSeen_frame (s : State) :
    s.clearSeen.now = s.now ∧
      s.clearSeen.releasedAt = s.releasedAt ∧
      s.clearSeen.atc = s.atc ∧
      s.clearSeen.rx = s.rx ∧
      s.clearSeen.rfw = s.rfw ∧
      s.clearSeen.inq = s.inq ∧
      s.clearSeen.trm = s.trm ∧
      s.clearSeen.pru = s.pru ∧
      s.clearSeen.cap = s.cap ∧
      s.clearSeen.srx = s.srx ∧
      s.clearSeen.ply = s.ply ∧
      s.clearSeen.pos = s.pos ∧
      s.clearSeen.stc = s.stc ∧
      s.clearSeen.ties = s.ties ∧
      s.clearSeen.pending = s.pending := by
  refine ⟨?_, ?_, ?_, ?_, ?_, ?_, ?_, ?_, ?_, ?_, ?_, ?_, ?_, ?_, ?_⟩ <;>
    (unfold State.clearSeen; (try dsimp only); repeat' (first | (simp; done) | split))

@[simp] theorem State.writePage_frame (s : State) (r : List Octet) (k : Nat) :
    (s.writePage r k).now = s.now ∧
      (s.writePage r k).releasedAt = s.releasedAt ∧
      (s.writePage r k).atc = s.atc ∧
      (s.writePage r k).rx = s.rx ∧
      (s.writePage r k).rfw = s.rfw ∧
      (s.writePage r k).inq = s.inq ∧
      (s.writePage r k).trm = s.trm ∧
      (s.writePage r k).pru = s.pru ∧
      (s.writePage r k).cap = s.cap ∧
      (s.writePage r k).srx = s.srx ∧
      (s.writePage r k).ply = s.ply ∧
      (s.writePage r k).pos = s.pos ∧
      (s.writePage r k).svp = s.svp ∧
      (s.writePage r k).ties = s.ties ∧
      (s.writePage r k).pending = s.pending := by
  refine ⟨?_, ?_, ?_, ?_, ?_, ?_, ?_, ?_, ?_, ?_, ?_, ?_, ?_, ?_, ?_⟩ <;>
    (unfold State.writePage; (try dsimp only); repeat' (first | (simp; done) | split))

@[simp] theorem State.endWrite_frame (s : State) (b : Bool) :
    (s.endWrite b).now = s.now ∧
      (s.endWrite b).releasedAt = s.releasedAt ∧
      (s.endWrite b).atc = s.atc ∧
      (s.endWrite b).rx = s.rx ∧
      (s.endWrite b).rfw = s.rfw ∧
      (s.endWrite b).inq = s.inq ∧
      (s.endWrite b).trm = s.trm ∧
      (s.endWrite b).pru = s.pru ∧
      (s.endWrite b).cap = s.cap ∧
      (s.endWrite b).srx = s.srx ∧
      (s.endWrite b).ply = s.ply ∧
      (s.endWrite b).pos = s.pos ∧
      (s.endWrite b).ties = s.ties ∧
      (s.endWrite b).pending = s.pending := by
  refine ⟨?_, ?_, ?_, ?_, ?_, ?_, ?_, ?_, ?_, ?_, ?_, ?_, ?_, ?_⟩ <;>
    (unfold State.endWrite; (try dsimp only); repeat' (first | (simp; done) | split))

@[simp] theorem State.pageReady_frame (s : State) :
    s.pageReady.now = s.now ∧
      s.pageReady.releasedAt = s.releasedAt ∧
      s.pageReady.atc = s.atc ∧
      s.pageReady.rx = s.rx ∧
      s.pageReady.rfw = s.rfw ∧
      s.pageReady.inq = s.inq ∧
      s.pageReady.trm = s.trm ∧
      s.pageReady.pru = s.pru ∧
      s.pageReady.cap = s.cap ∧
      s.pageReady.srx = s.srx ∧
      s.pageReady.ply = s.ply ∧
      s.pageReady.pos = s.pos ∧
      s.pageReady.svp = s.svp ∧
      s.pageReady.ties = s.ties ∧
      s.pageReady.pending = s.pending := by
  refine ⟨?_, ?_, ?_, ?_, ?_, ?_, ?_, ?_, ?_, ?_, ?_, ?_, ?_, ?_, ?_⟩ <;>
    (unfold State.pageReady; (try dsimp only); repeat' (first | (simp; done) | split))

@[simp] theorem State.readbackEnd_frame (s : State) :
    s.readbackEnd.now = s.now ∧
      s.readbackEnd.releasedAt = s.releasedAt ∧
      s.readbackEnd.atc = s.atc ∧
      s.readbackEnd.rx = s.rx ∧
      s.readbackEnd.rfw = s.rfw ∧
      s.readbackEnd.inq = s.inq ∧
      s.readbackEnd.trm = s.trm ∧
      s.readbackEnd.pru = s.pru ∧
      s.readbackEnd.cap = s.cap ∧
      s.readbackEnd.srx = s.srx ∧
      s.readbackEnd.ply = s.ply ∧
      s.readbackEnd.pos = s.pos ∧
      s.readbackEnd.ties = s.ties ∧
      s.readbackEnd.pending = s.pending := by
  refine ⟨?_, ?_, ?_, ?_, ?_, ?_, ?_, ?_, ?_, ?_, ?_, ?_, ?_, ?_⟩ <;>
    (unfold State.readbackEnd; (try dsimp only); repeat' (first | (simp; done) | split))

end Sys2Proof.Machine
end

