-- ==== Sys2Proof/Laws/Line.lean ====
section
/-! SUPPORT. The unit grid of the transmit line (R41), the unit it shows, and what the arbiter in READY chooses (R42 to
R44). -/

namespace Sys2Proof.Machine

/-- The next unit time begins on the line's grid, less than a unit time from now, and never before now. -/
theorem State.nextUnit_spec (s : State) (since : Nat) :
    ∃ k, s.nextUnit since = since + k * Config.unitTime ∧ s.now ≤ s.nextUnit since
      ∧ s.nextUnit since < max since s.now + Config.unitTime := by
  refine ⟨_, rfl, ?_, ?_⟩ <;> simp only [State.nextUnit, Config.unitTime] <;> omega

/-- The next unit time is one that begins on the line's grid. -/
theorem State.unitBegins_nextUnit (s : State) (since : Nat) : s.unitBegins since (s.nextUnit since) := by
  simp only [State.unitBegins, State.nextUnit, Config.unitTime]
  omega

/-- The grid fixes the instant: only one next unit time begins on it. -/
theorem State.unitBegins_unique {s : State} {since a b : Nat} (ha : s.unitBegins since a) (hb : s.unitBegins since b) :
    a = b := by
  simp only [State.unitBegins, Config.unitTime] at ha hb
  omega

/-- The transmit line shows ABORT only once ABORT units have taken the place of a frame's units. -/
theorem State.txUnit_abort {s : State} (h : s.txUnit = .abort) : s.aborting = true := by
  simp only [State.txUnit] at h
  repeat' split at h
  all_goals first | assumption | cases h | skip
  rename_i f since _ _ _
  unfold frameUnit at h
  split at h <;> try cases h
  split at h <;> cases h

/-! ## The arbiter's choice -/

/-- The frames the arbiter may choose are those that are there to start. -/
theorem State.mayStart_iff (s : State) (k : FrameChoice) : s.mayStart k = true ↔ s.hasFrame k := by
  have room : s.trm.hasRoom = true ↔ s.trm.transit.length < 128 := decide_eq_true_iff
  cases k <;> simp [State.mayStart, State.hasFrame, State.ownFrame, room, State.inService] <;>
    cases s.atc.state <;> simp

/-- What it chooses is the first of them. -/
theorem State.choice_eq (s : State) : s.choice = s.startable.head? := by
  rw [State.choice, State.startable, List.head?_filter]
  congr 1
  funext k
  rw [Bool.eq_iff_iff, State.mayStart_iff, decide_eq_true_iff]

/-- Acting on an event changes the choice of an arbiter in READY, or nothing. -/
theorem State.decideStart_eq (s : State) :
    (∃ since c, s.rfw.arbiter = .ready since c
      ∧ s.decideStart = { s with rfw := { s.rfw with arbiter := .ready since s.nextStart } })
    ∨ s.rfw.arbiter.chosen = none ∧ s.decideStart = s := by
  unfold State.decideStart
  split
  · exact .inl ⟨_, _, ‹_›, rfl⟩
  all_goals exact .inr ⟨by simp [*, Arbiter.chosen], rfl⟩

end Sys2Proof.Machine
end

