-- ==== Sys2Proof/Laws/Tables.lean ====
section
/-! SUPPORT. What the tables, the counters and the flags read after each of their updates. -/

namespace Sys2Proof.Machine

/-! ## Tables -/

/-- The changed entry of a table. -/
@[simp] theorem modifyAt_self {α : Type} {n : Nat} (v : Vector α n) (i : Fin n) (f : α → α) :
    (modifyAt v i f)[i] = f v[i] := Vector.getElem_set_self i.isLt

/-- Every other entry of a table stands. -/
theorem modifyAt_other {α : Type} {n : Nat} (v : Vector α n) {i j : Fin n} (h : j ≠ i) (f : α → α) :
    (modifyAt v i f)[j] = v[j] :=
  Vector.getElem_set_ne i.isLt j.isLt fun e => h (Fin.ext e.symm)

/-- An entry of a table after a change. -/
theorem modifyAt_get {α : Type} {n : Nat} (v : Vector α n) (i j : Fin n) (f : α → α) :
    (modifyAt v i f)[j] = if j = i then f v[i] else v[j] := by
  by_cases h : j = i
  · subst h; rw [if_pos rfl, modifyAt_self]
  · rw [if_neg h, modifyAt_other v h]

/-- An entry of a table changed throughout. -/
@[simp] theorem mapAll_get {α β : Type} {n : Nat} (f : α → β) (v : Vector α n) (i : Fin n) :
    (mapAll f v)[i] = f v[i] := Vector.getElem_ofFn i.isLt

/-- An entry of a table of one value. -/
@[simp] theorem replicate_get {α : Type} {n : Nat} (a : α) (i : Fin n) : (Vector.replicate n a)[i] = a :=
  Vector.getElem_replicate i.isLt

/-- An entry of a table given by a function. -/
@[simp] theorem ofFn_get {α : Type} {n : Nat} (f : Fin n → α) (i : Fin n) : (Vector.ofFn f)[i] = f i :=
  Vector.getElem_ofFn i.isLt

/-! ## Counters -/

/-- No two counters share a place. -/
theorem Counter.place_inj {a b : Counter} (h : a.place = b.place) : a = b := by
  have h := congrArg Fin.val h
  cases a <;> cases b <;> simp only [Counter.place] at h <;>
    first
      | rfl
      | (exact absurd h (by decide))
      | (exact congrArg _ (Fin.ext (by omega)))
      | (exfalso; revert h; simp; done)
      | (exfalso; revert h; simp; omega)

/-- A counter after one is increased. -/
theorem State.counter_countBy (s : State) (a c : Counter) (n : Nat) :
    (s.countBy a n).counter c = if c = a then min 65535 (s.counter c + n) else s.counter c := by
  have h : (s.countBy a n).counter c = (modifyAt s.svp.counters a.place (addUpTo 65535 · n))[c.place] := rfl
  rw [h, modifyAt_get]
  by_cases e : c = a
  · subst e; simp [addUpTo, State.counter]
  · rw [if_neg e, if_neg fun p => e (Counter.place_inj p)]; rfl

/-- A counter after one is incremented. -/
theorem State.counter_countOne (s : State) (a c : Counter) :
    (s.countOne a).counter c = if c = a then min 65535 (s.counter c + 1) else s.counter c :=
  s.counter_countBy a c 1

/-- Raising a flag moves no counter. -/
@[simp] theorem State.counter_raise (s : State) (f : EventFlag) (c : Counter) :
    (s.raise f).counter c = s.counter c := rfl

/-- Raising a flag under a condition moves no counter. -/
@[simp] theorem State.counter_raiseIf (s : State) (b : Bool) (f : EventFlag) (c : Counter) :
    (s.raiseIf b f).counter c = s.counter c := by cases b <;> rfl

/-! ## Flags -/

/-- No two flags share a number. -/
theorem EventFlag.number_inj {a b : EventFlag} (h : a.number = b.number) : a = b := by
  cases a <;> cases b <;> first | rfl | exact absurd h (by decide)

/-- A flag after one is raised. -/
theorem State.flag_raise (s : State) (f g : EventFlag) :
    (s.raise f).flag g = (decide (g = f) || s.flag g) := by
  have h : (s.raise f).flag g = (s.svp.flags ||| f.bit).getLsbD g.number := rfl
  rw [h, BitVec.getLsbD_or]
  have b : f.bit.getLsbD g.number = decide (g = f) := by cases f <;> cases g <;> decide
  rw [b, Bool.or_comm]; rfl

/-- A flag after one is raised under a condition. -/
theorem State.flag_raiseIf (s : State) (c : Bool) (f g : EventFlag) :
    (s.raiseIf c f).flag g = (c && decide (g = f) || s.flag g) := by
  cases c
  · rfl
  · exact s.flag_raise f g

/-- Counting moves no flag. -/
@[simp] theorem State.flag_countBy (s : State) (a : Counter) (n : Nat) (g : EventFlag) :
    (s.countBy a n).flag g = s.flag g := rfl

/-- Counting moves no flag. -/
@[simp] theorem State.flag_countOne (s : State) (a : Counter) (g : EventFlag) :
    (s.countOne a).flag g = s.flag g := rfl

/-- A context counter after one is increased. -/
theorem Context.counter_countBy (x : Context) (a c : ContextCounter) (n : Nat) :
    (x.countBy a n).counter c = if c = a then min 65535 (x.counter c + n) else x.counter c := by
  have h : (x.countBy a n).counter c = (modifyAt x.counters a.place (addUpTo 65535 · n))[c.place] := rfl
  rw [h, modifyAt_get]
  have p : c.place = a.place ↔ c = a := by cases c <;> cases a <;> decide
  by_cases e : c = a
  · subst e; simp [addUpTo, Context.counter]
  · rw [if_neg e, if_neg fun q => e (p.1 q)]; rfl

end Sys2Proof.Machine
end

