-- ==== Sys2Proof/Laws/Memory.lean ====
section
/-! SUPPORT. The configuration memory: every operation keeps its canonical form, and what a read gives after a write. -/

namespace Sys2Proof.Machine

/-- A memory canonical from an address on is so from any lower one. -/
theorem Memory.wfFrom_mono {m : Memory} {lo hi : Nat} (h : lo ≤ hi) (w : Memory.wfFrom hi m = true) :
    Memory.wfFrom lo m = true := by
  cases m with
  | nil => rfl
  | cons p m =>
    simp only [Memory.wfFrom, Bool.and_eq_true, decide_eq_true_eq] at w ⊢
    exact ⟨⟨by omega, w.1.2⟩, w.2⟩

/-- Below the addresses listed a memory reads as erased. -/
theorem Memory.read_below {m : Memory} {lo a : Nat} (w : Memory.wfFrom lo m = true) (h : a < lo) :
    m.read a = Memory.blank := by
  induction m generalizing lo with
  | nil => rfl
  | cons p m ih =>
    simp only [Memory.wfFrom, Bool.and_eq_true, decide_eq_true_eq] at w
    rw [Memory.read, if_neg (by omega)]
    exact ih w.2 (by omega)

/-- A write keeps the canonical form. -/
theorem Memory.wfFrom_write {m : Memory} {lo a : Nat} (v : Octet) (w : Memory.wfFrom lo m = true) (h : lo ≤ a) :
    Memory.wfFrom lo (m.write a v) = true := by
  induction m generalizing lo with
  | nil => unfold Memory.write; split <;> simp_all [Memory.wfFrom]
  | cons p m ih =>
    obtain ⟨b, x⟩ := p
    simp only [Memory.wfFrom, Bool.and_eq_true, decide_eq_true_eq] at w
    unfold Memory.write
    split
    · split
      · simp [Memory.wfFrom, w]
      · simp only [Memory.wfFrom, Bool.and_eq_true, decide_eq_true_eq]
        exact ⟨⟨h, ‹_›⟩, ⟨by omega, w.1.2⟩, w.2⟩
    · split
      · split
        · exact Memory.wfFrom_mono (by omega) w.2
        · simp only [Memory.wfFrom, Bool.and_eq_true, decide_eq_true_eq]
          exact ⟨⟨h, ‹_›⟩, Memory.wfFrom_mono (by omega) w.2⟩
      · simp only [Memory.wfFrom, Bool.and_eq_true, decide_eq_true_eq]
        exact ⟨w.1, ih w.2 (by omega)⟩

/-- A write keeps the canonical form. -/
theorem Memory.wf_write {m : Memory} (a : Nat) (v : Octet) (w : m.wf = true) : (m.write a v).wf = true :=
  Memory.wfFrom_write v w (Nat.zero_le _)

/-- A page write keeps the canonical form. -/
theorem Memory.wf_writeFrom {m : Memory} (a : Nat) (os : List Octet) (w : m.wf = true) :
    (m.writeFrom a os).wf = true := by
  induction os generalizing m a with
  | nil => exact w
  | cons v vs ih => exact ih (a + 1) (Memory.wf_write a v w)

/-- The memory of the machine at reset stands in its canonical form. -/
theorem Memory.wf_reset : State.reset.stc.memory.wf = true := rfl

/-- What a read gives after a write. -/
theorem Memory.read_write {m : Memory} {lo a : Nat} (v : Octet) (b : Nat) (w : Memory.wfFrom lo m = true) :
    (m.write a v).read b = if b = a then v else m.read b := by
  induction m generalizing lo with
  | nil =>
    unfold Memory.write
    by_cases hv : v = Memory.blank
    · rw [if_pos hv]; split <;> simp [Memory.read, hv]
    · rw [if_neg hv]; simp only [Memory.read, eq_comm]
  | cons p m ih =>
    obtain ⟨c, x⟩ := p
    simp only [Memory.wfFrom, Bool.and_eq_true, decide_eq_true_eq] at w
    unfold Memory.write
    by_cases h1 : a < c
    · rw [if_pos h1]
      have below : Memory.read m a = Memory.blank := Memory.read_below (lo := c + 1) w.2 (by omega)
      by_cases hv : v = Memory.blank
      · rw [if_pos hv]
        by_cases e : b = a
        · subst e; rw [if_pos rfl, Memory.read, if_neg (by omega), below, hv]
        · rw [if_neg e]
      · rw [if_neg hv]; simp only [Memory.read, eq_comm (a := a)]
    · rw [if_neg h1]
      by_cases h2 : a = c
      · subst h2
        rw [if_pos rfl]
        by_cases hv : v = Memory.blank
        · rw [if_pos hv]
          by_cases e : b = a
          · subst e; rw [if_pos rfl, Memory.read_below w.2 (by omega), hv]
          · rw [if_neg e, Memory.read, if_neg fun q => e q.symm]
        · rw [if_neg hv]
          by_cases e : b = a
          · subst e; simp [Memory.read]
          · rw [if_neg e, Memory.read, if_neg fun q => e q.symm, Memory.read, if_neg fun q => e q.symm]
      · rw [if_neg h2, Memory.read, ih w.2, Memory.read]
        by_cases e : b = a
        · subst e; rw [if_neg fun q => h2 q.symm]; simp
        · simp [e]

/-- What a read gives after a page write. -/
theorem Memory.read_writeFrom {m : Memory} (a : Nat) (os : List Octet) (b : Nat) (w : m.wf = true) :
    (m.writeFrom a os).read b = if h : a ≤ b ∧ b - a < os.length then os[b - a] else m.read b := by
  induction os generalizing m a with
  | nil => simp [Memory.writeFrom]
  | cons v vs ih =>
    rw [Memory.writeFrom, ih (a + 1) (Memory.wf_write a v w), Memory.read_write v b w]
    by_cases h1 : a + 1 ≤ b ∧ b - (a + 1) < vs.length
    · have h2 : b - a = (b - (a + 1)) + 1 := by omega
      rw [dif_pos h1, dif_pos ⟨by omega, by simp; omega⟩]
      simp [h2]
    · rw [dif_neg h1]
      by_cases e : b = a
      · subst e; simp
      · rw [if_neg e, dif_neg (by simp; omega)]

/-- What has been written reads back whole. -/
theorem Memory.readFrom_writeFrom {m : Memory} (a : Nat) (os : List Octet) (w : m.wf = true) :
    (m.writeFrom a os).readFrom a os.length = os := by
  apply List.ext_getElem (by simp [Memory.readFrom])
  intro i _ h
  simp [Memory.readFrom, Memory.read_writeFrom _ _ _ w, h]

end Sys2Proof.Machine
end

