-- ==== Sys2Proof/Laws/Octets.lean ====
section
/-! SUPPORT. A check appended to what it is computed over matches, for a frame as the line interface sends it and for a
record as it is written: later proofs need not compute the check. -/

namespace Sys2Proof.Machine

/-- A 32-bit field reads back from its four octets. -/
theorem field32_octets32 (body : List Octet) (x : Word) : field32 (body ++ octets32 x) body.length = x := by
  simp only [field32, octetAt, octets32, List.getD_eq_getElem?_getD, List.getElem?_append_right (Nat.le_refl _),
    List.getElem?_append_right (Nat.le_add_right _ _), Nat.sub_self, Nat.add_sub_cancel_left]
  simp only [List.getElem?_cons_zero, List.getElem?_cons_succ, Option.getD_some]
  ext i hi
  simp only [BitVec.getElem_append, BitVec.getElem_extractLsb']
  split
  · simp [BitVec.getLsbD_eq_getElem hi]
  · split
    · rw [BitVec.getLsbD_eq_getElem (by omega)]; congr 1; omega
    · split
      · rw [BitVec.getLsbD_eq_getElem (by omega)]; congr 1; omega
      · rw [BitVec.getLsbD_eq_getElem (by omega)]; congr 1; omega

/-- A 16-bit field reads back from its two octets. -/
theorem field16_octets16 (body : List Octet) (x : Half) : field16 (body ++ octets16 x) body.length = x := by
  simp only [field16, octetAt, octets16, List.getD_eq_getElem?_getD, List.getElem?_append_right (Nat.le_refl _),
    List.getElem?_append_right (Nat.le_add_right _ _), Nat.sub_self, Nat.add_sub_cancel_left]
  simp only [List.getElem?_cons_zero, List.getElem?_cons_succ, Option.getD_some]
  ext i hi
  simp only [BitVec.getElem_append, BitVec.getElem_extractLsb']
  split
  · simp [BitVec.getLsbD_eq_getElem hi]
  · rw [BitVec.getLsbD_eq_getElem (by omega)]; congr 1; omega

/-- The check of a frame as it is sent matches, whatever the frame (R4, R14). -/
theorem checkMatches_octets (f : Frame) : checkMatches f.octets = true := by
  have hlen : f.octets.length - 4 = f.body.length := by simp [Frame.octets, octets32]
  rw [checkMatches, hlen, Frame.octets, List.take_left, field32_octets32, beq_self_eq_true]

/-- A frame as it is sent passes every test but those that look at its fields (R15). -/
theorem judge_octets (f : Frame) (n : Nat) (size : 11 ≤ n ∧ n ≤ 1167)
    (kind : kindOf f.octets = kindAudio ∨ kindOf f.octets = kindAnnounce ∨ kindOf f.octets = kindCue)
    (origin : originOf f.octets ≠ 0#5 ∧ originOf f.octets ≠ 31#5) (length : lengthForKind f.octets = some n)
    (code : kindOf f.octets = kindCue → CueCode.ofOctet (octetAt f.octets 4) ≠ none) :
    judge ⟨f.octets, n⟩ = .wellFormed := by
  unfold judge
  simp only [checkMatches_octets, Config.minFrame, Config.maxFrame]
  rw [if_neg (by omega), if_neg (by simp), if_neg (not_not_intro kind), if_neg (not_or.2 origin),
    if_neg (not_not_intro length), if_neg fun h => code h.1 h.2]

/-- The two parts of a record: what its check is computed over, and the check (R179). -/
theorem record_parts (body : List Octet) (check : Half) (h : body.length = 269) :
    (body ++ octets16 check).take 269 = body ∧ field16 (body ++ octets16 check) 269 = check := by
  rw [← h]
  exact ⟨List.take_left, field16_octets16 body check⟩

end Sys2Proof.Machine
end

