-- ==== Sys2Proof/Laws/Panel.lean ====
section
/-! SUPPORT. What cues reported undelivered do at the panel (R50, R53, R64, R165). -/

namespace Sys2Proof.Machine

/-- A position after a cue is reported undelivered. -/
theorem State.cueUndelivered_position (s : State) (r : CueReport) (p : Fin 4) :
    (s.cueUndelivered r).pos.positions[p] =
      if s.stc.straps.role = .venue ∧ r.code = .talkRequest ∧ r.position.toNat = p.val then
        (Position.requestOutcome r.tag false s.pos.positions[p]).judged
      else s.pos.positions[p] := by
  have venue : s.venue = true ↔ s.stc.straps.role = .venue := by simp [State.venue]
  unfold State.cueUndelivered State.cueOutcome
  split
  · next q hv hc hq =>
    have hq' : r.position.toNat = q.val := by
      unfold positionOf at hq; split at hq <;> simp at hq; rw [← hq]
    have : s.stc.straps.role = .venue := venue.1 hv
    show (modifyAt s.pos.positions q _)[p] = _
    rw [modifyAt_get]
    by_cases h : p = q
    · subst h; simp [this, hc, hq']
    · have : ¬ q.val = p.val := fun e => h (Fin.ext e.symm)
      simp [h, hq', this]
  · next h =>
    rw [if_neg]
    · rfl
    rintro ⟨hv, hc, hp⟩
    refine h p (venue.2 hv) hc ?_
    simp [positionOf, hp]

/-- Of the panel only positions change, and none of the gallery's, nor of a venue's where the cue is no talk request. -/
theorem State.cueUndelivered_pos (s : State) (r : CueReport) :
    (s.cueUndelivered r).pos = { s.pos with positions := (s.cueUndelivered r).pos.positions }
    ∧ (s.stc.straps.role = .gallery ∨ r.code ≠ .talkRequest → (s.cueUndelivered r).pos = s.pos) := by
  unfold State.cueUndelivered State.cueOutcome
  split
  · next hv hc _ =>
    refine ⟨rfl, fun h => ?_⟩
    rcases h with h | h
    · exact absurd (show (s.stc.straps.role == Role.venue) = true from hv) (by simp [h])
    · exact absurd hc h
  · exact ⟨rfl, fun _ => rfl⟩

/-- Cues reported undelivered one after another do what `State.cuesLost` says of them together. -/
theorem State.cuesLost_foldl (cues : List CueReport) (s : State) :
    State.cuesLost cues s (cues.foldl State.cueUndelivered s) := by
  induction cues generalizing s with
  | nil => simp [State.cuesLost]
  | cons r rs ih =>
    obtain ⟨hf, hs, hp, hv⟩ := ih (s.cueUndelivered r)
    obtain ⟨kp, ks⟩ := s.cueUndelivered_pos r
    have role : (s.cueUndelivered r).stc = s.stc := by simp
    have raised : (s.cueUndelivered r).flag .cueUndelivered = true := by
      have : (s.cueUndelivered r).svp = (s.raise .cueUndelivered).svp := by
        unfold State.cueUndelivered State.cueOutcome; split <;> rfl
      rw [State.flag, this]; simpa [State.flag] using s.flag_raise .cueUndelivered .cueUndelivered
    rw [role] at hs hv
    rw [List.foldl_cons]
    refine ⟨by simp [hf, raised], fun h => ?_, by rw [hp, kp], fun venue p => ?_⟩
    · rw [hs (h.imp_right fun h x hx => h x (List.mem_cons_of_mem _ hx)),
        ks (h.imp_right fun h => h r List.mem_cons_self)]
    · obtain ⟨named, other⟩ := hv venue p
      have one := s.cueUndelivered_position r p
      generalize (s.cueUndelivered r).pos.positions[p] = q at one named other
      generalize s.pos.positions[p] = old at one ⊢
      by_cases here : r.code = .talkRequest ∧ r.position.toNat = p.val
      · rw [if_pos ⟨venue, here⟩] at one
        by_cases own : old.tag = some r.tag
        · have gone : q.tag = none := by simp [one, Position.requestOutcome, Position.judged, own]
          have := (other fun ⟨x, _, _, _, e⟩ => by simp [gone] at e).2 (by
            simp [one, Position.requestOutcome, Position.judged, own, Position.sound, selectionOf])
          refine ⟨fun _ => ?_, fun h => absurd ⟨r, List.mem_cons_self, here.1, here.2, own⟩ h⟩
          rw [this, one]; simp [Position.requestOutcome, Position.judged, own]
        · have judged : q = old.judged := by simp [one, Position.requestOutcome, own]
          subst judged
          refine ⟨fun ⟨x, hx, a, b, e⟩ => ?_, fun h => ?_⟩
          · refine (named ⟨x, ?_, a, b, e⟩).trans rfl
            rcases List.mem_cons.1 hx with rfl | hx
            · exact absurd e own
            · exact hx
          · have := other fun ⟨x, hx, a⟩ => h ⟨x, List.mem_cons_of_mem _ hx, a⟩
            refine ⟨this.1.trans rfl, fun sound => ?_⟩
            have same : old.judged = old := by
              rw [Position.judged, selectionOf, ← sound.1]
            rw [same] at this
            exact this.2 sound
      · rw [if_neg fun h => here h.2] at one
        subst one
        refine ⟨fun ⟨x, hx, a, b, e⟩ => named ⟨x, ?_, a, b, e⟩,
          fun h => other fun ⟨x, hx, a⟩ => h ⟨x, List.mem_cons_of_mem _ hx, a⟩⟩
        rcases List.mem_cons.1 hx with rfl | hx
        · exact absurd ⟨a, b⟩ here
        · exact hx
end Sys2Proof.Machine
end

