-- ==== Sys2Proof/Laws/Step.lean ====
section
/-! SUPPORT. What a step, an event and the empty queue can do, said once. -/

namespace Sys2Proof.Machine

/-- An event either does not come about, and changes nothing, or has its effect at its instant. -/
theorem State.takeEvent_next {s t : State} {due : Option Nat} {effect : State → State}
    (h : s.takeEvent due effect = .next t) :
    due = none ∧ t = s ∨ ∃ d, due = some d ∧ t = effect (s.waitUntil d) := by
  cases due with
  | none => exact .inl ⟨rfl, (Host.Outcome.next.inj h).symm⟩
  | some d => exact .inr ⟨d, rfl, (Host.Outcome.next.inj h).symm⟩

/-- An event that comes about has its effect. -/
theorem State.takeEvent_some {s : State} {due : Option Nat} {d : Nat} (effect : State → State) (h : due = some d) :
    s.takeEvent due effect = .next (effect (s.waitUntil d)) := by subst h; rfl

/-- An event that does not come about changes nothing. -/
theorem State.takeEvent_none {s : State} {due : Option Nat} (effect : State → State) (h : due = none) :
    s.takeEvent due effect = .next s := by subst h; rfl

/-- An event that comes about now comes about where its condition holds. -/
theorem State.nowIf_eq {s : State} {c : Bool} {d : Nat} (h : s.nowIf c = some d) : c = true ∧ d = s.now := by
  cases c
  · exact absurd h (by simp [State.nowIf])
  · exact ⟨rfl, (Option.some.inj h).symm⟩

/-- Waiting for an instant that has come changes nothing. -/
@[simp] theorem State.waitUntil_now (s : State) : s.waitUntil s.now = s := by
  simp [State.waitUntil, State.withNow]

/-- An event due now that comes about has its effect on the state as it stands. -/
theorem State.takeEvent_nowIf {s : State} {c : Bool} (effect : State → State) :
    s.takeEvent (s.nowIf c) effect = .next (if c then effect s else s) := by
  cases c <;> simp [State.nowIf, State.takeEvent]

/-- A step runs the command at the front of the queue, or queues one. -/
theorem step_next {s t : State} (h : step s = .next t) :
    (∃ c rest, s.pending = c :: rest ∧ exec c (s.withPending rest) = .next t)
      ∨ s.pending = [] ∧ t = s.ownNext := by
  unfold step at h
  split at h
  · exact .inl ⟨_, _, ‹_›, h⟩
  · exact .inr ⟨‹_›, (Host.Outcome.next.inj h).symm⟩

/-- Queueing the station's own next command changes only the queue and the counter of free choices. -/
theorem State.ownNext_eq (s : State) :
    s.ownNext = { s with ties := s.ownNext.ties, pending := s.ownNext.pending } := by
  unfold State.ownNext
  split
  · rfl
  · split <;> rfl

end Sys2Proof.Machine
end

