-- ==== Sys2Proof/Tests/Slice0.lean ====
section
/-! SUPPORT. Tests against the manual's worked examples, and a witness for the hypotheses of each statement: a concrete
state that meets them, clause by clause. -/

namespace Sys2Proof.Tests

-- One after another: each waits for the kernel to have all before it, and as many waiting threads take the memory.
set_option Elab.async false

open Sys2Proof Sys2Proof.Machine

/-! ## A small station -/

/-- An image of a station with B = 24, W = 8, T = 48, k = 4, H = 32 and L = 4: one sourced stream, of ID 30, and one
subscription, of ID 0, designated RETURN; capture port 0 CLOCKING and port 1 LISTEN. -/
def image (role : Role) : Image where
  name := Vector.replicate 10 0x41#8
  block := .b24
  period := 20
  returnTimeout := 30
  window := 8
  target := 48
  shift := 4
  slipHoldoff := 32
  limit := 4
  fallback := 300
  scanRate := 1000
  debounce := 5
  gallery := 1#5
  mask := 0#18
  capture := #v[⟨false, 24, true⟩, ⟨true, 24, true⟩]
  playout := #v[⟨false, 24⟩, ⟨true, 24⟩, ⟨false, 24⟩, ⟨false, 24⟩]
  sources := [⟨30#6, true, false, [⟨0, .onAir 0⟩]⟩]
  subscriptions := [⟨0#6, .programme, #v[some 8, none, none, none]⟩]
  positions := Vector.ofFn fun p => ⟨⟨p.val, by omega⟩, ⟨p.val, by omega⟩, 0, 0⟩
  inputs := match role with
    | .venue => Vector.replicate 16 ⟨.unused, 0#5, 0#4⟩
    | .gallery => (Vector.replicate 16 ⟨.unused, 0#5, 0#4⟩).set 0 ⟨.tally, 19#5, 1#4⟩
  lamps := match role with
    | .venue => Vector.replicate 16 none
    | .gallery => (Vector.replicate 16 none).set 5 (some (19#5, 1))
  check := 0#16

/-- Station 2 after a good load, in an attachment state, its line between frames. -/
def station (state : AttachmentState) (role : Role := .venue) : State :=
  { State.reset with
    atc := { State.reset.atc with state := state, attach := true, upstream := .present }
    rfw := ⟨[], .ready 0 none, none⟩
    pru := { State.reset.pru with timer := some 0 }
    stc := { State.reset.stc with
      held := false, load := .loaded, image := some (image role), straps := ⟨2#5, role, false, false⟩ } }

/-- The station with a frame on the transmit line. -/
def sending (s : State) : State := { s with rfw := { s.rfw with arbiter := .sending ⟨[0x3D#8], true⟩ 0 } }

/-- A station whose configuration memory the straps leave to be rewritten. -/
def maintained : State :=
  { State.reset with stc := { State.reset.stc with held := false, load := .maintenance } }

/-- The station with one frame closed by an END, as it was sent. -/
def arrived (s : State) (f : Frame) : State := { s with rx := ⟨none, [⟨f.octets, f.octets.length⟩]⟩ }

/-- An ANNOUNCE without streams. -/
def announceOf (a : Address) : AnnounceFrame :=
  ⟨a, 9#8, .gallery, 20#16, ⟨true, false, false⟩, Vector.replicate 10 0x20#8, 0x0416#16, 0#16, []⟩

/-- An AUDIO frame of one 16-bit channel at B = 24: 63 octets. -/
def audioOf (a : Address) (id : StreamId) (seq : Half) (stamp : Word) : AudioFrame :=
  ⟨a, id, seq, stamp, ⟨0#2, false, 0#2, false, false⟩, List.replicate 48 1#8⟩

/-- The CUE of the manual's worked example: origin 7, destination 1, TALK_REQUEST of position 2 with tag 9Ah. -/
def cueOf : CueFrame := ⟨7#5, 1#5, .talkRequest, 2#4, 0x9A#8⟩

/-- The state after a command. -/
def after (c : Instr) (s : State) : State :=
  match exec c s with
  | .next t => t
  | .fault _ | .refused _ => State.reset

/-- What makes a frame, as it is sent, one that a station takes; the check need not be computed. -/
def taken (s : State) (f : Frame) : Bool := decide <|
  (s.attached = true ∧ s.incrementDue = false) ∧ (11 ≤ f.octets.length ∧ f.octets.length ≤ 1167)
  ∧ (kindOf f.octets = kindAudio ∨ kindOf f.octets = kindAnnounce ∨ kindOf f.octets = kindCue)
  ∧ (originOf f.octets ≠ 0#5 ∧ originOf f.octets ≠ 31#5) ∧ lengthForKind f.octets = some f.octets.length
  ∧ (kindOf f.octets = kindCue → CueCode.ofOctet (octetAt f.octets 4) ≠ none) ∧ readFrame f.octets = some f

/-- Such a frame is taken. -/
theorem takes_arrived {s : State} {f : Frame} (t : taken s f = true) :
    (arrived s f).takes ⟨f.octets, f.octets.length⟩ [] f :=
  have h := of_decide_eq_true t
  ⟨⟨h.1.1, rfl, h.1.2⟩, judge_octets f _ h.2.1 h.2.2.1 h.2.2.2.1 h.2.2.2.2.1 h.2.2.2.2.2.1, h.2.2.2.2.2.2⟩

/-- A station to which a frame has come, as it was sent, takes it. -/
abbrev takes (s : State) (f : Frame) : Prop := (arrived s f).takes ⟨f.octets, f.octets.length⟩ [] f

/-! ## Checks, frames and words -/

/-- The smoke test of the well-formedness checks: each refuses the ill-formed commands at its boundaries. -/
theorem test_wellFormed_refuses :
    Instr.wellFormed (.peerExpiry 0) = false ∧ Instr.wellFormed (.peerExpiry 31) = false
    ∧ Instr.wellFormed (.clockingFrameComplete 0 (List.replicate 9 0#32)) = false
    ∧ Instr.wellFormed (.captureFrameReceived 1 (List.replicate 9 0#32)) = false
    ∧ Instr.wellFormed (.peerExpiry 30) = true
    ∧ Instr.wellFormed (.captureFrameReceived 1 (List.replicate 8 0#32)) = true := by decide

/-- The record check's generator and start give the well-known value for the digits 1 to 9 (R179). -/
theorem test_recordCheck_digits :
    recordCheck [0x31#8, 0x32#8, 0x33#8, 0x34#8, 0x35#8, 0x36#8, 0x37#8, 0x38#8, 0x39#8] = 0x29B1#16 := by
  decide +kernel

/-- The frame check's do so too, over the octets but the transit octet (R14). -/
theorem test_frameCheck_digits :
    frameCheck [0x31#8, 0x32#8, 0xFF#8, 0x33#8, 0x34#8, 0x35#8, 0x36#8, 0x37#8, 0x38#8, 0x39#8]
      = 0xFC891918#32 := by decide +kernel

/-- The worked example of 01_ring_frames_and_line_units.md: the cue's octets before its check as they go out. -/
theorem test_cue_octets :
    (Frame.cue cueOf).body = [0x3D#8, 7#8, 0x1F#8, 1#8, 0x01#8, 2#8, 0x9A#8]
    ∧ (Frame.cue cueOf).octets.length = 11 := by decide +kernel

/-- The same example: the transit octets sent on by the four stations it passes. -/
theorem test_cue_transit_octets :
    transitOctet (31#5 - 1) false = 0x1E#8 ∧ transitOctet (30#5 - 1) true = 0x3D#8
    ∧ transitOctet (29#5 - 1) true = 0x3C#8 ∧ transitOctet (28#5 - 1) true = 0x3B#8 := by decide

/-- Sizes of the worked example: two channels of 24 bits at B = 48 carry 288 octets. -/
theorem test_payload_length : (Format.mk 1#2 true 1#2 false false).payloadLength = some 288 := by decide

/-- R133's rounding, 06's narrowing of a 24-bit sample and its widening back. -/
theorem test_widths : convertWidth true false 123456 = 482 ∧ convertWidth true false (-123456) = -483
    ∧ convertWidth false true 482 = 123392 := by decide

/-- The opcode table spells no command by a word. -/
theorem test_no_words : decodeTableWord 0 0 = none ∧ decodeTableWord 16 0xFFFF = none := by decide

/-! ## A record -/

/-- A record's octets before its check: the load with clamped settings of 11_start_up_and_configuration.md. -/
def recordBody : List Octet :=
  (List.replicate 10 0x41 ++ [1, 0, 2, 30, 0, 1, 144, 4, 0, 1, 4, 9, 196, 2, 5, 1, 0, 0, 0, 10, 11, 2, 3, 2, 2, 1,
    30, 4, 0, 1] ++ List.replicate 36 0 ++ [3, 0, 1, 8, 9, 255, 255, 1, 2, 10, 255, 255, 255, 2, 0, 11, 255, 255, 255]
    ++ List.replicate 78 0 ++ [0, 0, 0, 0, 1, 1, 0, 0, 2, 2, 0, 0, 3, 3, 0, 0] ++ List.replicate 80 0 : List Nat).map
    (BitVec.ofNat 8)

/-- The record with its check. -/
def record : List Octet := recordBody ++ octets16 (recordCheck recordBody)

/-- The straps of the example: address 19, a venue. -/
def straps : Straps := ⟨19#5, .venue, false, false⟩

/-- The example's settings as clamped. -/
theorem test_settings_clamped :
    let g := readImage record
    g.block = .b48 ∧ g.period = 4 ∧ g.window = 1 ∧ g.target = 287 ∧ g.slipHoldoff = 2 ∧ g.fallback = 2000
    ∧ g.debounce = 5 ∧ g.gallery = 1#5 ∧ g.sources.length = 1 ∧ g.subscriptions.length = 3 := by decide +kernel

/-- The example's fields at their offsets, those of its first subscription and of its last position. -/
theorem test_record_fields :
    let g := readImage record
    g.sources.map (fun c => (c.id, c.wide, c.channels)) = [(30#6, true, [⟨0, .onAir 0⟩])]
    ∧ g.subscriptions.head? = some ⟨0#6, .programme, #v[some 8, some 9, none, none]⟩
    ∧ g.positions[(3 : Fin 4)] = ⟨3, 3, 0, 0⟩
    ∧ (readImage (record.set 28 0x81#8)).mask = 0x81#18 ∧ (readImage (record.set 26 0x02#8)).mask = 0x20000#18 := by
  decide +kernel

/-- The check of the record matches. -/
theorem record_checked : recordCheck (record.take 269) = field16 record 269 := by
  have h := record_parts recordBody (recordCheck recordBody) (by decide +kernel)
  rw [record, h.1, h.2]

/-- The example's load is good, and each fault is found where the manual's order puts it. -/
theorem test_loadFault :
    loadFault record straps = none
    ∧ loadFault record { straps with address := 0#5 } = some .badAddress
    ∧ loadFault record { straps with address := 31#5 } = some .badAddress
    ∧ loadFault record { straps with address := 1#5 } = some .badAddress
    ∧ loadFault (List.replicate 271 0xFF#8) straps = some .noMemory
    ∧ loadFault (recordBody ++ octets16 (recordCheck recordBody + 1)) straps = some .checkMismatch := by
  refine ⟨?_, by decide +kernel, by decide +kernel, ?_, by decide +kernel, ?_⟩
  · rw [loadFault, if_neg (by decide +kernel), if_neg (by decide +kernel), if_neg (not_not_intro record_checked)]
    decide +kernel
  · rw [loadFault, if_neg (by decide +kernel), if_neg (by decide +kernel), if_neg (not_not_intro record_checked)]
    decide +kernel
  · have h := record_parts recordBody (recordCheck recordBody + 1) (by decide +kernel)
    rw [loadFault, if_neg (by decide +kernel), if_neg (by decide +kernel), if_pos (by rw [h.1, h.2]; simp)]

/-! ## Witnesses: the queue, reset and start-up -/

theorem test_witness_stepRunsFrontCommand :
    ({ State.reset with pending := [.attach] } : State).pending = .attach :: [] := by decide +kernel

theorem test_witness_everyStepCompletes :
    State.reset.pending = [] ∧ State.reset.dueEvents = []
    ∧ (let s := { station .joining with atc := { (station .joining).atc with attachDue := true } }
      s.pending = [] ∧ s.dueEvents = [.attach])
    ∧ (let s := { station .active with now := 512 * 3125 }
      s.pending = [] ∧ ∃ rest, s.dueEvents = .dividerIncrement :: rest) := by
  refine ⟨by decide +kernel, by decide +kernel, by decide +kernel, by decide +kernel, [], by decide +kernel⟩

/-- Among them a frame cut off in mid-unit, its second unit due next, and a reset during its own ABORT units. -/
theorem test_witness_resetReleasesAttach :
    State.reset.stc.held = true
    ∧ ((station .joining).stc.held = false ∧ { (station .joining) with atc := Atc.reset }.atc.attach = false)
    ∧ ((station .active).stc.held = false ∧ (station .active).rfw.sending = false)
    ∧ (let s := { sending (station .active) with now := 1000 }
      s.stc.held = false ∧ s.atc.attach = true ∧ s.rfw.arbiter = .sending ⟨[0x3D#8], true⟩ 0 ∧ s.rfw.cut = none
      ∧ s.unitBegins (0 + 3072) 3072)
    ∧ (let s := { station .detached with rfw := ⟨[], .sending ⟨[0x3D#8], true⟩ 0, some ⟨3072, true⟩⟩ }
      s.stc.held = false ∧ s.atc.attach = true ∧ s.rfw.arbiter = .sending ⟨[0x3D#8], true⟩ 0
      ∧ s.rfw.cut = some ⟨3072, true⟩)
    ∧ { sending State.reset with rfw := ⟨[], .sending ⟨[0x3D#8], true⟩ 0, some ⟨5, true⟩⟩ }.rfw.cut
        = some ⟨5, true⟩ := by decide +kernel

theorem test_witness_releaseLatchesStraps :
    State.reset.stc.held = true ∧ (station .active).stc.held = false := by decide +kernel

/-- The station reading its record. -/
def reading (m : Memory) (a : Straps) : State :=
  { State.reset with stc := { State.reset.stc with held := false, memory := m, straps := a } }

/-- A memory the record has been written to. -/
def memory : Memory := Memory.writeFrom [] 0 record

/-- It reads back as the record. -/
theorem memory_record : memory.record = record := by
  have h := Memory.readFrom_writeFrom (m := []) 0 record rfl
  rw [(by decide +kernel : record.length = Config.recordLength)] at h
  exact h

theorem test_witness_loadEndDecides :
    ((reading [] straps).stc.held = false ∧ (reading [] straps).stc.load = .loading
      ∧ loadFault (reading [] straps).stc.memory.record straps = some .noMemory)
    ∧ ((reading memory straps).stc.held = false ∧ (reading memory straps).stc.load = .loading
      ∧ loadFault (reading memory straps).stc.memory.record straps = none) := by
  refine ⟨by decide +kernel, rfl, rfl, ?_⟩
  rw [reading, memory_record]
  exact test_loadFault.1

/-! ## Witnesses: the receive line and joining -/

/-- The station with its receive line in LOSS after so many consecutive valid units. -/
def lossy (state : AttachmentState) (valid : Nat) : State :=
  { station state with atc := { (station state).atc with upstream := .loss, validRun := valid } }

/-- The station with its receive line in PRESENT and quiet for so many unit times. -/
def quiet (state : AttachmentState) (units : Nat) : State :=
  { station state with atc := { (station state).atc with quietUnits := units } }

theorem test_witness_lineUnitCounts :
    (station .halted).watching = false
    ∧ ((station .active).watching = true ∧ (station .active).atc.upstream = .present)
    ∧ ((lossy .joining 255).watching = true ∧ (lossy .joining 255).atc.upstream = .loss) := by decide +kernel

theorem test_witness_unitsAreFramed :
    ((station .active).attached = true ∧ (station .active).rx.opened = none)
    ∧ (station .joining).attached = false
    ∧ (let s := { station .active with rx := ⟨some ⟨[], 0⟩, []⟩ }
      s.attached = true ∧ s.rx.opened.isSome) := by decide +kernel

theorem test_witness_upstreamSignalIsDeclared :
    ((quiet .active 64).watching = true ∧ (quiet .active 64).atc.upstream = .present
      ∧ 64 ≤ (quiet .active 64).atc.quietUnits ∧ (quiet .active 64).attached = true)
    ∧ ((quiet .joining 64).watching = true ∧ (quiet .joining 64).atc.upstream = .present
      ∧ 64 ≤ (quiet .joining 64).atc.quietUnits ∧ (quiet .joining 64).attached = false)
    ∧ ((lossy .active 256).watching = true ∧ (lossy .active 256).atc.upstream = .loss
      ∧ 256 ≤ (lossy .active 256).atc.validRun) := by decide +kernel

theorem test_witness_joiningEndsInProving :
    (let s := { station .joining with atc := { (station .joining).atc with holdoff := some 0 } };
      s.atc.state = .joining ∧ s.atc.holdoff = some 0)
    ∧ (let s := { station .joining with atc := { (station .joining).atc with attachDue := true } }
      s.atc.state = .joining ∧ s.atc.attachDue = true ∧ s.rfw.cut = none
      ∧ s.stc.image = some (image .venue) ∧ s.inq.slot = none) := by decide +kernel

/-! ## Witnesses: arriving frames -/

/-- Eleven octets with a matching check: a kind, an origin and five octets. -/
def checked (kind origin code : Octet) : List Octet :=
  let body := [kind, origin, 0x1F#8, 1#8, code, 2#8, 3#8]
  body ++ octets32 (frameCheck body)

/-- The station with some octets closed by an END. -/
def closed (s : State) (o : List Octet) : State := { s with rx := ⟨none, [⟨o, o.length⟩]⟩ }

theorem test_witness_stoppedFramesGoNoFurther :
    (let o := List.replicate 11 0#8;
      (closed (station .active) o).attached = true ∧ (closed (station .active) o).rx.closed = [⟨o, o.length⟩]
      ∧ (closed (station .active) o).incrementDue = false
      ∧ { closed (station .active) o with now := 512 * 3125 }.incrementDue = true
      ∧ judge ⟨o, o.length⟩ = .checkFailure)
    ∧ (let o := checked 0x55#8 7#8 1#8
      (closed (station .active) o).rx.closed = [⟨o, o.length⟩] ∧ judge ⟨o, o.length⟩ = .unknownKind)
    ∧ (let f := Frame.announce (announceOf 2#5)
      (arrived (station .active) f).takes ⟨f.octets, f.octets.length⟩ [] f ∧ f.origin = (station .active).address)
    ∧ (let f := Frame.announce (announceOf 7#5)
      let o := f.octets.set 2 0#8
      (closed (station .active) o).takes ⟨o, o.length⟩ [] f ∧ f.origin ≠ (station .active).address
      ∧ hopsOf o = 0#5) := by decide +kernel

/-- The tests of R15 at their edges: the lengths 10, 11 and 1168, the origins 0, 1, 30 and 31, a length that does not fit
the kind, and a code that names no cue. -/
theorem test_witness_framesAreJudged :
    judge ⟨List.replicate 10 0#8, 10⟩ = .checkFailure ∧ judge ⟨List.replicate 1168 0#8, 1168⟩ = .checkFailure
    ∧ judge ⟨List.replicate 11 0#8, 11⟩ = .checkFailure
    ∧ judge ⟨checked 0x55#8 7#8 1#8, 11⟩ = .unknownKind
    ∧ judge ⟨checked 0x3D#8 0#8 1#8, 11⟩ = .checkFailure ∧ judge ⟨checked 0x3D#8 31#8 1#8, 11⟩ = .checkFailure
    ∧ judge ⟨checked 0x3D#8 1#8 1#8, 11⟩ = .wellFormed ∧ judge ⟨checked 0x3D#8 30#8 0x14#8, 11⟩ = .wellFormed
    ∧ judge ⟨checked 0x2C#8 1#8 1#8, 11⟩ = .checkFailure
    ∧ judge ⟨checked 0x3D#8 1#8 0x03#8, 11⟩ = .unknownKind
    ∧ 1167 < (⟨List.replicate 1167 0#8, 1168⟩ : RxFrame).length := by decide +kernel

theorem test_witness_ownFrameRoundTrip :
    let a := audioOf 30#5 63#6 0xFFFF#16 0xFFFFFFFF#32
    1 ≤ (Frame.audio a).origin.toNat ∧ (Frame.audio a).origin.toNat ≤ 30
    ∧ a.format.payloadLength = some a.payload.length ∧ (announceOf 1#5).streams.length ≤ 4 := by decide +kernel

/-- A frame of another station, as it was sent, in each state that treats it in its own way; and the repeat queue with
room for its 27 octets exactly, and for one less. -/
theorem test_witness_othersAreForwarded :
    (let f := Frame.announce (announceOf 1#5);
      ∀ n ∈ [4069, 4070],
        let s := { arrived (station .active) f with rfw := ⟨[List.replicate n 0#8], .ready 0 none, none⟩ }
        (s.attached = true ∧ s.rx.closed = [⟨f.octets, f.octets.length⟩] ∧ s.incrementDue = false)
        ∧ f.octets.length = 27 ∧ (s.rfw.repeats.map List.length).sum = n)
    ∧ (let f := Frame.announce (announceOf 1#5);
      (arrived (station .leaving) f).takes ⟨f.octets, f.octets.length⟩ [] f
      ∧ f.origin ≠ (station .leaving).address ∧ hopsOf f.octets ≠ 0#5)
    ∧ (let f := Frame.cue cueOf
      (arrived (station .proving) f).takes ⟨f.octets, f.octets.length⟩ [] f
      ∧ f.origin ≠ (station .proving).address ∧ hopsOf f.octets ≠ 0#5) := by decide +kernel

/-! ## Witnesses: the arbiter and leaving -/

theorem test_witness_arbiterKeepsTheGap :
    (let s := { station .active with rfw := ⟨[], .gap 0, none⟩ };
      s.rfw.arbiter = .gap 0)
    ∧ (∀ n ∈ [(0, 0), (1, 3072), (3072, 3072), (3073, 6144)],
      let s := { station .active with now := n.1, rfw := ⟨[[0x3D#8]], .ready 0 none, none⟩ }
      s.decideStart.rfw.arbiter = .ready 0 (some .repeatHead) ∧ s.rfw.repeats = [[0x3D#8]] ∧ s.unitBegins 0 n.2)
    ∧ (∀ since k, (station .active).decideStart.rfw.arbiter ≠ .ready since (some k))
    ∧ ((sending (station .leaving)).rfw.arbiter = .sending ⟨[0x3D#8], true⟩ 0
      ∧ (sending (station .leaving)).rfw.cut = none ∧ (sending (station .leaving)).now < 0 + (0 + 1) * 3072
      ∧ 0 + 0 * 3072 ≤ (sending (station .leaving)).now) := by
  refine ⟨by decide +kernel, by decide +kernel, fun since k h => ?_, by decide +kernel⟩
  rw [(by decide +kernel : (station .active).decideStart.rfw.arbiter = .ready 0 none)] at h
  cases h

/-- Between two unit times of the line the START waits for the next one, and with it the queue (R39, R41). -/
theorem test_start_in_the_next_unit :
    let s := { station .active with now := 1000, rfw := ⟨[[0x3D#8]], .ready 0 none, none⟩ }
    let t := after .repeatFrameStart s
    s.txUnit = .idle ∧ t.now = 3072 ∧ t.txUnit = .start ∧ { t with now := 6144 }.txUnit = .data 0x3D#8
    ∧ { t with now := 9216 }.txUnit = .finish := by decide +kernel

/-- An own frame's entry carries the ring time of its START, here 1 microsecond, not the 0 of the instant before (R45, R52). -/
theorem test_entry_at_the_start :
    let s := { station .active with
      now := 25 * 3072 - 1, inq := ⟨[], some (announceOf 2#5), []⟩, rfw := ⟨[], .ready 0 none, none⟩ }
    let t := after .ownFrameStart s
    s.ringTime = 0#32 ∧ t.now = 25 * 3072 ∧ t.trm.transit.map (·.start) = [1#32] ∧ t.ringTime = 1#32 := by
  decide +kernel

/-- The leave limit at the instant of a START: the START goes out whole, then the ABORT unit (R29). -/
theorem test_abort_after_a_start_of_that_instant :
    let t := after .leaveLimitExpiry { sending (station .leaving) with
      atc := { (station .leaving).atc with leaveTimer := some 0 }
      rfw := ⟨[], .sending ⟨[0x3D#8], true⟩ (50 * 76800000), none⟩ }
    t.txUnit = .start ∧ { t with now := t.now + 3072 }.txUnit = .abort := by decide +kernel

/-- The leave limit in the middle of the START: the START goes out whole, then the ABORT unit (R29). -/
theorem test_abort_in_place_of_the_next_unit :
    let t := after .leaveLimitExpiry { sending (station .leaving) with
      atc := { (station .leaving).atc with leaveTimer := some 0 }
      rfw := ⟨[], .sending ⟨[0x3D#8], true⟩ (50 * 76800000 - 1000), none⟩ }
    t.txUnit = .start ∧ { t with now := t.now + 2072 }.txUnit = .abort ∧ t.atc.attach = true := by decide +kernel

/-- The final announce of station 2. -/
def finalAnnounce : AnnounceFrame := { announceOf 2#5 with flags := ⟨true, false, true⟩ }

/-- The station with its insertion queues filled. -/
def loaded (state : AttachmentState) (q : Inq) : State := { station state with inq := q }

/-- So many transit entries. -/
def transits (s : State) (n : Nat) : State :=
  { s with trm := { s.trm with transit := List.replicate n ⟨.announce 0#8, 0#32, none⟩ } }

/-- A choice made now of each kind, in each state that allows it; one that stands though a repeat has arrived; and a full
transit list. -/
theorem test_witness_ownFramesStartInOrder :
    (let s := transits (loaded .active ⟨[cueOf], some (announceOf 2#5), [audioOf 2#5 30#6 0#16 0#32]⟩) 127;
      s.decideStart.rfw.arbiter = .ready 0 (some .cue) ∧ s.unitBegins 0 0 ∧ s.stc.held = false
      ∧ s.inq.cues = [cueOf])
    ∧ (∀ v ∈ [(AttachmentState.proving, announceOf 2#5), (.active, announceOf 2#5), (.leaving, finalAnnounce)],
      let s := loaded v.1 ⟨[], some v.2, [audioOf 2#5 30#6 0#16 0#32]⟩
      s.decideStart.rfw.arbiter = .ready 0 (some .announce) ∧ s.stc.held = false ∧ s.inq.slot = some v.2)
    ∧ (let s := { loaded .active ⟨[], none, [audioOf 2#5 30#6 0#16 0#32]⟩ with
        now := 1, rfw := ⟨[[0x3D#8]], .ready 0 (some .audio), none⟩ }
      s.decideStart.rfw.arbiter = .ready 0 (some .audio) ∧ s.unitBegins 0 3072 ∧ s.rfw.repeats ≠ []
      ∧ s.inq.audio = [audioOf 2#5 30#6 0#16 0#32])
    ∧ 128 ≤ (transits (loaded .active ⟨[], some (announceOf 2#5), []⟩) 128).trm.transit.length := by decide +kernel

/-- Within one IDLE unit an own announce joins and then a repeat, or the repeat and then the announce: the one taken first
starts (R44). -/
theorem test_the_event_taken_first_decides :
    let s := { station .active with now := 1000 }
    let announced := fun u : State => (u.announce false).decideStart
    let arrived := fun u : State => (u.appendRepeat [0x3D#8]).decideStart
    let own := arrived (announced s)
    let other := announced (arrived s)
    (after .repeatFrameStart own = own ∧ (after .ownFrameStart own).inq.slot = none
      ∧ (after .ownFrameStart own).rfw.repeats = [[0x3D#8]])
    ∧ after .ownFrameStart other = other ∧ (after .repeatFrameStart other).rfw.repeats = []
    ∧ (after .repeatFrameStart other).inq.slot.isSome = true := by decide +kernel

/-- Station 2 with its position 2 asking to talk under tag 0x9A, some transit entries and some cues waiting. -/
def talking (es : List Entry) (cues : List CueFrame) (state : AttachmentState := .active) : State :=
  { station state with
    trm := { (station state).trm with transit := es }
    inq := { (station state).inq with cues := cues }
    pos := { (station state).pos with
      positions := (station state).pos.positions.set 2 { Position.reset with tag := some 0x9A#8, talk := .flash } } }

/-- Position 2 no longer asks, CUE_UNDELIVERED is raised, and the other positions stand. -/
abbrev Fallen (t : State) : Prop :=
  (t.pos.positions[(2 : Fin 4)]).talk = .off ∧ (t.pos.positions[(2 : Fin 4)]).tag = none
  ∧ t.flag .cueUndelivered = true ∧ t.pos.positions[(1 : Fin 4)] = Position.reset

/-- The entry to LEAVING discards a waiting TALK_REQUEST: the lamp and the tag of its position go (R50, R163, R165). -/
theorem test_discarded_request_clears_its_position :
    let t := after .restartRing (talking [] [cueOf])
    Fallen t ∧ t.inq.cues = [] ∧ t.counter .ownDiscarded = 1 ∧ t.counter .announcesReplaced = 0 := by decide +kernel

theorem test_witness_restartRingEntersLeaving :
    ((station .active).stc.load = .loaded ∧ (station .active).stc.image = some (image .venue)
      ∧ (station .active).inService = true)
    ∧ ((talking [] [cueOf]).stc.load = .loaded ∧ (talking [] [cueOf]).stc.image = some (image .venue)
      ∧ (talking [] [cueOf]).inService = true ∧ (talking [] [cueOf]).stc.straps.role = .venue
      ∧ (talking [] [cueOf]).inq.cues = [cueOf])
    ∧ ((station .leaving).stc.load = .loaded ∧ (station .leaving).inService = false) := by decide +kernel

/-- The station in LEAVING, drained, its leave timer running from the start. -/
def drained (cause : LeaveCause) : State :=
  { station .leaving with
    atc := { (station .leaving).atc with
      idleRun := 48, finalSent := true, leaveTimer := some 0, leaveCause := some cause } }

/-- The station in LEAVING with the ABORT unit of the leave limit on the line. -/
def aborting (cause : LeaveCause) : State :=
  { drained cause with
    atc := { (drained cause).atc with leaveTimer := none }
    rfw := ⟨[], .sending ⟨[0x3D#8], true⟩ 0, some ⟨0, false⟩⟩ }

/-- The station drained for a restart, its return programme LOCKED. -/
def listening : State :=
  { drained .restart with srx := (Vector.replicate 16 Context.reset).set 0 { Context.reset with state := .locked } }

/-- The three ways a leave ends, the drain found in READY and in GAP. -/
theorem ends_leave (cause : LeaveCause) :
    (drained cause).endsLeave .leaveDrainComplete 0
    ∧ { drained cause with rfw := ⟨[], .gap 0, none⟩ }.endsLeave .leaveDrainComplete 0
    ∧ (drained cause).endsLeave .leaveLimitExpiry (50 * 76800000)
    ∧ (aborting cause).endsLeave .leaveAbortComplete 3072 :=
  ⟨⟨rfl, .inl ⟨rfl, rfl, rfl, rfl, rfl, ⟨0, .inl ⟨_, rfl⟩⟩, Nat.le_refl 48⟩⟩,
    ⟨rfl, .inl ⟨rfl, rfl, rfl, rfl, rfl, ⟨0, .inr rfl⟩, Nat.le_refl 48⟩⟩,
    ⟨rfl, .inr (.inl ⟨rfl, rfl, 0, rfl, by cases cause <;> decide +kernel⟩)⟩,
    ⟨rfl, .inr (.inr ⟨rfl, 0, rfl, by cases cause <;> decide +kernel⟩)⟩⟩

theorem test_witness_leaveEndsInRelease :
    (let s := sending (drained .restart);
      s.atc.state = .leaving ∧ s.atc.leaveTimer = some 0 ∧ s.rfw.arbiter = .sending ⟨[0x3D#8], true⟩ 0
      ∧ s.rfw.cut = none ∧ { s with now := 50 * 76800000 }.unitBegins (0 + 3072) (50 * 76800000))
    ∧ ((drained .restart).endsLeave .leaveDrainComplete 0 ∧ (aborting .restart).endsLeave .leaveAbortComplete 3072
      ∧ (drained .restart).endsLeave .leaveLimitExpiry (50 * 76800000))
    ∧ ((drained .restart).inq = ⟨[], none, []⟩ ∧ (aborting .restart).inq = ⟨[], none, []⟩)
    ∧ (drained .restart).withinCeilings ∧ (aborting .restart).withinCeilings :=
  ⟨by decide +kernel, ⟨(ends_leave .restart).1, (ends_leave .restart).2.2.2, (ends_leave .restart).2.2.1⟩,
    by decide +kernel, by decide +kernel, by decide +kernel⟩

theorem test_witness_leaveCauseDecides :
    (∀ cause, (drained cause).endsLeave .leaveDrainComplete 0
      ∧ { drained cause with rfw := ⟨[], .gap 0, none⟩ }.endsLeave .leaveDrainComplete 0
      ∧ (drained cause).endsLeave .leaveLimitExpiry (50 * 76800000)
      ∧ (aborting cause).endsLeave .leaveAbortComplete 3072)
    ∧ ((drained .restart).atc.leaveCause = some .restart ∧ (drained .restart).slipSound
      ∧ (drained .conflict).atc.leaveCause = some .conflict)
    ∧ ((listening.srx[(0 : Fin 16)]).state = .locked ∧ (listening.srx[(1 : Fin 16)]).state ≠ .locked
      ∧ listening.endsLeave .leaveDrainComplete 0 ∧ listening.atc.leaveCause = some .restart
      ∧ listening.stc.image = some (image .venue) ∧ (image .venue).designated .programme = some 0
      ∧ listening.stc.straps.role = .venue) :=
  ⟨ends_leave, by decide +kernel, by decide +kernel, by decide +kernel, (ends_leave .restart).1, by decide +kernel⟩

/-- The restart of a venue whose return programme is LOCKED: its run-out and the fallback timers start (R106, R152,
R170). -/
theorem test_restart_unlocks_the_return :
    let t := after .leaveDrainComplete listening
    (t.srx[(0 : Fin 16)]).state = .waiting ∧ (t.srx[(0 : Fin 16)]).runOut = some ⟨none, 0⟩
    ∧ (t.srx[(1 : Fin 16)]).runOut = none ∧ t.flag .streamUnlocked = true
    ∧ (t.pos.positions[(3 : Fin 4)]).timer = .running 0 := by decide +kernel

/-! ## Witnesses: the transit list -/

/-- The station with some transit entries. -/
def transiting (s : State) (es : List Entry) : State := { s with trm := { s.trm with transit := es } }

/-- Own frames back at station 2, as their transit entries have them. -/
def ownAnnounce : Frame := .announce (announceOf 2#5)
def ownAudio : Frame := .audio (audioOf 2#5 30#6 7#16 0#32)
def ownCue : Frame := .cue { cueOf with origin := 2#5 }
def announceEntry : Entry := ⟨.announce 9#8, 0#32, none⟩
def audioEntry : Entry := ⟨.audio 30#6 7#16, 0#32, none⟩
def cueEntry : Entry := ⟨.cue 0x9A#8, 0#32, some ⟨0x9A#8, .talkRequest, 2#4⟩⟩

theorem test_witness_headMatchDelivers :
    (let s := transiting (station .proving) [announceEntry, audioEntry];
      takes s ownAnnounce ∧ ownAnnounce.origin = s.address ∧ announceEntry.identity = ownAnnounce.identity)
    ∧ (let s := transiting (station .active) [audioEntry]
      takes s ownAudio ∧ ownAudio.origin = s.address ∧ audioEntry.identity = ownAudio.identity
      ∧ s.stc.image = some (image .venue) ∧ (image .venue).sourceOf 30#6 = some 0)
    ∧ (let s := transiting (station .active) [cueEntry]
      takes s ownCue ∧ ownCue.origin = s.address ∧ cueEntry.identity = ownCue.identity
      ∧ cueEntry.cue = some ⟨0x9A#8, .talkRequest, 2#4⟩ ∧ s.stc.straps.role = .venue
      ∧ ∀ tag ∈ [none, some 0x9A#8], { Position.reset with tag := tag, talk := if tag = none then .off else .flash }.sound) :=
  ⟨⟨takes_arrived (by decide +kernel), by decide +kernel⟩, ⟨takes_arrived (by decide +kernel), by decide +kernel⟩,
    takes_arrived (by decide +kernel), by decide +kernel⟩

/-- A late match whose new heads are overdue: they are lost by timeout at the same instant, up to the head within the
timeout, and their identities join the expired list; the undelivered request's position goes dark (R55, R57, R59). -/
theorem test_match_uncovers_overdue_heads :
    let inTime : Entry := ⟨.audio 30#6 8#16, 10000#32, none⟩
    let s := { arrived (talking [announceEntry, audioEntry, cueEntry, inTime] []) ownAnnounce with
      now := 40000 * 76800
      cap := { (station .active).cap with dividerAt := 40000 * 76800, lastEdge := some (40000 * 76800) } }
    let t := after .frameArrival s
    t.trm.transit = [inTime] ∧ t.trm.expired = [.audio 30#6 7#16, .cue 0x9A#8] ∧ t.counter .ownReturned = 1
    ∧ t.counter .timeoutLosses = 2 ∧ t.trm.heard[(0 : Fin 4)] = .unheard ∧ t.trm.lastTrip = 40000#32 ∧ Fallen t := by
  decide +kernel

theorem test_witness_skippedEntriesAreLost :
    let ahead := [announceEntry, audioEntry]
    let s := transiting (station .active) (ahead ++ cueEntry :: [announceEntry])
    takes s ownCue ∧ ownCue.origin = s.address ∧ ahead ≠ [] ∧ (∀ a ∈ ahead, a.identity ≠ ownCue.identity)
    ∧ cueEntry.identity = ownCue.identity
    ∧ (∃ a ∈ ahead, a.identity = .announce 9#8) ∧ (image .venue).sourceOf 30#6 = some 0
    ∧ cueEntry.cue.isSome = true ∧ s.stc.straps.role = .venue
    ∧ (let s := transiting (station .proving) [cueEntry, announceEntry]
      takes s ownAnnounce ∧ s.trm.transit = [cueEntry] ++ announceEntry :: [] ∧ s.atc.state = .proving
      ∧ (∀ a ∈ [cueEntry], a.identity ≠ ownAnnounce.identity) ∧ announceEntry.identity = .announce 9#8) :=
  ⟨takes_arrived (by decide +kernel), by decide +kernel, by decide +kernel, by decide +kernel, by decide +kernel,
    by decide +kernel, by decide +kernel, by decide +kernel, by decide +kernel,
    takes_arrived (by decide +kernel), by decide +kernel⟩

/-- The station with one transit entry, so many microseconds after its START. -/
def waited (us : Nat) : State := { transiting (station .active) [announceEntry] with now := us * 76800 }

/-- One microsecond inside the return timeout of 30 ms, and one beyond it. -/
theorem test_witness_headsTimeOut :
    (waited 0).attached = true ∧ (waited 0).stc.held = false ∧ (waited 0).stc.image = some (image .venue)
    ∧ (image .venue).clamped ∧ (waited 0).trm.transit = announceEntry :: []
    ∧ signedDiff (waited 30000).ringTime announceEntry.start ≤ (image .venue).returnTimeout * 1000
    ∧ (image .venue).returnTimeout * 1000 < signedDiff (waited 30001).ringTime announceEntry.start := by
  decide +kernel

/-- Heads of every kind, 40 ms old, time out together: the stream is UNHEARD, uncounted, and the cue is undelivered (R57,
R63, R64). -/
theorem test_timeout_outcomes :
    let t := after .returnTimeout (transiting (waited 40000) [announceEntry, audioEntry, cueEntry])
    t.trm.transit = [] ∧ t.trm.expired.length = 3 ∧ t.trm.heard[(0 : Fin 4)] = .unheard
    ∧ t.counter (.unheard 0) = 0 ∧ t.flag .cueUndelivered = true ∧ t.atc.closure = .opened := by decide +kernel

/-- A lost announce ends PROVING with RING_OPENED, whatever the closure was; in ACTIVE and LEAVING only a change raises it
(R25, R26, R62). -/
theorem test_lost_announce_opens_the_ring :
    ∀ v ∈ [(.proving, .opened, true), (.proving, .closed, true), (.active, .opened, false), (.active, .closed, true),
        (.leaving, .opened, false), (.leaving, .closed, true)],
      let s := transiting { station v.1 with
        now := 40000 * 76800, atc := { (station v.1).atc with closure := v.2.1 } } [announceEntry]
      let t := after .returnTimeout s
      t.atc.state = (if v.1 = .proving then .active else v.1) ∧ t.atc.closure = .opened
      ∧ t.flag .ringOpened = v.2.2 ∧ t.flag .ringClosed = false := by decide +kernel

theorem test_witness_lateReturnsAreCounted :
    let s := { station .active with trm := { (station .active).trm with
      transit := [audioEntry], expired := [.cue 1#8, .announce 9#8] } }
    takes s ownAnnounce ∧ ownAnnounce.origin = s.address ∧ (∀ e ∈ s.trm.transit, e.identity ≠ ownAnnounce.identity)
    ∧ s.trm.expired = [.cue 1#8] ++ ownAnnounce.identity :: [] ∧ ownAnnounce.identity ∉ [Identity.cue 1#8] :=
  ⟨takes_arrived (by decide +kernel), by decide +kernel⟩

/-- A request abandoned at the end of an address-conflict leave goes with its entry (R53, R165). -/
theorem test_abandoned_request_clears_its_position :
    let s := { talking [announceEntry, cueEntry] [] .leaving with atc := (drained .conflict).atc }
    let t := after .leaveDrainComplete s
    Fallen t ∧ t.atc.state = .halted ∧ t.counter .abandoned = 2 := by decide +kernel

theorem test_witness_foreignFramesHalt :
    (takes (station .active) ownAnnounce ∧ ownAnnounce.origin = (station .active).address
      ∧ (∀ e ∈ (station .active).trm.transit, e.identity ≠ ownAnnounce.identity)
      ∧ ownAnnounce.identity ∉ (station .active).trm.expired ∧ (station .active).trm.conflicts ≠ 2)
    ∧ (let s := fun a => { station a with trm := { (station a).trm with conflicts := 2 } }
      (takes (s .active) ownAnnounce ∧ (s .active).trm.conflicts = 2 ∧ (s .active).atc.state ≠ .leaving
        ∧ (s .active).stc.image.isSome = true)
      ∧ takes (s .leaving) ownAnnounce ∧ (s .leaving).atc.state = .leaving) :=
  ⟨⟨takes_arrived (by decide +kernel), by decide +kernel⟩, ⟨takes_arrived (by decide +kernel), by decide +kernel⟩,
    takes_arrived (by decide +kernel), by decide +kernel⟩

/-- An announce waiting in a sound state. -/
def waiting : State :=
  { loaded .active ⟨[], some (announceOf 2#5), []⟩ with rfw := ⟨[], .ready 0 (some .announce), none⟩ }

theorem test_witness_transitEntriesBalance :
    (∃ t, exec .ownFrameStart waiting = .next t) ∧ waiting.attachmentSound ∧ waiting.emptySound
    ∧ waiting.withinCapacity ∧ ∀ k : Counter, waiting.counter k ≤ 65000 :=
  ⟨⟨_, rfl⟩, by decide +kernel, by decide +kernel, by decide +kernel, fun k =>
    (by decide +kernel : ∀ i : Fin 28, waiting.svp.counters[i] ≤ 65000) k.place⟩

/-! ## Witnesses: presence -/

theorem test_witness_announcesArePeriodic :
    (station .proving).inService = true ∧ (station .proving).pru.timer = some 0
    ∧ (station .proving).stc.image = some (image .venue) := by decide +kernel

/-- The station with the gallery, station 1, in its peer table. -/
def met (state : AttachmentState) (role : Role := .venue) (us : Nat := 0) : State :=
  { station state role with
    now := us * 76800
    pru := { (station state role).pru with
      peers := (Vector.replicate 30 Peer.reset).set 0 { Peer.reset with present := true, period := 20 } } }

theorem test_witness_announcesAreRecorded :
    let f := Frame.announce (announceOf 1#5)
    takes (met .active) f ∧ takes (station .proving) f ∧ (met .active).inService = true
    ∧ (announceOf 1#5).origin ≠ (met .active).address ∧ addressAt 0 = (announceOf 1#5).origin ∧ hopsOf f.octets ≠ 0#5
    ∧ (met .active).rfw.occupancy + f.octets.length ≤ 4096 ∧ ((announceOf 1#5).streams.map (·.id)).Nodup :=
  ⟨takes_arrived (by decide +kernel), takes_arrived (by decide +kernel), by decide +kernel⟩

/-- A leaving announce of the gallery, PRESENT and ABSENT, at a venue; and one of a venue at a gallery. -/
theorem test_witness_announcesAreRecorded_departures :
    let f := { announceOf 1#5 with flags := ⟨true, false, true⟩ }
    f.flags.leaving = true ∧ taken (met .active) (.announce f) = true ∧ taken (met .active .gallery) (.announce f) = true
    ∧ ((met .active).pru.peers[(0 : Fin 30)]).present = true ∧ (met .active).stc.straps.role = .venue
    ∧ (image .venue).gallery = addressAt 0
    ∧ ((station .active).pru.peers[(0 : Fin 30)]).present = false ∧ (announceOf 1#5).flags.leaving = false
    ∧ (met .active .gallery).stc.straps.role = .gallery := by decide +kernel

/-- The gallery's leaving announce puts a venue's ON_AIR OFF and closes its talkback, and its last tag is forgotten (R166,
R168); another station's announce does not. -/
theorem test_leaving_gallery_clears_the_positions :
    let s := { met .active with pos := { Pos.reset with
      lastTags := Vector.replicate 30 (some 9#8)
      positions := Vector.replicate 4 { Position.reset with onAir := true, talkback := true } } }
    let t := (s.offerToPru { announceOf 1#5 with flags := ⟨true, false, true⟩ }).1
    let u := (s.offerToPru (announceOf 1#5)).1
    (t.pos.positions[(2 : Fin 4)]).onAir = false ∧ (t.pos.positions[(2 : Fin 4)]).talkback = false
    ∧ t.pos.lastTags[(0 : Fin 30)] = none ∧ t.pos.lastTags[(1 : Fin 30)] = some 9#8 ∧ u.pos = s.pos := by decide +kernel

theorem test_witness_announcesAreRecorded_claims : (met .active).claimsSound ∧ (station .proving).claimsSound :=
  ⟨by decide +kernel, by decide +kernel⟩

/-- At the limit of three periods, and one microsecond beyond it. -/
theorem test_witness_silentPeersExpire :
    (met .active).attached = true ∧ (met .active).stc.held = false ∧ (met .active).stc.image = some (image .venue)
    ∧ (((met .active).pru.peers[(0 : Fin 30)]).present = true) ∧ ((met .active).pru.peers[(0 : Fin 30)]).period ≤ 250
    ∧ signedDiff (met .active .venue 60000).ringTime 0#32 ≤ 3 * 20 * 1000
    ∧ 3 * 20 * 1000 < signedDiff (met .active .venue 60001).ringTime 0#32
    ∧ (met .active).stc.straps.role = .venue ∧ (image .venue).gallery = addressAt 0
    ∧ (image .venue).gallery ≠ addressAt 1
    ∧ ((met .active .gallery).attached = true ∧ (met .active .gallery).stc.image = some (image .gallery)) := by
  decide +kernel

/-! ## Witnesses: the sample count and capture -/

/-- The station with its capture unit in some state. -/
def capturing (c : Cap) : State := { station .active with cap := c }

theorem test_witness_countNeverSkips :
    ∃ t, exec .dividerIncrement (station .active) = .next t ∧ t.cap.count = 1#32 := ⟨_, rfl, by decide +kernel⟩

theorem test_witness_dividerCounts :
    (station .active).stc.held = false ∧ (station .active).cap.clock ≠ .wordclock
    ∧ (station .active).stc.image = some (image .venue) ∧ maintained.stc.held = false ∧ maintained.stc.image = none
    ∧ (capturing { Cap.reset with running := true }).cap.running = true
    ∧ ((image .venue).capture[(0 : Fin 2)]).listen = false
    ∧ ((image .venue).capture[(1 : Fin 2)]).listen = true := by decide +kernel

/-- Edges 447, 448 and 576, 577 periods after the one before; the 47th and the 48th good interval. -/
theorem test_witness_wordClockIsFollowed :
    (capturing Cap.reset).stc.held = false ∧ (capturing Cap.reset).cap.clock = .internal
    ∧ (let s := capturing { Cap.reset with clock := .wordclock }
      s.cap.clock = .wordclock ∧ 448 ≤ (448 * 3125 - s.cap.countedAt) / 3125
      ∧ (447 * 3125 - s.cap.countedAt) / 3125 < 448)
    ∧ (let s := capturing { Cap.reset with clock := .holdover, lastEdge := some 0, qualRun := 46 }
      s.cap.clock = .holdover ∧ s.cap.lastEdge = some 0 ∧ 448 ≤ 448 * 3125 / 3125 ∧ 576 * 3125 / 3125 ≤ 576
      ∧ s.cap.qualRun < 47 ∧ 0 < s.cap.qualRun)
    ∧ (let s := capturing { Cap.reset with clock := .holdover, lastEdge := some 0, qualRun := 47 }
      s.cap.clock = .holdover ∧ s.cap.lastEdge = some 0 ∧ 47 ≤ s.cap.qualRun)
    ∧ (let s := capturing { Cap.reset with clock := .holdover }
      s.cap.clock = .holdover ∧ s.cap.lastEdge = none) := by decide +kernel

/-- A word clock loss in MAINTENANCE raises no flag and counts nothing (R182, R184); in LOADED it does (R88). -/
theorem test_no_flag_outside_loaded :
    let lost := fun s : State => after .wordClockLoss { s with cap := { Cap.reset with clock := .wordclock } }
    (lost maintained).svp = maintained.svp ∧ (lost maintained).cap.count = 1
    ∧ (lost (station .active)).counter .holdoverEntries = 1
    ∧ (lost (station .active)).flag .clockHoldover = true := by decide +kernel

/-- A frame of zeros, so many of them placed on both ports. -/
def placed (running : Bool) (n : Nat) : State :=
  capturing { Cap.reset with
    running := running
    stores := Vector.replicate 2
      { PortStore.reset with
        frames := List.replicate n (Vector.replicate 8 0), frameCount := n, shifting := some (BitVec.ofNat 32 n) } }

theorem test_witness_captureFramesArePlaced :
    (placed true 23).stc.image = some (image .venue) ∧ (List.replicate 8 0#32).length = 8
    ∧ (placed true 23).cap.running = true ∧ (placed true 0).cap.running = true
    ∧ ((placed true 23).cap.stores[(0 : Fin 2)]).shifting = some 23#32
    ∧ (23#32 - (placed true 23).cap.blockStamp).toNat = ((placed true 23).cap.stores[(0 : Fin 2)]).frames.length
    ∧ ((placed true 23).cap.stores[(0 : Fin 2)]).frames.length < (image .venue).block.samples
    ∧ ((placed true 23).cap.stores[(1 : Fin 2)]).frameCount < (image .venue).block.samples
    ∧ (image .venue).block.samples ≤ ((placed true 24).cap.stores[(1 : Fin 2)]).frameCount
    ∧ (placed false 0).cap.running = false := by decide +kernel

theorem test_witness_openingAndWrapTicks :
    (let s := capturing { Cap.reset with tickDue := true, count := 24#32 };
      s.stc.image = some (image .venue) ∧ s.cap.tickDue = true ∧ s.cap.running = false ∧ s.venue = true)
    ∧ (let s := capturing { Cap.reset with tickDue := true, running := true }
      s.cap.tickDue = true ∧ s.cap.running = true ∧ s.cap.count = 0)
    ∧ (let s := capturing { Cap.reset with tickDue := true, count := 0#32 }
      s.cap.tickDue = true ∧ s.cap.running = false ∧ s.cap.count = 0)
    ∧ ((image .venue).positions[(0 : Fin 4)]).headphone = 0
    ∧ (∀ n u, (image .venue).subscription n = some u → ∀ c : Fin 4, u.map[c] ≠ some 0) := by
  refine ⟨by decide +kernel, by decide +kernel, by decide +kernel, by decide +kernel, fun n u h => ?_⟩
  have : ∀ n : Fin 16, ∀ u ∈ (image .venue).subscription n, ∀ c : Fin 4, u.map[c] ≠ some 0 := by decide +kernel
  exact this n u h

/-- A tick with every status: port 0 and port 1 at 0, 23, 24 and 25 frames. -/
theorem test_witness_buildingTicksBuild :
    ∀ n ∈ [0, 23, 24, 25],
      let s := { placed true n with cap := { (placed true n).cap with tickDue := true, count := 24#32 } }
      s.stc.image = some (image .venue) ∧ s.cap.tickDue = true ∧ s.cap.running = true ∧ s.cap.count ≠ 0
      ∧ s.inq.audio.length ≤ 8 ∧ s.withinCeilings := by decide +kernel

/-- The selection made before a tick is in force from it (R156). -/
theorem test_tick_switches_the_headphones :
    let s := { placed true 24 with
      cap := { (placed true 24).cap with tickDue := true, count := 24#32 }
      pos := { Pos.reset with positions := Vector.replicate 4 { Position.reset with selection := .sidetone } } }
    s.ply.inForce[(0 : Fin 4)] = none ∧ (after .blockTick s).ply.inForce[(0 : Fin 4)] = some .sidetone := by
  decide +kernel

/-- The station at a tick, with a channel at full scale and the gate of its one sourced stream recorded so and now so. -/
def gated (was now : Bool) : State :=
  { capturing { Cap.reset with
      tickDue := true, running := true, count := 24#32, gates := Vector.replicate 4 (Vector.replicate 4 was)
      stores := Vector.replicate 2
        { PortStore.reset with frames := List.replicate 24 #v[123456, -123457, 0, 0, 0, 0, 0, 0], frameCount := 24 } }
    with pos := { Pos.reset with held := if now then 0#16 else 1#16 } }

/-- Each pair of gates at the first and the last index. The sample faded out there is (123456 × (24 − 23)) ÷ 24 = 5144. -/
theorem test_witness_gatesFadeOverOneBlock :
    (∀ was now : Bool,
      let s := gated was now
      s.stc.image = some (image .venue) ∧ s.cap.tickDue = true ∧ s.cap.running = true ∧ s.cap.count ≠ 0
      ∧ (image .venue).source 0 = some ⟨30#6, true, false, [⟨0, .onAir 0⟩]⟩
      ∧ s.cap.gates[(0 : Fin 4)][(0 : Fin 4)] = was ∧ (s.gatesNow (image .venue))[(0 : Fin 4)][(0 : Fin 4)] = now
      ∧ s.pru.claims[(0 : Fin 4)] = .held ∧ s.atc.state = .active ∧ s.inq.audio.length ≤ 8)
    ∧ (23 < (image .venue).block.samples)
    ∧ (after .blockTick (gated true false)).inq.audio.map (fun f => f.payload.drop 69) = [[0x00#8, 0x14#8, 0x18#8]] := by
  decide +kernel

/-! ## Witnesses: reception and playout -/

/-- Station 2 with the context of its one subscription. -/
def receiving (x : Context) : State := { station .active with srx := (Vector.replicate 16 Context.reset).set 0 x }

/-- A context of origin 1 that expects sequence 7 of stamp 100. -/
def context (state : StreamState) : Context :=
  { Context.reset with
    state := state, origin := some 1#5, expSeq := 7#16, expStamp := 100#32, nextBoundary := 100#32, margin := 768 }

/-- What makes a block one that the context of subscription 0 takes. -/
def takenBlock (s : State) (a : AudioFrame) : Bool := decide <|
  taken s (.audio a) ∧ s.inService = true ∧ s.stc.image = some (image .venue) ∧ a.origin ≠ s.address
  ∧ hopsOf (Frame.audio a).octets ≠ 0#5 ∧ (image .venue).subscriptionOf a.stream = some 0
  ∧ (s.srx[(0 : Fin 16)]).origin = some a.origin ∧ a.format.blockCode = (image .venue).block.code

/-- A station to which a block has come takes it for subscription 0. -/
abbrev takesBlock (s : State) (a : AudioFrame) : Prop :=
  (arrived s (.audio a)).takesBlock ⟨(Frame.audio a).octets, (Frame.audio a).octets.length⟩ [] a (image .venue) 0

/-- Such a block is taken. -/
theorem takesBlock_arrived {s : State} {a : AudioFrame} (h : takenBlock s a = true) : takesBlock s a :=
  ⟨takes_arrived (of_decide_eq_true h).1, (of_decide_eq_true h).2⟩

/-- The 16-bit samples 482 and −483 are held as 123392 and −123648, channel 0 first (R121). -/
theorem test_payload_samples :
    payloadSamples 1 ⟨1#2, false, 0#2, false, false⟩ [0x01#8, 0xE2#8, 0xFE#8, 0x1D#8] = [[123392, -123648]] := by
  decide +kernel

theorem test_witness_acquiringContextsLock :
    let s := receiving (context .acquiring)
    takesBlock s (audioOf 1#5 0#6 7#16 100#32) ∧ (s.srx[(0 : Fin 16)]).state = .acquiring
    ∧ s.rfw.occupancy + 63 ≤ 4096 :=
  ⟨takesBlock_arrived (by decide +kernel), by decide +kernel⟩

/-- The tests ahead of the sequence test: no subscription, another origin, another block length, and WAITING. -/
theorem test_witness_receptionTests :
    (∀ x ∈ [context .acquiring, context .waiting],
      let s := receiving x
      taken s (.audio (audioOf 1#5 0#6 7#16 100#32)) = true ∧ s.inService = true ∧ s.stc.image = some (image .venue)
      ∧ (1#5 : Address) ≠ s.address ∧ s.rfw.occupancy + 63 ≤ 4096 ∧ (s.srx[(0 : Fin 16)]).origin = some 1#5)
    ∧ (image .venue).subscriptionOf 5#6 = none ∧ (image .venue).subscriptionOf 0#6 = some 0
    ∧ (audioOf 3#5 0#6 7#16 100#32).origin ≠ 1#5 ∧ taken (receiving (context .locked)) (.audio (audioOf 3#5 0#6 7#16 100#32))
    ∧ taken (receiving (context .locked)) (.audio (audioOf 1#5 5#6 7#16 100#32))
    ∧ (let a := { audioOf 1#5 0#6 7#16 100#32 with
        format := ⟨0#2, false, 1#2, false, false⟩, payload := List.replicate 96 1#8 }
      taken (receiving (context .locked)) (.audio a) = true ∧ a.format.blockCode ≠ (image .venue).block.code) := by
  decide +kernel

/-- The classes of d at their edges: 0, 255, 256, 32767, 32768 and 65535; in order and after a gap, with the stamp as
expected and one off it. -/
theorem test_witness_sequenceTestsClassify :
    ((receiving (context .locked)).srx[(0 : Fin 16)]).state = .locked
    ∧ (∀ q ∈ [7, 262, 263, 32774, 32775, 6],
        takesBlock (receiving (context .locked)) (audioOf 1#5 0#6 (BitVec.ofNat 16 q) 100#32))
    ∧ takesBlock (receiving (context .locked)) (audioOf 1#5 0#6 7#16 101#32) :=
  ⟨by decide +kernel, fun q h => takesBlock_arrived ((by decide +kernel : ∀ q ∈ [7, 262, 263, 32774, 32775, 6],
      takenBlock (receiving (context .locked)) (audioOf 1#5 0#6 (BitVec.ofNat 16 q) 100#32) = true) q h),
    takesBlock_arrived (by decide +kernel)⟩

/-- A block one sample behind the next boundary stamp, and one whose margin is 7B; at the first and at the last of a run. -/
theorem test_witness_lateAndEarlyBlocks :
    (∀ run ∈ [0, 2, 3],
      let x := { context .locked with nextBoundary := 101#32, lateRun := run }
      takesBlock (receiving x) (audioOf 1#5 0#6 7#16 100#32) ∧ signedDiff 100#32 x.nextBoundary < 0)
    ∧ (∀ run ∈ [0, 2, 3],
      let x := { context .locked with r := 68#32, earlyRun := run }
      takesBlock (receiving x) (audioOf 1#5 0#6 7#16 100#32) ∧ ¬ signedDiff 100#32 x.nextBoundary < 0
      ∧ 7 * 24 ≤ signedDiff (100#32 + x.r) (receiving x).cap.count)
    ∧ ((100#32 : Word) = (context .locked).expStamp + BitVec.ofNat 32 (24 * 0)) := by
  refine ⟨fun run h => ⟨takesBlock_arrived ?_, ?_⟩, fun run h => ⟨takesBlock_arrived ?_, ?_⟩, by decide +kernel⟩ <;>
    revert run <;> decide +kernel

/-- Margins of 0 and 7B − 1, and margins at which E stands at the drop threshold, between the thresholds and at the
repeat threshold, in every state of the holdoff and the slip. -/
theorem test_witness_inRangeBlocksSteer :
    (image .venue).clamped ∧ (receiving (context .locked)).rfw.occupancy + 63 ≤ 4096
    ∧ ∀ r ∈ [0xFFFFFF9C, 67, 0xFFFFFFD4, 0xFFFFFFCC, 0xFFFFFFC4],
      ∀ h ∈ [(0, Slip.none), (0, Slip.drop), (1, Slip.none)],
        let x := { context .locked with r := BitVec.ofNat 32 r, holdoff := h.1, slip := h.2 }
        takesBlock (receiving x) (audioOf 1#5 0#6 7#16 100#32)
        ∧ 0 ≤ signedDiff 100#32 x.nextBoundary
        ∧ signedDiff (100#32 + x.r) (receiving x).cap.count < 7 * 24 ∧ x.queue.length < 8 := by
  refine ⟨by decide +kernel, by decide +kernel, fun r hr h hh => ⟨takesBlock_arrived ?_, ?_⟩⟩ <;>
    revert r h <;> decide +kernel

/-- A block of 24 sample frames of one channel. -/
def block (stamp : Word) : BlockRecord := ⟨stamp, 7#16, 1, false, false, List.replicate 24 [2400]⟩

/-- A boundary whose block is there, one whose block is not, after one and two concealed ones. -/
theorem test_witness_boundariesPlayOrConceal :
    (∀ c ∈ [0, 1, 2], ∀ q ∈ [[block 100#32], [block 76#32, block 100#32], [], [block 124#32]],
      let x := { context .locked with queue := q, conceal := c }
      let s := { receiving x with cap := { Cap.reset with count := 100#32 } }
      s.stc.image = some (image .venue) ∧ (s.srx[(0 : Fin 16)]).state = .locked
      ∧ s.cap.count - (s.srx[(0 : Fin 16)]).rPlay = (s.srx[(0 : Fin 16)]).nextBoundary)
    ∧ (block 100#32).stamp = (context .locked).nextBoundary
    ∧ (block 124#32).stamp ≠ (context .locked).nextBoundary := by decide +kernel

/-- The boundary first, then the leaving at the same count: index 0 of the block stands on the channel (R152). -/
theorem test_index_0_stands_at_leaving :
    let s := { receiving { context .locked with queue := [block 100#32] } with
      cap := { Cap.reset with count := 100#32, running := true } }
    let t := after (.blockBoundary 0) s
    t.ply.channels[(8 : Fin 32)] = 2400 ∧ (t.toUnlocked 0 .waiting none).ply.channels[(8 : Fin 32)] = 2400
    ∧ (s.toUnlocked 0 .waiting none).ply.channels[(8 : Fin 32)] = 0 := by decide +kernel

/-- After a DROP is applied the index goes from 0 to 2 at the next count, and a tick at the boundary's own count still
finds index 0 (R150, R156). -/
theorem test_slip_counts_from_the_next_increment :
    let k := { block 100#32 with samples := (List.range 24).map fun i : Nat => [(100 * i + 1 : Int)] }
    let t := after (.blockBoundary 0)
      { receiving { context .locked with queue := [k], slip := .drop, r := 0xFFFFFFFF#32 } with
        cap := { Cap.reset with count := 100#32, running := true } }
    t.switchHeadphones.ply.channels[(0 : Fin 32)] = 1
    ∧ (after .dividerIncrement t.switchHeadphones).ply.channels[(0 : Fin 32)] = 201 := by decide +kernel

/-- A slot of 32 bits carries the sample, most significant bit first, and 8 zeros (R143). -/
theorem test_slot_bits : slotBits 32 (-2) = List.replicate 23 true ++ List.replicate 9 false := by decide +kernel

/-- A RUNNING LISTEN port sends nothing before its first frame sync edge, and a frame from it on (R144). -/
theorem test_listen_port_waits_for_its_edge :
    let s := capturing { Cap.reset with running := true, count := 1#32 }
    s.playoutData 1 = .nothing ∧ (after (.playoutFrameSync 1) s).playoutData 1 = .frame (List.replicate 192 false) := by
  decide +kernel

theorem test_witness_streamsFadeAndRunOut :
    (∀ i ∈ [0, 23], i < 24 ∧ (24 : Nat) ≤ 96 ∧ (block 100#32).samples[i]? = some [2400]
      ∧ ([2400] : List Sample)[(0 : Fin 4).val]? = some 2400)
    ∧ (∀ f ∈ [Fade.none, Fade.into, Fade.out],
      let x := { context .locked with output := ⟨some (block 76#32), f⟩ }
      x.state = .locked ∧ x.output = ⟨some (block 76#32), f⟩
      ∧ 76#32 - x.rPlay = x.nextBoundary - BitVec.ofNat 32 24 + BitVec.ofNat 32 0)
    ∧ ((context .locked).output.source = none ∧ (context .locked).runOut = none)
    ∧ (block 100#32).samples[(0 : Nat)]? = some [2400] ∧ ([2400] : List Sample)[(1 : Fin 4).val]? = none
    ∧ (let x := { context .locked with runOut := some ⟨some (block 76#32), 23 + 1⟩ }
      x.output.source = none ∧ x.state = .locked ∧ x.runOut = some ⟨some (block 76#32), 23 + 1⟩)
    ∧ (∀ r ∈ [some ⟨none, 3⟩, some ⟨some (block 76#32), 0⟩, some ⟨some (block 76#32), 24 + 1⟩],
      { context .waiting with runOut := r }.runOut = r ∧ { context .waiting with runOut := r }.state ≠ .locked)
    ∧ (block 76#32).samples.length = 24
    ∧ (let x := { context .waiting with runOut := some ⟨some (block 76#32), 0 + 1⟩ }
      x.state ≠ .locked ∧ x.runOut = some ⟨some (block 76#32), 0 + 1⟩
      ∧ (receiving x).stc.image = some (image .venue) ∧ ((receiving x).srx[(0 : Fin 16)]).runOut = x.runOut)
    ∧ (context .waiting).runOut = none ∧ (context .waiting).state ≠ .locked
    ∧ (let s := { receiving (context .locked) with cap := { Cap.reset with count := 100#32, running := true } }
      (s.srx[(0 : Fin 16)]).state = .locked ∧ s.cap.count - (s.srx[(0 : Fin 16)]).rPlay
        = (s.srx[(0 : Fin 16)]).nextBoundary ∧ s.cap.running = true)
    ∧ ((image .venue).playout[(1 : Fin 4)]).listen = true ∧ ((image .venue).playout[(0 : Fin 4)]).listen = false
    ∧ ((image .venue).playout[(0 : Fin 4)]).slotWidth = 24 := by decide +kernel

/-- The bridge of a LOCKED stream before its first boundary: its run-out sends (2400 × (24 − 1)) ÷ 24 at index 1, silence on
a channel the block lacks, and silence for a run-out of silence (R146, R152, R153). -/
theorem test_bridge_sends_the_run_out :
    let x := { context .locked with runOut := some ⟨some (block 76#32), 2⟩ }
    x.value 24 100#32 0 = 2300 ∧ x.value 24 100#32 1 = 0
    ∧ { x with runOut := some ⟨none, 2⟩ }.value 24 100#32 0 = 0 := by decide +kernel

/-! ## Witnesses: positions and cues -/

theorem test_witness_scansDebounce :
    (station .active).stc.held = false ∧ (station .active).stc.load = .loaded
    ∧ (station .active).stc.image = some (image .venue)
    ∧ (0xFFFF#16).getLsbD 15 ≠ (station .active).pos.held.getLsbD 15
    ∧ ((station .active).pos.agreement[(0 : Fin 16)]) + 1 < (image .venue).debounce
    ∧ (let s := { station .active with pos := { Pos.reset with agreement := Vector.replicate 16 4 } }
      (image .venue).debounce ≤ (s.pos.agreement[(0 : Fin 16)]) + 1) := by decide +kernel

theorem test_witness_keysBuildCues :
    ((station .active).stc.straps.role = .venue ∧ (station .active).atc.state = .active
      ∧ (station .active).inq.cues.length < 4)
    ∧ (loaded .active ⟨List.replicate 3 cueOf, none, []⟩).inq.cues.length < 4
    ∧ 4 ≤ (loaded .active ⟨List.replicate 4 cueOf, none, []⟩).inq.cues.length
    ∧ (station .proving).atc.state ≠ .active
    ∧ (let s := receiving { context .locked with played := true }
      (image .venue).designated .programme = some 0 ∧ (s.srx[(0 : Fin 16)]).state = .locked
      ∧ (s.srx[(0 : Fin 16)]).played = true)
    ∧ ((station .active .gallery).stc.straps.role = .gallery ∧ (station .active .gallery).atc.state = .active
      ∧ ((image .gallery).inputs[(0 : Fin 16)]).use = .tally
      ∧ ((image .gallery).inputs[(1 : Fin 16)]).use = .unused)
    ∧ (let s := { station .active .gallery with inq := ⟨List.replicate 4 cueOf, none, []⟩ }
      s.stc.straps.role = .gallery ∧ s.atc.state = .active ∧ 4 ≤ s.inq.cues.length) := by decide +kernel

/-- A full cue queue refuses the gallery's cue, and its tag is used (R48, R163). -/
theorem test_full_queue_refuses_the_gallery_cue :
    let s := { station .active .gallery with inq := ⟨List.replicate 4 cueOf, none, []⟩ }
    let t := s.keyEvent (image .gallery) 0 true
    t.inq = s.inq ∧ t.counter .cuesRefused = 1 ∧ t.flag .cueUndelivered = true
    ∧ t.pos.cueTag = s.pos.cueTag + 1 := by decide +kernel

/-- A cue that only a venue has a meaning for is ignored at the gallery (R166). -/
theorem test_gallery_ignores_other_codes :
    let s := met .active .gallery
    let t := s.offerToPos ⟨1#5, 2#5, .onAir, 1#4, 9#8⟩
    t.2 = false ∧ t.1.counter .cuesIgnored = 1 ∧ t.1.pos.lamps = s.pos.lamps
    ∧ t.1.pos.lastTags[(0 : Fin 30)] = some 9#8 := by decide +kernel

/-- A cue of the gallery to station 2 that each test in turn stops, and one that none stops; and a talk request to a
gallery that names a lamp, and one that names none. -/
theorem test_witness_cuesAreJudged :
    let c : CueFrame := ⟨1#5, 2#5, .onAir, 3#4, 9#8⟩
    (addressAt 0 = c.origin ∧ (met .proving).atc.state ≠ .active ∧ (met .active).atc.state = .active
      ∧ (met .active).stc.image = some (image .venue) ∧ (met .active).stc.straps.role = .venue)
    ∧ ¬ ((station .active).pru.peers[(0 : Fin 30)]).present = true
    ∧ ((met .active).pru.peers[(0 : Fin 30)]).present = true
    ∧ (met .active).pos.lastTags[(0 : Fin 30)] ≠ some c.tag
    ∧ ({ Pos.reset with lastTags := Vector.replicate 30 (some 9#8) }.lastTags[(0 : Fin 30)]) = some c.tag
    ∧ c.destination = (met .active).address ∧ ¬ (3#5 = (met .active).address ∨ 3#5 = 31#5)
    ∧ (c.position.toNat ≤ 3 ∧ c.origin = (image .venue).gallery ∧ c.code = .onAir)
    ∧ (addressAt 18 = 19#5 ∧ (image .gallery).lamps[(5 : Fin 16)] = some (19#5, 1)
      ∧ (image .gallery).lamps[(4 : Fin 16)] = none ∧ (station .active .gallery).stc.straps.role = .gallery
      ∧ (let s := { station .active .gallery with pru := { Pru.reset with
          peers := (Vector.replicate 30 Peer.reset).set 18 { Peer.reset with present := true } } }
        (s.pru.peers[(18 : Fin 30)]).present = true ∧ s.pos.lastTags[(18 : Fin 30)] ≠ some 9#8
        ∧ s.atc.state = .active ∧ s.stc.image = some (image .gallery))) := by decide +kernel

theorem test_witness_fallbackTimersAndLamps :
    let s := { station .active with
      pos := { Pos.reset with positions := Vector.replicate 4 { Position.reset with timer := .running 0 } } }
    s.stc.held = false ∧ s.stc.load = .loaded ∧ s.stc.image = some (image .venue) ∧ s.stc.straps.role = .venue
    ∧ (s.pos.positions[(3 : Fin 4)]).timer = .running 0
    ∧ (image .venue).designated .programme = some 0
    ∧ (let r := { s with pos := { Pos.reset with positions := Vector.replicate 4 { Position.reset with latch := true } } }
      (r.pos.positions[(0 : Fin 4)]).latch = true)
    ∧ (station .active .gallery).stc.straps.role = .gallery
    ∧ { State.reset.stc with load := .faulted }.load = .faulted ∧ State.reset.stc.load = .loading := by
  decide +kernel

/-! ## Witnesses: the service port -/

theorem test_witness_readsAnswerSnapshots :
    (station .active).stc.load = .loaded ∧ { State.reset.stc with load := .faulted }.image = none
    ∧ (image .venue).source 3 = none ∧ 16 ≤ (16#8).toNat ∧ (15#8).toNat < 16 ∧ 4 ≤ (4#8).toNat
    ∧ (3#8).toNat < 4 ∧ (image .venue).subscription 0 = some ⟨0#6, .programme, #v[some 8, none, none, none]⟩
    ∧ (image .venue).subscription 15 = none
    ∧ (image .venue).source 0 = some ⟨30#6, true, false, [⟨0, .onAir 0⟩]⟩ := by decide +kernel

theorem test_witness_eventsAndCountersAreCleared : (station .halted).stc.load = .loaded := by decide +kernel

theorem test_witness_requestsOutOfPlaceAreRefused :
    271 ≤ (List.replicate 271 0#8).length ∧ State.reset.stc.load = .loading ∧ maintained.stc.load = .maintenance
    ∧ (station .active).stc.load ≠ .maintenance
    ∧ { maintained.stc with write := some ⟨record, .readback⟩ }.write ≠ none
    ∧ (record.take 270).length < 271 := by decide +kernel

/-- One octet short and one too many: the first is not received, and of the second the first 271 octets are the record
(R186, R187). -/
theorem test_short_and_long_records :
    (after (.writeConfig (record.take 270)) maintained).svp.answer = none
    ∧ (after (.verifyConfig (record.take 270)) maintained).svp.answer = none
    ∧ (after (.verifyConfig (maintained.stc.memory.readFrom 0 271 ++ [1#8])) maintained).svp.answer = some (.ack .none)
    := by decide +kernel

/-- A record whose check does not match. -/
def badRecord : List Octet := recordBody ++ octets16 (recordCheck recordBody + 1)

theorem test_witness_maintenanceReads :
    (maintained.stc.load = .maintenance ∧ maintained.stc.write = none ∧ 271 ≤ record.length
      ∧ 271 ≤ (record ++ [1#8]).length ∧ 271 ≤ badRecord.length)
    ∧ recordCheck ((badRecord.take 271).take 269) ≠ field16 (badRecord.take 271) 269 := by
  refine ⟨by decide +kernel, ?_⟩
  have h := record_parts recordBody (recordCheck recordBody + 1) (by decide +kernel)
  rw [List.take_of_length_le (show badRecord.length ≤ 271 by decide +kernel), badRecord, h.1, h.2]
  simp

theorem test_witness_writeConfigStoresTheRecord :
    (maintained.stc.load = .maintenance ∧ maintained.stc.write = none ∧ 271 ≤ record.length ∧ maintained.memorySound)
    ∧ recordCheck (record.take 269) = field16 record 269 ∧ record.take 271 = record
    ∧ (record ++ [1#8]).take 271 = record
    ∧ (∀ k ∈ [0, 7, 8],
      let s := { maintained with
        now := 20 * 76800000, stc := { maintained.stc with write := some ⟨record.take 0, .page k 0⟩ } }
      s.stc.write = some ⟨record.take 0, .page k 0⟩ ∧ s.now ≤ 0 + 20 * Config.millisecond)
    ∧ { maintained.stc with write := some ⟨record.take 0, .readback⟩ }.write
        = some ⟨record.take 0, .readback⟩ :=
  ⟨by decide +kernel, record_checked, List.take_of_length_le (by decide +kernel), List.take_left' (by decide +kernel),
    by decide +kernel, by decide +kernel⟩

/-! ## Witnesses: what every step keeps -/

/-- The sound station of above with a command in front: it meets every property, and its step answers a next state. -/
def stepping : State := { waiting with pending := [.ownFrameStart] }

theorem test_witness_capacitiesHold : stepping.withinCapacity ∧ ∃ t, step stepping = .next t :=
  ⟨by decide +kernel, _, rfl⟩

theorem test_witness_countsRestAtTheirCeilings : stepping.withinCeilings ∧ ∃ t, step stepping = .next t :=
  ⟨by decide +kernel, _, rfl⟩

theorem test_witness_attachmentStaysSound : stepping.attachmentSound ∧ ∃ t, step stepping = .next t :=
  ⟨by decide +kernel, _, rfl⟩

theorem test_witness_unattachedHoldsNothing :
    stepping.attachmentSound ∧ stepping.emptySound ∧ ∃ t, step stepping = .next t :=
  ⟨by decide +kernel, by decide +kernel, _, rfl⟩

theorem test_witness_streamsStaySound :
    stepping.loadSound ∧ stepping.imageClamped ∧ stepping.slipSound ∧ stepping.filterSound
    ∧ ∃ t, step stepping = .next t :=
  ⟨by decide +kernel, by decide +kernel, by decide +kernel, by decide +kernel, _, rfl⟩

theorem test_witness_claimsFollowThePeerTable :
    stepping.loadSound ∧ stepping.filterSound ∧ stepping.claimsSound ∧ ∃ t, step stepping = .next t :=
  ⟨by decide +kernel, by decide +kernel, by decide +kernel, _, rfl⟩

theorem test_witness_panelStaysSound : stepping.panelSound ∧ ∃ t, step stepping = .next t :=
  ⟨by decide +kernel, _, rfl⟩

theorem test_witness_outputsEventsAndMemoryStaySound :
    stepping.loadSound ∧ stepping.portsSound ∧ stepping.eventsSound ∧ stepping.memorySound
    ∧ stepping.imageClamped ∧ ∃ t, step stepping = .next t :=
  ⟨by decide +kernel, by decide +kernel, by decide +kernel, by decide +kernel, by decide +kernel, _, rfl⟩

end Sys2Proof.Tests
end

/-! SUPPORT. A stripped frame from its arrival to the two lists of the TRM: own frames that match no transit entry (R34,
R60). -/

namespace Sys2Proof.Machine

/-! ## The arrival of a well-formed frame -/

/-- The meaning of FRAME_ARRIVAL. -/
theorem exec_frameArrival (s : State) : exec .frameArrival s = execFrameArrival s := rfl

/-- A frame that is next to arrive leaves the closed frames and is judged, at the present instant (R34, R113). -/
theorem State.arrives.exec_eq {s : State} {f : RxFrame} {rest : List RxFrame} (h : s.arrives f rest) :
    exec .frameArrival s = .next ((s.withRx { s.rx with closed := rest }).judgeFrame f) := by
  obtain ⟨attached, closed, notDue⟩ := h
  have due : (s.attached && !s.rx.closed.isEmpty && !s.incrementDue) = true := by
    simp [attached, closed, notDue]
  have effect : s.arrival = (s.withRx { s.rx with closed := rest }).judgeFrame f := by
    simp [State.arrival, closed]
  rw [exec_frameArrival, execFrameArrival, State.frameArrivalAt, State.takeEvent_nowIf, if_pos due, effect]

/-- A well-formed frame is taken (R15, R34). -/
theorem State.judgeFrame_wellFormed (s : State) {f : RxFrame} (h : judge f = .wellFormed) :
    s.judgeFrame f = s.takeFrame f.octets := by
  simp [State.judgeFrame, h]

/-- A frame of the station's own origin is stripped, whatever its hop count (R34). -/
theorem State.takeFrame_own {s : State} {o : List Octet} {fr : Frame} (read : readFrame o = some fr)
    (own : fr.origin = s.address) : s.takeFrame o = s.stripped fr.identity (copiedOf o) := by
  simp [State.takeFrame, read, own]

/-- An own frame that is next to arrive goes to the TRM (R34, R54). -/
theorem State.takes.exec_own {s : State} {f : RxFrame} {rest : List RxFrame} {fr : Frame} (h : s.takes f rest fr)
    (own : fr.origin = s.address) :
    exec .frameArrival s
      = .next ((s.withRx { s.rx with closed := rest }).stripped fr.identity (copiedOf f.octets)) := by
  obtain ⟨arrives, wellFormed, read⟩ := h
  have own' : fr.origin = (s.withRx { s.rx with closed := rest }).address := own
  rw [State.arrives.exec_eq arrives, State.judgeFrame_wellFormed _ wellFormed, State.takeFrame_own read own']

/-! ## A stripped frame without a transit entry -/

/-- A stripped frame that matches no transit entry is compared with the expired list: a late return or a foreign frame
(R54, R60, R61). -/
theorem State.stripped_unmatched {s : State} {i : Identity} (c : Bool) (h : ∀ e ∈ s.trm.transit, e.identity ≠ i) :
    s.stripped i c = if i ∈ s.trm.expired then s.lateReturn i else s.foreignFrame := by
  have unmatched : s.trm.transit.dropWhile (·.identity ≠ i) = [] :=
    List.dropWhile_eq_nil_iff.mpr fun e he => decide_eq_true (h e he)
  simp only [State.stripped, unmatched]

/-- A late return takes the oldest matching identity off the expired list (R60). -/
theorem State.lateReturn_eq {s : State} {i : Identity} {before after : List Identity}
    (h : s.trm.expired = before ++ i :: after) (oldest : i ∉ before) :
    s.lateReturn i = (s.withTrm { s.trm with expired := before ++ after }).countOne .lateReturns := by
  have erased : s.trm.expired.erase i = before ++ after := by
    rw [h, List.erase_append_right _ oldest, List.erase_cons_head]
  rw [State.lateReturn, erased]

/-- A stripped frame that matches an expired identity only is a late return of the oldest match (R60). -/
theorem State.stripped_late {s : State} {i : Identity} {before after : List Identity} (c : Bool)
    (noEntry : ∀ e ∈ s.trm.transit, e.identity ≠ i) (h : s.trm.expired = before ++ i :: after) (oldest : i ∉ before) :
    s.stripped i c = (s.withTrm { s.trm with expired := before ++ after }).countOne .lateReturns := by
  have onList : i ∈ s.trm.expired := by simp [h]
  rw [State.stripped_unmatched c noEntry, if_pos onList, State.lateReturn_eq h oldest]

/-! ## O25 -/

/-- Settles O25: an own frame is stripped, and what the TRM makes of it is said of the state that has taken the frame,
whose transit and expired lists are those before. -/
theorem lateReturnsAreCounted : Obligations.LateReturnsAreCounted := by
  intro s f rest fr before after takes own noEntry expired oldest
  have late := State.stripped_late (s := s.withRx { s.rx with closed := rest }) (copiedOf f.octets)
    noEntry expired oldest
  rw [State.takes.exec_own takes own, late]
  rfl

end Sys2Proof.Machine

/-! SUPPORT. A block for a subscribed stream from its arrival to the margin test: what a late, an early and an in-range
block do to the stream's context, and how the frame goes on (R37, R38, R113, R117 to R120, R128 to R135). -/

namespace Sys2Proof.Machine

/-! ## Copying and forwarding -/

/-- A frame of another station with hops left is offered to its copier and forwarded with the answer, and the arbiter
acts (R37, R38, R44). -/
theorem State.takeFrame_offered {s : State} {o : List Octet} {fr : Frame} (read : readFrame o = some fr)
    (other : fr.origin ≠ s.address) (hops : hopsOf o ≠ 0#5) :
    s.takeFrame o
      = ((s.offerToCopier fr).1.appendRepeat (forwarded o (s.offerToCopier fr).2)).decideStart := by
  simp [State.takeFrame, read, other, hops]

/-- The arbiter's choice takes no frame off the repeat queue (R44). -/
@[simp] theorem State.decideStart_repeats (s : State) : s.decideStart.rfw.repeats = s.rfw.repeats := by
  obtain ⟨since, c, -, acted⟩ | ⟨-, stood⟩ := s.decideStart_eq
  · rw [acted]
  · rw [stood]

/-- The arbiter's choice moves no flag (R44). -/
@[simp] theorem State.flag_decideStart (s : State) (e : EventFlag) : s.decideStart.flag e = s.flag e := by
  simp [State.flag]

/-- A frame that the repeat queue has room for joins its tail (R38, R39). -/
theorem State.appendRepeat_fits {s : State} {o : List Octet} (room : s.rfw.occupancy + o.length ≤ 4096) :
    s.appendRepeat o = s.withRfw { s.rfw with repeats := s.rfw.repeats ++ [o] } := if_pos room

/-- A set flag stays set, whether the frame joins the repeat queue or is dropped (R40, R190). -/
theorem State.flag_appendRepeat_of_flag {s : State} {e : EventFlag} (o : List Octet) (h : s.flag e = true) :
    (s.appendRepeat o).flag e = true := by
  unfold State.appendRepeat
  split
  · exact h
  · rw [State.flag_raise, State.flag_countOne, h, Bool.or_true]

/-- Forwarding rewrites one octet in place (R8). -/
@[simp] theorem forwarded_length (o : List Octet) (accepted : Bool) : (forwarded o accepted).length = o.length :=
  List.length_set

/-! ## The offer of a block -/

/-- An AUDIO frame for a subscription is put through the tests of its context at the present count (R113, R120). -/
theorem State.offerToSrx_subscribed {s : State} {a : AudioFrame} {g : Image} {n : Fin 16}
    (service : s.inService = true) (image : s.stc.image = some g) (subscribed : g.subscriptionOf a.stream = some n) :
    s.offerToSrx a
      = ((s.setContext n fun _ => ((s.srx[n]).offer g a s.cap.count).1).offerEffects n
            ((s.srx[n]).offer g a s.cap.count).2,
          ((s.srx[n]).offer g a s.cap.count).2.accepted) := by
  simp only [State.offerToSrx, service, image, subscribed]

/-- A relock raises STREAM_RELOCKED (R127). -/
theorem State.flag_offerEffects_relocked (s : State) (n : Fin 16) :
    (s.offerEffects n .relocked).flag .streamRelocked = true := by
  have raised : (s.raise .streamRelocked).flag .streamRelocked = true := by simp [State.flag_raise]
  simpa [State.offerEffects, State.flag] using raised

/-- The arrival of a block: its context becomes what the tests make of it, the frame goes on with its copied flag set
where the block was placed, a relock raises STREAM_RELOCKED, and a block placed in range or declined raises
nothing (R38, R113, R120, R127). -/
theorem State.takesBlock.exec_offer {s : State} {f : RxFrame} {rest : List RxFrame} {a : AudioFrame} {g : Image}
    {n : Fin 16} (h : s.takesBlock f rest a g n) {y : Context} {answer : Offer}
    (offer : (s.srx[n]).offer g a s.cap.count = (y, answer)) :
    ∃ t, exec .frameArrival s = .next t ∧ t.srx = s.srx.set n.val y n.isLt
      ∧ (answer = .relocked → t.flag .streamRelocked = true)
      ∧ (s.rfw.occupancy + f.octets.length ≤ 4096 →
          t.rfw.repeats = s.rfw.repeats
              ++ [f.octets.set 2 (transitOctet (hopsOf f.octets - 1) (copiedOf f.octets || answer.accepted))]
          ∧ (answer = .placed ∨ answer = .declined → t.svp.flags = s.svp.flags)) := by
  obtain ⟨⟨arrives, wellFormed, read⟩, service, image, other, hops, subscribed, -, -⟩ := h
  have offered : (s.withRx { s.rx with closed := rest }).offerToCopier (.audio a)
      = (((s.withRx { s.rx with closed := rest }).setContext n fun _ => y).offerEffects n answer, answer.accepted) := by
    have := State.offerToSrx_subscribed (s := s.withRx { s.rx with closed := rest }) service image subscribed
    rwa [State.withRx_srx, State.withRx_cap, offer] at this
  have taken := State.takeFrame_offered (s := s.withRx { s.rx with closed := rest }) read other hops
  rw [offered] at taken
  refine ⟨_, by rw [arrives.exec_eq, State.judgeFrame_wellFormed _ wellFormed, taken], ?_, ?_, fun room => ⟨?_, ?_⟩⟩
  · simp [State.setContext, modifyAt]
  · rintro rfl
    rw [State.flag_decideStart]
    exact State.flag_appendRepeat_of_flag _ (State.flag_offerEffects_relocked _ n)
  · rw [State.decideStart_repeats, State.appendRepeat_fits (by simpa using room)]
    simp [forwarded, rewriteTransit]
  · intro quiet
    rw [State.appendRepeat_fits (by simpa using room)]
    rcases quiet with rfl | rfl <;> simp [State.offerEffects]

/-- A block in sequence or after a gap, with the stamp expected of it, has its d missing blocks counted lost, moves the
expected values, and is put to the margin test (R117 to R119). -/
theorem Context.offer_inSequence {x : Context} {g : Image} {f : AudioFrame} (a : Word)
    (origin : x.origin = some f.origin) (code : f.format.blockCode = g.block.code) (locked : x.state = .locked)
    (near : (f.seq - x.expSeq).toNat < 256)
    (stamp : f.stamp = x.expStamp + BitVec.ofNat 32 (g.block.samples * (f.seq - x.expSeq).toNat)) :
    x.offer g f a = ((x.countBy .lost (f.seq - x.expSeq).toNat).advance g.block f).marginTest g f a := by
  have expected : f.stamp = x.expStamp + g.block.word * BitVec.ofNat 32 (f.seq - x.expSeq).toNat := by
    rw [BlockLength.word, ← BitVec.ofNat_mul]
    exact stamp
  have notDuplicate : ¬ 32768 ≤ (f.seq - x.expSeq).toNat := by omega
  have notJump : ¬ 256 ≤ (f.seq - x.expSeq).toNat := by omega
  have test : x.lockedTest g f a
      = ((x.countBy .lost (f.seq - x.expSeq).toNat).advance g.block f).marginTest g f a := by
    rw [Context.lockedTest]
    simp only [if_neg notDuplicate, if_neg notJump]
    exact if_pos expected
  rw [Context.offer, if_neg (not_not.mpr origin), if_neg (not_not.mpr code), locked]
  exact test

/-! ## The margin test -/

/-- A context finds a block late: its stamp lies before the next boundary stamp (R129). -/
abbrev Context.findsLate (x : Context) (f : AudioFrame) : Prop := signedDiff f.stamp x.nextBoundary < 0

/-- A context finds a block early: not late, and of a margin of 7B or more or come to a full queue (R130). -/
abbrev Context.findsEarly (x : Context) (g : Image) (f : AudioFrame) (a : Word) : Prop :=
  ¬ x.findsLate f ∧ (7 * (g.block.samples : Int) ≤ x.marginOf f.stamp a ∨ 8 ≤ x.queue.length)

/-- A context that has counted a late block (R129). -/
def Context.lateCounted (x : Context) : Context :=
  { x.countOne .late with lateRun := x.lateRun + 1, earlyRun := 0 }

/-- A context that has counted an early block (R130). -/
def Context.earlyCounted (x : Context) : Context :=
  { x.countOne .early with earlyRun := x.earlyRun + 1, lateRun := 0 }

/-- The counters of a context that has counted a late block. -/
theorem Context.lateCounted_counter (x : Context) (c : ContextCounter) :
    x.lateCounted.counter c = if c = .late then min 65535 (x.counter c + 1) else x.counter c :=
  x.counter_countBy .late c 1

/-- The counters of a context that has counted an early block. -/
theorem Context.earlyCounted_counter (x : Context) (c : ContextCounter) :
    x.earlyCounted.counter c = if c = .early then min 65535 (x.counter c + 1) else x.counter c :=
  x.counter_countBy .early c 1

/-- A relock counts itself and the block (R127). -/
theorem Context.relock_counter (x : Context) (g : Image) (f : AudioFrame) (a : Word) (c : ContextCounter) :
    (x.relock g f a).counter c
      = if c = .relocks ∨ c = .accepted then min 65535 (x.counter c + 1) else x.counter c := by
  have aligned : (x.align g f a x.runningOut).counter c
      = if c = .accepted then min 65535 (x.counter c + 1) else x.counter c := Context.counter_countBy _ .accepted c 1
  rw [Context.relock, Context.countOne, Context.counter_countBy, aligned]
  cases c <;> rfl

/-- What a relock sets, whatever the context was (R127). -/
theorem Context.relock_aligned (x : Context) (g : Image) (f : AudioFrame) (a : Word) :
    (x.relock g f a).r = a - f.stamp + BitVec.ofNat 32 g.target ∧ (x.relock g f a).rPlay = (x.relock g f a).r
      ∧ (x.relock g f a).margin = 16 * g.target ∧ (x.relock g f a).lateRun = 0 ∧ (x.relock g f a).earlyRun = 0
      ∧ (x.relock g f a).queue.map (·.stamp) = [f.stamp] :=
  ⟨rfl, rfl, rfl, rfl, rfl, rfl⟩

section
variable {x : Context} {g : Image} {f : AudioFrame} {a : Word}

/-- A late block is discarded below the run limit, and relocked on at it (R129). -/
theorem Context.marginTest_late (late : x.findsLate f) :
    x.marginTest g f a = if g.limit ≤ x.lateRun + 1 then (x.lateCounted.relock g f a, .relocked)
      else (x.lateCounted, .declined) := if_pos late

/-- An early block is discarded below the run limit, and relocked on at it (R130). -/
theorem Context.marginTest_early (early : x.findsEarly g f a) :
    x.marginTest g f a = if g.limit ≤ x.earlyRun + 1 then (x.earlyCounted.relock g f a, .relocked)
      else (x.earlyCounted, .declined) := (if_neg early.1).trans (if_pos early.2)

/-- A block neither late nor early is placed (R131, R132). -/
theorem Context.marginTest_inRange (notLate : ¬ x.findsLate f)
    (notEarly : ¬ (7 * (g.block.samples : Int) ≤ x.marginOf f.stamp a ∨ 8 ≤ x.queue.length)) :
    x.marginTest g f a = (x.inRange g f a, .placed) := (if_neg notLate).trans (if_neg notEarly)

/-- Below the run limit a late or early block is declined (R129, R130). -/
theorem Context.marginTest_declines (belowLate : x.findsLate f → x.lateRun + 1 < g.limit)
    (belowEarly : x.findsEarly g f a → x.earlyRun + 1 < g.limit) (either : x.findsLate f ∨ x.findsEarly g f a) :
    (x.marginTest g f a).2 = .declined := by
  rcases either with late | early
  · rw [Context.marginTest_late late, if_neg (not_le.mpr (belowLate late))]
  · rw [Context.marginTest_early early, if_neg (not_le.mpr (belowEarly early))]

/-- At the run limit a late or early block is relocked on (R129, R130). -/
theorem Context.marginTest_relocks (atLimit : x.findsLate f ∧ g.limit ≤ x.lateRun + 1
      ∨ x.findsEarly g f a ∧ g.limit ≤ x.earlyRun + 1) :
    ∃ z : Context, z.counter .relocks = x.counter .relocks
      ∧ x.marginTest g f a = (z.relock g f a, .relocked) := by
  rcases atLimit with ⟨late, atLimit⟩ | ⟨early, atLimit⟩
  · exact ⟨x.lateCounted, x.lateCounted_counter .relocks, (Context.marginTest_late late).trans (if_pos atLimit)⟩
  · exact ⟨x.earlyCounted, x.earlyCounted_counter .relocks, (Context.marginTest_early early).trans (if_pos atLimit)⟩

/-- A late block is counted late and not early, whether it is relocked on or not (R129). -/
theorem Context.marginTest_countsLate (late : x.findsLate f) :
    (x.marginTest g f a).1.counter .late = min 65535 (x.counter .late + 1)
      ∧ (x.marginTest g f a).1.counter .early = x.counter .early := by
  rw [Context.marginTest_late late]
  split <;> simp [Context.relock_counter, Context.lateCounted_counter]

/-- An early block is counted early and not late, whether it is relocked on or not (R130). -/
theorem Context.marginTest_countsEarly (early : x.findsEarly g f a) :
    (x.marginTest g f a).1.counter .early = min 65535 (x.counter .early + 1)
      ∧ (x.marginTest g f a).1.counter .late = x.counter .late := by
  rw [Context.marginTest_early early]
  split <;> simp [Context.relock_counter, Context.earlyCounted_counter]

end

/-! ## The block record of a frame -/

/-- The record of a frame holds the frame's samples in payload order (R10, R121). -/
theorem AudioFrame.blockRecord_holds (a : AudioFrame) (b : BlockLength) (mark : Bool) :
    (a.blockRecord b mark).holds a b.samples := by
  refine ⟨rfl, by simp [AudioFrame.blockRecord, payloadSamples], fun j hj => ?_⟩
  refine ⟨(List.range a.format.channels).map fun c =>
      sampleAt a.format.wide a.payload ((j * a.format.channels + c) * a.format.sampleOctets), ?_, by simp, ?_⟩
  · simp [AudioFrame.blockRecord, payloadSamples, hj]
  · intro c hc
    simp [hc, sampleAt, field16, octetAt, Format.sampleOctets]

/-! ## The filter -/

/-- The filter moves E toward its target by the difference over 2^k, rounded to the nearest integer, a half upward
(R133). -/
theorem filtered_rounds {k : Nat} (hk : 1 ≤ k) (e m : Int) :
    let diff := 16 * (if 0 ≤ m then m else 0) - e
    2 * diff - 2 ^ k < 2 * (filtered k e m - e) * 2 ^ k ∧ 2 * (filtered k e m - e) * 2 ^ k ≤ 2 * diff + 2 ^ k := by
  intro diff
  have positive : (0 : Int) < 2 ^ k := by positivity
  have half : (2 : Int) ^ k = 2 * 2 ^ (k - 1) := by
    rw [← pow_succ', Nat.sub_add_cancel hk]
  have target : (if 0 ≤ m then m else 0) = max m 0 := by split <;> omega
  have step : filtered k e m - e = (diff + 2 ^ (k - 1)) / 2 ^ k := by
    rw [filtered, add_sub_cancel_left, ← target]
  have below := Int.ediv_mul_le (diff + 2 ^ (k - 1)) positive.ne'
  have above := Int.lt_ediv_add_one_mul_self (diff + 2 ^ (k - 1)) positive
  rw [step]
  constructor <;> linarith

/-! ## The holdoff and the slip test -/

/-- The holdoff, the slip test and what they set leave the rest of a context as it is (R134, R135). -/
@[simp] theorem Context.holdoffStep_frame (x : Context) (g : Image) :
    (x.holdoffStep g).state = x.state ∧
      (x.holdoffStep g).expSeq = x.expSeq ∧
      (x.holdoffStep g).expStamp = x.expStamp ∧
      (x.holdoffStep g).rPlay = x.rPlay ∧
      (x.holdoffStep g).lateRun = x.lateRun ∧
      (x.holdoffStep g).earlyRun = x.earlyRun ∧
      (x.holdoffStep g).queue = x.queue ∧
      (x.holdoffStep g).nextBoundary = x.nextBoundary ∧
      (x.holdoffStep g).output = x.output ∧
      (x.holdoffStep g).conceal = x.conceal ∧
      (x.holdoffStep g).lastPlayed = x.lastPlayed ∧
      (x.holdoffStep g).runOut = x.runOut ∧
      (x.holdoffStep g).played = x.played ∧
      (x.holdoffStep g).values = x.values ∧
      (x.holdoffStep g).begun = x.begun := by
  unfold Context.holdoffStep Context.slipTest
  repeat' split
  all_goals simp [Context.countOne, Context.countBy]

/-- The holdoff and the slip test move no counter but those of the slips (R134, R135). -/
theorem Context.holdoffStep_counter (x : Context) (g : Image) {c : ContextCounter} (notDrop : c ≠ .dropSlips)
    (notRepeat : c ≠ .repeatSlips) : (x.holdoffStep g).counter c = x.counter c := by
  unfold Context.holdoffStep
  split
  · rfl
  split
  · unfold Context.slipTest
    split
    · exact (Context.counter_countBy _ .dropSlips c 1).trans (if_neg notDrop)
    split
    · exact (Context.counter_countBy _ .repeatSlips c 1).trans (if_neg notRepeat)
    · rfl
  · rfl

section
variable {x : Context} {g : Image}

/-- Above 0 the holdoff counts down, and nothing else (R134). -/
theorem Context.holdoffStep_counting (counting : 0 < x.holdoff) :
    x.holdoffStep g = { x with holdoff := x.holdoff - 1 } := if_pos counting

/-- With a slip pending at holdoff 0 nothing changes (R134, R135). -/
theorem Context.holdoffStep_pending (done : x.holdoff = 0) (pending : x.slip ≠ .none) : x.holdoffStep g = x :=
  (if_neg (by omega)).trans (if_neg pending)

/-- At holdoff 0 with no slip pending the slip test runs (R134, R135). -/
theorem Context.holdoffStep_tests (done : x.holdoff = 0) (free : x.slip = .none) :
    x.holdoffStep g = x.slipTest g := (if_neg (by omega)).trans (if_pos free)

/-- E at least 16(T + W) decides a DROP (R135). -/
theorem Context.slipTest_drop (high : 16 * ((g.target : Int) + g.window) ≤ x.margin) :
    x.slipTest g
      = { x with r := x.r - 1, margin := x.margin - 16, slip := .drop, holdoff := g.slipHoldoff }.countOne .dropSlips :=
  if_pos high

/-- E at most 16(T − W) decides a REPEAT, the window being at least 1 (R135). -/
theorem Context.slipTest_repeat (window : 1 ≤ g.window) (low : x.margin ≤ 16 * ((g.target : Int) - g.window)) :
    x.slipTest g
      = { x with r := x.r + 1, margin := x.margin + 16, slip := .repeated,
                 holdoff := g.slipHoldoff }.countOne .repeatSlips :=
  (if_neg (by omega)).trans (if_pos low)

/-- E strictly between the thresholds decides no slip (R135). -/
theorem Context.slipTest_between (above : 16 * ((g.target : Int) - g.window) < x.margin)
    (below : x.margin < 16 * ((g.target : Int) + g.window)) : x.slipTest g = x :=
  (if_neg (not_le.mpr below)).trans (if_neg (not_le.mpr above))

end

/-! ## Placing a block in range -/

/-- A context that has placed an in-range block and filtered its margin, before the holdoff is looked at: steps 1 to 3
of R132. -/
def Context.steered (x : Context) (g : Image) (f : AudioFrame) (a : Word) : Context :=
  { x with
    lateRun := 0
    earlyRun := 0
    queue := x.queue ++ [f.blockRecord g.block false]
    margin := filtered g.shift x.margin (x.marginOf f.stamp a) }.countOne .accepted

/-- An in-range block is placed and filtered, and then the holdoff is looked at (R132). -/
theorem Context.inRange_eq (x : Context) (g : Image) (f : AudioFrame) (a : Word) :
    x.inRange g f a = (x.steered g f a).holdoffStep g := rfl

/-- A block placed in range counts itself accepted, and no counter else before the holdoff is looked at (R132). -/
theorem Context.steered_counter (x : Context) (g : Image) (f : AudioFrame) (a : Word) (c : ContextCounter) :
    (x.steered g f a).counter c = if c = .accepted then min 65535 (x.counter c + 1) else x.counter c :=
  Context.counter_countBy _ .accepted c 1

/-- What placing an in-range block leaves, takes and counts, whatever the holdoff and the slip test then do (R132). -/
theorem Context.inRange_placed (x : Context) (g : Image) (f : AudioFrame) (a : Word) :
    (x.inRange g f a).queue = x.queue ++ [f.blockRecord g.block false]
      ∧ (x.inRange g f a).lateRun = 0 ∧ (x.inRange g f a).earlyRun = 0
      ∧ (x.inRange g f a).counter .accepted = min 65535 (x.counter .accepted + 1)
      ∧ (x.inRange g f a).counter .lost = x.counter .lost := by
  rw [Context.inRange_eq, Context.holdoffStep_counter _ _ (by decide) (by decide),
    Context.holdoffStep_counter _ _ (by decide) (by decide), Context.steered_counter, Context.steered_counter]
  simp [Context.steered, Context.countOne, Context.countBy]

/-- What placing an in-range block leaves as it is, whatever the holdoff and the slip test then do (R132, R136). -/
theorem Context.inRange_frame (x : Context) (g : Image) (f : AudioFrame) (a : Word) :
    (x.inRange g f a).values = x.values ∧ (x.inRange g f a).begun = x.begun
      ∧ (x.inRange g f a).expSeq = x.expSeq ∧ (x.inRange g f a).expStamp = x.expStamp
      ∧ (x.inRange g f a).state = x.state ∧ (x.inRange g f a).rPlay = x.rPlay
      ∧ (x.inRange g f a).nextBoundary = x.nextBoundary ∧ (x.inRange g f a).output = x.output
      ∧ (x.inRange g f a).conceal = x.conceal ∧ (x.inRange g f a).runOut = x.runOut
      ∧ (x.inRange g f a).played = x.played ∧ (x.inRange g f a).lastPlayed = x.lastPlayed := by
  rw [Context.inRange_eq]
  simp [Context.steered, Context.countOne, Context.countBy]

/-! ## O40 -/

/-- Settles O40: the offer comes to the margin test on the context whose expected values have moved, which finds the
block late or early as the context before does, and each clause reads one outcome of that test. -/
theorem lateAndEarlyBlocks : Obligations.LateAndEarlyBlocks := by
  intro s f rest a g n takes locked x d near stamp late early moved
  have ⟨_, _, _, _, _, _, origin, code⟩ := takes
  have offer : x.offer g a s.cap.count
      = ((moved.marginTest g a s.cap.count).1, (moved.marginTest g a s.cap.count).2) :=
    Context.offer_inSequence s.cap.count origin code locked near stamp
  have findsLate : late → moved.findsLate a := id
  have findsEarly : early → moved.findsEarly g a s.cap.count := id
  have counters (c : ContextCounter) (h : c ≠ .lost) : moved.counter c = x.counter c :=
    (x.counter_countBy .lost c d).trans (if_neg h)
  obtain ⟨t, exec, srx, raised, goesOn⟩ := State.takesBlock.exec_offer takes offer
  refine ⟨t, (moved.marginTest g a s.cap.count).1, exec, srx, fun isLate below => ?_, fun isEarly below => ?_,
    fun isLate => ?_, fun isEarly => ?_, fun atLimit => ?_, fun belowLate belowEarly either room => ?_⟩
  · rw [Context.marginTest_late (findsLate isLate)]
    exact congrArg Prod.fst (if_neg (not_le.mpr below))
  · rw [Context.marginTest_early (findsEarly isEarly)]
    exact congrArg Prod.fst (if_neg (not_le.mpr below))
  · rw [← counters .late (by decide), ← counters .early (by decide)]
    exact Context.marginTest_countsLate (findsLate isLate)
  · rw [← counters .late (by decide), ← counters .early (by decide)]
    exact Context.marginTest_countsEarly (findsEarly isEarly)
  · obtain ⟨z, same, test⟩ := Context.marginTest_relocks (x := moved) (a := s.cap.count) atLimit
    obtain ⟨r, rPlay, margin, lateRun, earlyRun, queue⟩ := z.relock_aligned g a s.cap.count
    have counted : (z.relock g a s.cap.count).counter .relocks = min 65535 (x.counter .relocks + 1) := by
      rw [← counters .relocks (by decide), ← same]
      exact z.relock_counter g a s.cap.count .relocks
    rw [test]
    exact ⟨r, rPlay, margin, lateRun, earlyRun, queue, counted, raised (congrArg Prod.snd test)⟩
  · have declined := Context.marginTest_declines (x := moved) (a := s.cap.count) belowLate belowEarly either
    obtain ⟨repeats, -⟩ := goesOn room
    rw [repeats, declined, Offer.accepted, Bool.or_false]

/-! ## O41 -/

/-- Settles O41: the offer comes to the placing of the block in the context whose expected values have moved; what is
placed and what stands is said by that alone, E by the filter, and R, E, the holdoff and the slip by the case of the
holdoff step. -/
theorem inRangeBlocksSteer : Obligations.InRangeBlocksSteer := by
  intro s f rest a g n takes locked clamped x d near stamp m notLate notEarly room
  have ⟨_, _, _, _, _, _, origin, code⟩ := takes
  obtain ⟨-, -, ⟨window, -⟩, -, ⟨shift, -⟩, -⟩ := clamped
  let moved : Context := (x.countBy .lost d).advance g.block a
  let z : Context := moved.steered g a s.cap.count
  have offer : x.offer g a s.cap.count = (z.holdoffStep g, .placed) :=
    (Context.offer_inSequence s.cap.count origin code locked near stamp).trans
      (Context.marginTest_inRange (x := moved) (not_lt.mpr notLate)
        (not_or.mpr ⟨not_le.mpr notEarly, not_le.mpr room⟩))
  obtain ⟨t, exec, srx, -, goesOn⟩ := State.takesBlock.exec_offer takes offer
  obtain ⟨queue, lateRun, earlyRun, accepted, lost⟩ := moved.inRange_placed g a s.cap.count
  obtain ⟨values, begun, expSeq, expStamp, state, rPlay, nextBoundary, output, conceal, runOut, played, lastPlayed⟩ :=
    moved.inRange_frame g a s.cap.count
  have others (c : ContextCounter) (h : c ≠ .lost) : moved.counter c = x.counter c :=
    (x.counter_countBy .lost c d).trans (if_neg h)
  rw [others .accepted (by decide)] at accepted
  rw [show moved.counter .lost = min 65535 (x.counter .lost + d) from x.counter_countBy .lost .lost d] at lost
  have slips (c : ContextCounter) (h : c ≠ .lost) (h' : c ≠ .accepted) : z.counter c = x.counter c := by
    rw [moved.steered_counter, if_neg h', others c h]
  have tests (done : x.holdoff = 0) (free : x.slip = .none) : z.holdoffStep g = z.slipTest g :=
    Context.holdoffStep_tests (x := z) done free
  refine ⟨t, z.holdoffStep g, a.blockRecord g.block false, filtered g.shift x.margin m, exec, srx, queue, rfl, rfl,
    rfl, rfl, a.blockRecord_holds g.block false, lateRun, earlyRun, accepted, lost, values, begun, expSeq, expStamp,
    state.trans locked, rPlay, nextBoundary, output, conceal, runOut, played, lastPlayed,
    fun _ => filtered_rounds (by omega) x.margin m, fun counting => ?_, fun done pending => ?_,
    fun done free high => ?_, fun done free low => ?_, fun done free above below => ?_, fun fits => ?_⟩
  · rw [Context.holdoffStep_counting (x := z) counting]
    exact ⟨rfl, rfl, rfl, rfl⟩
  · rw [Context.holdoffStep_pending (x := z) done pending]
    exact ⟨done, rfl, rfl, rfl⟩
  · rw [tests done free, Context.slipTest_drop (x := z) high, ← slips .dropSlips (by decide) (by decide)]
    exact ⟨rfl, rfl, rfl, rfl, Context.counter_countBy _ .dropSlips .dropSlips 1⟩
  · rw [tests done free, Context.slipTest_repeat (x := z) window low, ← slips .repeatSlips (by decide) (by decide)]
    exact ⟨rfl, rfl, rfl, rfl, Context.counter_countBy _ .repeatSlips .repeatSlips 1⟩
  · rw [tests done free, Context.slipTest_between (x := z) above below]
    exact ⟨done, rfl, rfl, free⟩
  · obtain ⟨repeats, flags⟩ := goesOn fits
    refine ⟨flags (.inl rfl), ?_⟩
    rw [repeats, Offer.accepted, Bool.or_true]

end Sys2Proof.Machine

/-! SUPPORT. A boundary of a LOCKED stream: the context it leaves, and the channels on which index 0 of its output block
stands (R144 to R150). -/

namespace Sys2Proof.Machine

/-! ## Index 0 of an output block -/

/-- A block length is never 0 (R125). -/
theorem BlockLength.samples_pos (b : BlockLength) : 0 < b.samples := by cases b <;> decide

/-- The samples of index 0 of an output block of length b: only a fade-in changes them (R146, R149). -/
def OutputBlock.first (out : OutputBlock) (b : Nat) : Vector Sample 4 :=
  Vector.ofFn fun c =>
    let v : Int := ((out.source.bind fun k => k.samples[0]?).bind fun f => f[c.val]?).getD 0
    if out.fade = .into then v.tdiv b else v

/-- At index 0 a fade-in divides the sample by B, and a fade-out leaves it whole (R149). -/
theorem fadeSample_zero {b : Nat} (hb : 0 < b) (fade : Fade) (v : Sample) :
    fadeSample fade b 0 v = if fade = .into then v.tdiv b else v := by
  cases fade with
  | none => rfl
  | into => simp [fadeSample]
  | out =>
    have whole : (v * (b : Int)).tdiv b = v := Int.mul_tdiv_cancel v (by omega)
    simpa [fadeSample] using whole

/-- Where the source index is the current boundary stamp, the output sample index is 0 (R146). -/
theorem Context.outputIndex_zero {x : Context} {b : Nat} {t : Word}
    (start : t - x.rPlay = x.nextBoundary - BitVec.ofNat 32 b) : x.outputIndex b t = 0 := by
  simp [Context.outputIndex, signedDiff, start]

/-- The values of a LOCKED stream without a run-out at index 0 are those its output block begins with (R146). -/
theorem Context.values_first {x : Context} {b : Nat} {t : Word} (hb : 0 < b) (locked : x.state = .locked)
    (bridged : x.runOut = none) (start : t - x.rPlay = x.nextBoundary - BitVec.ofNat 32 b) :
    Vector.ofFn (x.value b t) = x.output.first b := by
  refine congrArg Vector.ofFn (funext fun c => ?_)
  cases source : x.output.source with
  | none => simp [Context.value, locked, bridged, source]
  | some k =>
    have sent : x.value b t c = k.value x.output.fade b 0 c := by
      simp only [Context.value, locked, source, Context.outputIndex_zero start]
    rw [sent]
    exact fadeSample_zero hb x.output.fade _

/-! ## The context that a boundary leaves -/

/-- The context as its boundary stamp is reached: the blocks before it have left the queue, and a run-out has ended
(R147, R153). -/
def Context.reached (x : Context) : Context :=
  { x with queue := x.queue.filter fun k => decide (0 ≤ signedDiff k.stamp x.nextBoundary), runOut := none }

/-- The chosen output block begins: the next boundary stamp advances by B and index 0 is sent (R147). -/
def Context.outputBegun (x : Context) (b : Nat) : Context :=
  { x with nextBoundary := x.nextBoundary + BitVec.ofNat 32 b, begun := true, values := x.output.first b }

/-- At its boundary a LOCKED context without a run-out settles with index 0 of the output block it holds (R146, R147). -/
theorem Context.settle_outputBegun {x : Context} {b : Nat} {t : Word} (hb : 0 < b) (locked : x.state = .locked)
    (bridged : x.runOut = none) (due : t - x.rPlay = x.nextBoundary) :
    Context.settle { x with nextBoundary := x.nextBoundary + BitVec.ofNat 32 b, begun := true } b t
      = x.outputBegun b := by
  have start : t - x.rPlay = x.nextBoundary + BitVec.ofNat 32 b - BitVec.ofNat 32 b := by
    rw [due, BitVec.add_sub_cancel]
  rw [Context.settle, Context.values_first hb (by exact locked) (by exact bridged) (by exact start)]
  rfl

/-- A boundary's choice: a head of the boundary stamp plays, and otherwise the boundary is concealed (R148, R149). -/
def Context.chosen (x : Context) : Context :=
  match x.queue.head? with
  | some k => if k.stamp = x.nextBoundary then x.playBlock k else x.concealBlock
  | none => x.concealBlock

/-- A head of the boundary stamp plays (R148). -/
theorem Context.chosen_plays {x : Context} {k : BlockRecord} (head : k ∈ x.queue.head?)
    (stamp : k.stamp = x.nextBoundary) : x.chosen = x.playBlock k := by
  rw [Context.chosen, Option.mem_def.mp head]
  exact if_pos stamp

/-- Without a head of the boundary stamp the boundary is concealed (R149). -/
theorem Context.chosen_conceals {x : Context} (other : ∀ k ∈ x.queue.head?, k.stamp ≠ x.nextBoundary) :
    x.chosen = x.concealBlock := by
  unfold Context.chosen
  split
  · exact if_neg (other _ ‹_›)
  · rfl

/-- The choice moves neither the state, nor the run-out, nor what places the boundary. -/
@[simp] theorem Context.chosen_frame (x : Context) :
    x.chosen.state = x.state ∧ x.chosen.runOut = x.runOut ∧ x.chosen.rPlay = x.rPlay
      ∧ x.chosen.nextBoundary = x.nextBoundary := by
  unfold Context.chosen
  split
  · split <;> exact ⟨rfl, rfl, rfl, rfl⟩
  · exact ⟨rfl, rfl, rfl, rfl⟩

/-- A boundary of a LOCKED context at its stamp makes its choice among the blocks that remain, and begins the output
block chosen (R147). -/
theorem Context.boundary_eq {x : Context} {b : Nat} {t : Word} (hb : 0 < b) (locked : x.state = .locked)
    (due : t - x.rPlay = x.nextBoundary) : x.boundary b t = x.reached.chosen.outputBegun b := by
  have remain : (fun k : BlockRecord => !decide (signedDiff k.stamp x.nextBoundary < 0))
      = fun k => decide (0 ≤ signedDiff k.stamp x.nextBoundary) := by
    funext k
    rw [← decide_not, decide_eq_decide, not_lt]
  obtain ⟨state, runOut, rPlay, nextBoundary⟩ := x.reached.chosen_frame
  rw [← Context.settle_outputBegun hb (state.trans locked) runOut
    (by rw [rPlay, nextBoundary]; exact due), Context.boundary, remain]
  rfl

/-- The context after its boundary: R_play takes R where a slip is pending, and none is pending any more (R150). -/
def Context.slipped (x : Context) : Context :=
  { x with rPlay := if x.slip = .none then x.rPlay else x.r, slip := .none }

/-- A pending slip is applied, or none is pending and the context stands (R150). -/
theorem Context.slipped_eq (x : Context) : (if x.slip = .none then x else x.applySlip) = x.slipped := by
  unfold Context.slipped
  split
  next free => rw [← free]
  next => rfl

/-! ## The channels -/

/-- Computing channels changes the Playout Engine's state alone (R144). -/
theorem State.computeChannels_eq (s : State) (which : Assignment → Bool) :
    s.computeChannels which = s.withPly (s.computeChannels which).ply := by
  unfold State.computeChannels
  split
  · rw [withPly_ply]
  · rfl

/-- Computing channels switches no headphone (R156). -/
@[simp] theorem State.computeChannels_inForce (s : State) (which : Assignment → Bool) :
    (s.computeChannels which).ply.inForce = s.ply.inForce := by
  unfold State.computeChannels
  split
  · rw [withPly_ply]
  · rfl

/-- A channel that the test picks takes its value at the present count while the ports run (R144, R145). -/
theorem State.computeChannels_picked {s : State} {g : Image} {which : Assignment → Bool} {ch : Fin 32}
    (image : s.stc.image = some g) (running : s.cap.running = true)
    (picked : which (g.assignment s.venue ch) = true) :
    (s.computeChannels which).ply.channels[ch] = s.channelValue g ch := by
  simp only [State.computeChannels, running, image, withPly_ply, ofFn_get, picked, if_true]

/-- A channel stands while the ports are STOPPED, or where the test passes it over (R144, R145). -/
theorem State.computeChannels_passed {s : State} {g : Image} {which : Assignment → Bool} {ch : Fin 32}
    (image : s.stc.image = some g)
    (passed : s.cap.running = false ∨ which (g.assignment s.venue ch) = false) :
    (s.computeChannels which).ply.channels[ch] = s.ply.channels[ch] := by
  rcases passed with stopped | passed
  · simp only [State.computeChannels, stopped]
  · unfold State.computeChannels
    split
    next image' =>
      obtain rfl := Option.some.inj (image.symm.trans image')
      simp [passed]
    next => rfl

/-- A playout channel that one channel of one subscription is mapped to is assigned to it (R145). -/
theorem Image.assignment_stream {g : Image} {n : Fin 16} {u : Subscription} {c : Fin 4} {ch : Fin 32} (venue : Bool)
    (subscribed : g.subscription n = some u) (mapped : u.map[c] = some ch)
    (alone : ∀ n' u' (c' : Fin 4), g.subscription n' = some u' → u'.map[c'] = some ch → n' = n ∧ c' = c) :
    g.assignment venue ch = .stream n c := by
  unfold Image.assignment
  split
  next m d found =>
    obtain ⟨k, -, inRecord⟩ := List.exists_of_findSome?_eq_some found
    obtain ⟨u', subscribed', inMap⟩ := Option.bind_eq_some_iff.mp inRecord
    obtain ⟨c', first, pair⟩ := Option.map_eq_some_iff.mp inMap
    have mapped' : decide (u'.map[c'] = some ch) = true :=
      List.find?_some (p := fun c => decide (u'.map[c] = some ch)) first
    obtain ⟨rfl, rfl⟩ := alone k u' c' subscribed' (of_decide_eq_true mapped')
    cases pair
    rfl
  next missing =>
    have unmapped := List.findSome?_eq_none_iff.mp missing n (List.mem_finRange n)
    rw [subscribed, Option.bind_some, Option.map_eq_none_iff] at unmapped
    exact absurd (decide_eq_true mapped) (List.find?_eq_none.mp unmapped c (List.mem_finRange c))

/-! ## BLOCK_BOUNDARY -/

/-- The meaning of BLOCK_BOUNDARY. -/
theorem exec_blockBoundary (n : Fin 16) (s : State) : exec (.blockBoundary n) s = execBlockBoundary n s := rfl

/-- A LOCKED context at its boundary stamp has its boundary taken, at the present instant (R147). -/
theorem State.exec_boundaryDue {s : State} {n : Fin 16} (locked : (s.srx[n]).state = .locked)
    (due : s.cap.count - (s.srx[n]).rPlay = (s.srx[n]).nextBoundary) :
    exec (.blockBoundary n) s = .next (s.takeBoundary n) := by
  have reached : (s.srx[n]).atBoundary s.cap.count = true := by
    rw [Context.atBoundary, locked, due, beq_self_eq_true, beq_self_eq_true, Bool.and_self]
  rw [exec_blockBoundary, execBlockBoundary, State.blockBoundaryAt, State.takeEvent_nowIf, if_pos reached]

/-- The context changed (R105). -/
theorem State.setContext_self (s : State) (n : Fin 16) (f : Context → Context) :
    (s.setContext n f).srx[n] = f s.srx[n] := modifyAt_self s.srx n f

/-- Two changes of a context in turn are one (R105). -/
theorem State.setContext_setContext (s : State) (n : Fin 16) (f h : Context → Context) :
    (s.setContext n f).setContext n h = s.setContext n fun x => h (f x) := by
  have twice : modifyAt (modifyAt s.srx n f) n h = modifyAt s.srx n fun x => h (f x) := by
    simp [modifyAt]
  exact congrArg s.withSrx twice

/-- The state in which the context has begun its new output block, and the channels are still to be computed (R147). -/
def State.atIndexZero (s : State) (g : Image) (n : Fin 16) : State :=
  s.setContext n (·.boundary g.block.samples s.cap.count)

/-- A boundary taken: the context begins its output block and has its slip applied, and the channels stand as they were
computed in between (R147, R150). -/
theorem State.takeBoundary_eq {s : State} {g : Image} (n : Fin 16) (image : s.stc.image = some g) :
    s.takeBoundary n
      = (s.setContext n fun x => (x.boundary g.block.samples s.cap.count).slipped).withPly
          ((s.atIndexZero g n).refreshStream n).ply := by
  have begun : s.takeBoundary n = ((s.atIndexZero g n).refreshStream n).setContext n fun x =>
      if x.slip = .none then x else x.applySlip := by
    simp only [State.takeBoundary, image, State.atIndexZero]
  have computed := State.computeChannels_eq (s.atIndexZero g n) ((s.atIndexZero g n).feeds n)
  have once := State.setContext_setContext s n (·.boundary g.block.samples s.cap.count) Context.slipped
  simp only [Context.slipped_eq] at begun
  rw [begun, State.refreshStream, computed, withPly_ply, ← once]
  rfl

/-! ## O42 -/

/-- Settles O42: the context at its stamp is what its choice makes of it, with index 0 sent and the slip applied; a
channel mapped to the stream alone is computed from it, and a channel that the stream does not feed stands. -/
theorem boundariesPlayOrConceal : Obligations.BoundariesPlayOrConceal := by
  intro s g n image locked due x queue conceal common first
  have begins : x.boundary g.block.samples s.cap.count = x.reached.chosen.outputBegun g.block.samples :=
    Context.boundary_eq g.block.samples_pos locked due
  have taken := State.takeBoundary_eq n image
  have context : (s.takeBoundary n).srx
      = s.srx.set n.val (x.reached.chosen.outputBegun g.block.samples).slipped n.isLt := by
    rw [taken, ← begins]
    rfl
  refine ⟨s.takeBoundary n, State.exec_boundaryDue locked due, ?_, ?_, ?_, ?_, ?_, ?_⟩
  · rw [taken]
    rfl
  · rw [taken]
    exact State.computeChannels_inForce ..
  · intro k head stamp
    rw [context, Context.chosen_plays (x := x.reached) head stamp]
    rfl
  · intro other
    rw [context, Context.chosen_conceals (x := x.reached) other]
    rfl
  · intro u c ch running subscribed mapped alone
    have assigned : g.assignment (s.atIndexZero g n).venue ch = .stream n c :=
      Image.assignment_stream _ subscribed mapped alone
    have fed : (s.atIndexZero g n).feeds n (.stream n c) = true := beq_self_eq_true n
    have sent := State.computeChannels_picked (s := s.atIndexZero g n) image running (assigned ▸ fed)
    have stands : ((s.takeBoundary n).srx[n]).values = ((s.atIndexZero g n).srx[n]).values := by
      rw [taken, State.withPly_srx, State.setContext_self, State.atIndexZero, State.setContext_self]
      rfl
    rw [stands, taken, State.withPly_ply, State.refreshStream, sent, State.channelValue, assigned]
    rfl
  · intro ch passed
    rw [taken]
    exact State.computeChannels_passed (s := s.atIndexZero g n) image passed

end Sys2Proof.Machine

/-! SUPPORT. A CUE offered to the POS, from the tests on it to the positions and lamps it acts on (10 R166, R167,
R175). -/

namespace Sys2Proof.Machine

/-! ## The tests on an offered cue -/

/-- An address of the table of the addresses 1 to 30 is found at its place (R72). -/
theorem placeOf_addressAt (i : Fin 30) : placeOf (addressAt i).toNat = some i := by
  have value : (addressAt i).toNat = i.val + 1 := by
    rw [addressAt, BitVec.toNat_ofNat]
    omega
  rw [value, placeOf, dif_pos (by omega)]
  rfl

/-- `State.venue` tells the role strap VENUE (R177). -/
theorem State.venue_eq_true {s : State} : s.venue = true ↔ s.stc.straps.role = .venue := beq_iff_eq

/-- A station with the role strap GALLERY is no venue (R177). -/
theorem State.venue_of_gallery {s : State} (gallery : s.stc.straps.role = .gallery) : s.venue = false := by
  rw [State.venue, gallery]
  rfl

/-- The cue's tag has become the last seen of the origin at a place (R166). -/
def State.sawTag (s : State) (c : CueFrame) (i : Fin 30) : State :=
  { s with pos := { s.pos with lastTags := s.pos.lastTags.set i.val (some c.tag) i.isLt } }

/-- Outside ACTIVE a cue is declined without a look (R166). -/
theorem State.offerToPos_inactive {s : State} (c : CueFrame) (inactive : s.atc.state ≠ .active) :
    s.offerToPos c = (s, false) := by
  unfold State.offerToPos
  split
  · next active _ _ => exact absurd active inactive
  · rfl

/-- In ACTIVE a cue is put through the tests of R166 at its origin's place. -/
theorem State.offerToPos_active {s : State} {g : Image} {c : CueFrame} {i : Fin 30} (image : s.stc.image = some g)
    (origin : addressAt i = c.origin) (active : s.atc.state = .active) : s.offerToPos c = s.takeCue g c i := by
  simp only [State.offerToPos, active, image, ← origin, placeOf_addressAt]

section
variable {s : State} {g : Image} {c : CueFrame} {i : Fin 30}

/-- Test 1: an ABSENT origin (R166). -/
theorem State.takeCue_absent (absent : ¬ (s.pru.peers[i]).present = true) :
    s.takeCue g c i = (s.countOne .cuesIgnored, false) := by
  rw [State.takeCue, Bool.eq_false_of_not_eq_true absent]
  rfl

/-- Test 2: the last tag seen again (R166). -/
theorem State.takeCue_duplicate (present : (s.pru.peers[i]).present = true)
    (duplicate : s.pos.lastTags[i] = some c.tag) : s.takeCue g c i = (s.countOne .cueDuplicates, false) := by
  rw [State.takeCue, present, Bool.not_true, if_neg Bool.false_ne_true, if_pos duplicate]

/-- Past test 2 the tag is seen, and the destination and the meaning are left to test (R166). -/
theorem State.takeCue_fresh (present : (s.pru.peers[i]).present = true)
    (fresh : s.pos.lastTags[i] ≠ some c.tag) :
    s.takeCue g c i =
      if ¬ (c.destination = s.address ∨ c.destination = 31#5) then (s.sawTag c i, false)
      else if s.cueMeaningful g c = false then ((s.sawTag c i).countOne .cuesIgnored, false)
      else ((if s.venue then (s.sawTag c i).venueCue c else (s.sawTag c i).galleryCue g c).countOne .cuesAccepted,
        true) := by
  rw [State.takeCue, present, Bool.not_true, if_neg Bool.false_ne_true, if_neg fresh]
  simp only [Bool.not_eq_true']
  rfl

/-- Test 3: another destination (R166). -/
theorem State.takeCue_elsewhere (present : (s.pru.peers[i]).present = true)
    (fresh : s.pos.lastTags[i] ≠ some c.tag) (elsewhere : ¬ (c.destination = s.address ∨ c.destination = 31#5)) :
    s.takeCue g c i = (s.sawTag c i, false) := by
  rw [State.takeCue_fresh present fresh, if_pos elsewhere]

/-- Test 4: no meaning for the role (R166). -/
theorem State.takeCue_meaningless (present : (s.pru.peers[i]).present = true)
    (fresh : s.pos.lastTags[i] ≠ some c.tag) (here : c.destination = s.address ∨ c.destination = 31#5)
    (meaningless : ¬ s.cueMeaningful g c = true) :
    s.takeCue g c i = ((s.sawTag c i).countOne .cuesIgnored, false) := by
  rw [State.takeCue_fresh present fresh, if_neg (not_not.mpr here), if_pos (Bool.eq_false_of_not_eq_true meaningless)]

/-- A cue that no test stops is accepted, and acts by the station's role (R166, R167, R175). -/
theorem State.takeCue_accepted (present : (s.pru.peers[i]).present = true)
    (fresh : s.pos.lastTags[i] ≠ some c.tag) (here : c.destination = s.address ∨ c.destination = 31#5)
    (meant : s.cueMeaningful g c = true) :
    s.takeCue g c i =
      ((if s.venue then (s.sawTag c i).venueCue c else (s.sawTag c i).galleryCue g c).countOne .cuesAccepted,
        true) := by
  rw [State.takeCue_fresh present fresh, if_neg (not_not.mpr here), if_neg (by simp [meant])]

end

/-! ## The meaning of a cue at a venue -/

/-- The positions a cue may carry: 0 to 3, and 15 for them all (R13). -/
theorem cuePosition_iff (p : Nat) : cuePosition p = true ↔ p ≤ 3 ∨ p = 15 := by
  simp [cuePosition, Config.allPositions]

/-- A position of 15 names each of the positions 0 to 3 alike (R167). -/
theorem namesPosition_iff (field : BitVec 4) (p : Fin 4) :
    namesPosition field p = true ↔ field.toNat = p.val ∨ field.toNat = 15 := by
  simp [namesPosition, Config.allPositions]

/-- At a venue the gallery's ON_AIR, OFF_AIR, TALKBACK_OPEN and TALKBACK_CLOSE have a meaning (R166, R167). -/
theorem State.cueMeaningful_venue {s : State} (g : Image) (c : CueFrame) (venue : s.stc.straps.role = .venue) :
    s.cueMeaningful g c = true ↔ (c.position.toNat ≤ 3 ∨ c.position.toNat = 15) ∧ c.origin = g.gallery
      ∧ (c.code = .onAir ∨ c.code = .offAir ∨ c.code = .talkbackOpen ∨ c.code = .talkbackClose) := by
  rw [State.cueMeaningful, if_pos (State.venue_eq_true.mpr venue), Bool.and_eq_true, Bool.and_eq_true, cuePosition_iff,
    beq_iff_eq]
  cases c.code <;> simp

/-- What a cue does to the position record it acts on, its selection judged again (R167, R173). -/
theorem CueCode.onPosition_judged (k : CueCode) (old : Position) :
    (k.onPosition old).judged = { old with
      onAir := if k = .onAir then true else if k = .offAir then false else old.onAir
      talkback := if k = .talkbackOpen then true else if k = .talkbackClose then false else old.talkback
      selection := selectionOf old.latch
        (if k = .talkbackOpen then true else if k = .talkbackClose then false else old.talkback) } := by
  cases k <;> rfl

/-- A venue position after an accepted cue (R167). -/
theorem State.venueCue_position (s : State) (c : CueFrame) (p : Fin 4) :
    (s.venueCue c).pos.positions[p] =
      if c.position.toNat = p.val ∨ c.position.toNat = 15 then (c.code.onPosition s.pos.positions[p]).judged
      else s.pos.positions[p] := by
  simp only [State.venueCue, State.withPos_pos, ofFn_get, namesPosition_iff]

/-! ## The lamps a cue names -/

/-- The position a cue's field carries (R13). -/
theorem positionOf_eq_some {field : BitVec 4} {p : Fin 4} : positionOf field = some p ↔ field.toNat = p.val := by
  simp only [positionOf, Option.dite_none_right_eq_some, Option.some.injEq, Fin.ext_iff]
  exact ⟨fun ⟨_, e⟩ => e, fun e => ⟨by omega, e⟩⟩

/-- Numbers gathered one after another into a word as its bits: a bit is set if it was, or if its number is gathered. -/
theorem getLsbD_foldl_bits (P : Fin 16 → Prop) [DecidablePred P] (ls : List (Fin 16)) (m : BitVec 16) (l : Fin 16) :
    (ls.foldl (fun m k => if P k then m ||| (1#16 <<< k.val) else m) m).getLsbD l.val = true
      ↔ m.getLsbD l.val = true ∨ l ∈ ls ∧ P l := by
  induction ls generalizing m with
  | nil => simp
  | cons k ks ih =>
    have bit : (1#16 <<< k.val).getLsbD l.val = true ↔ l = k := by
      clear ih
      revert k l
      decide
    have here : l = k ∧ P l ↔ l = k ∧ P k := and_congr_right fun e => by rw [e]
    rw [List.foldl_cons, ih, List.mem_cons, or_and_right, here]
    split
    · next holds =>
      rw [BitVec.getLsbD_or, Bool.or_eq_true, bit]
      simp only [holds, and_true, or_assoc]
    · next fails => simp [fails]

/-- A lamp is mapped to a venue, and to a position of it or to any (R175). -/
abbrev Image.mapsLamp (g : Image) (venue : Address) (p : Option (Fin 4)) (l : Fin 16) : Prop :=
  ∃ q : Fin 4, g.lamps[l] = some (venue, q) ∧ (p = none ∨ p = some q)

/-- `Image.lampsOf` gathers the lamps mapped as asked. -/
theorem Image.getLsbD_lampsOf (g : Image) (venue : Address) (p : Option (Fin 4)) (l : Fin 16) :
    (g.lampsOf venue p).getLsbD l.val = true ↔ g.mapsLamp venue p l := by
  have gathers : g.lampsOf venue p
      = (List.finRange 16).foldl (fun m k => if g.mapsLamp venue p k then m ||| (1#16 <<< k.val) else m) 0#16 := by
    unfold Image.lampsOf
    congr 1
    funext m k
    split
    · next v q lamp =>
      refine if_congr ?_ rfl rfl
      simp only [Image.mapsLamp, lamp, Option.some.injEq, Prod.mk.injEq]
      exact ⟨fun ⟨e, h⟩ => ⟨q, ⟨e, rfl⟩, h⟩, fun ⟨_, ⟨e, eq⟩, h⟩ => ⟨e, eq ▸ h⟩⟩
    · next lamp => simp [Image.mapsLamp, lamp]
  rw [gathers, getLsbD_foldl_bits]
  simp [List.mem_finRange]

/-- A lamp named by a cue: it is mapped to its origin, and to its position, or for position 15 to any (R175). -/
abbrev Image.namesLamp (g : Image) (c : CueFrame) (l : Fin 16) : Prop :=
  ∃ p : Fin 4, g.lamps[l] = some (c.origin, p) ∧ (c.position.toNat = p.val ∨ c.position.toNat = 15)

/-- `Image.lampsNamed` gathers the lamps a cue names (R175). -/
theorem Image.getLsbD_lampsNamed (g : Image) (c : CueFrame) (l : Fin 16) :
    (g.lampsNamed c).getLsbD l.val = true ↔ g.namesLamp c l := by
  unfold Image.lampsNamed
  split
  · next all =>
    have all : c.position.toNat = 15 := all
    rw [Image.getLsbD_lampsOf]
    simp [Image.mapsLamp, Image.namesLamp, all]
  · next one =>
    have one : c.position.toNat ≠ 15 := one
    have field : ∀ q, positionOf c.position = some q ↔ c.position.toNat = q.val := fun _ => positionOf_eq_some
    split
    · next p carried =>
      simp only [carried, Option.some.injEq] at field
      rw [Image.getLsbD_lampsOf]
      simp [Image.mapsLamp, Image.namesLamp, one, field]
    · next carried =>
      simp only [carried, reduceCtorEq, false_iff] at field
      simp [Image.namesLamp, one, field]

/-- The lamps a cue names are none exactly if it names no lamp. -/
theorem Image.lampsNamed_ne_zero (g : Image) (c : CueFrame) :
    g.lampsNamed c ≠ 0#16 ↔ ∃ l, g.namesLamp c l := by
  constructor
  · intro lit
    by_contra unnamed
    refine lit (BitVec.eq_of_getLsbD_eq fun l hl => ?_)
    have dark := mt (g.getLsbD_lampsNamed c ⟨l, hl⟩).mp fun named => unnamed ⟨_, named⟩
    simpa using dark
  · rintro ⟨l, named⟩ zero
    have lit := (g.getLsbD_lampsNamed c l).mpr named
    simp [zero] at lit

/-- A cue that names a lamp carries a position that a cue may carry (R13). -/
theorem Image.namesLamp.position {g : Image} {c : CueFrame} {l : Fin 16} (named : g.namesLamp c l) :
    c.position.toNat ≤ 3 ∨ c.position.toNat = 15 := by
  obtain ⟨p, -, carried⟩ := named
  omega

/-- At the gallery a TALK_REQUEST or TALK_CLEAR that names a lamp has a meaning (R166, R175). -/
theorem State.cueMeaningful_gallery {s : State} (g : Image) (c : CueFrame) (gallery : s.stc.straps.role = .gallery) :
    s.cueMeaningful g c = true ↔ (c.code = .talkRequest ∨ c.code = .talkClear) ∧ ∃ l, g.namesLamp c l := by
  have placed : (∃ l, g.namesLamp c l) → c.position.toNat ≤ 3 ∨ c.position.toNat = 15 :=
    fun ⟨_, named⟩ => named.position
  rw [State.cueMeaningful, State.venue_of_gallery gallery, Bool.and_eq_true, cuePosition_iff, ← g.lampsNamed_ne_zero]
  rw [← g.lampsNamed_ne_zero] at placed
  cases c.code with
  | talkRequest | talkClear => simpa using placed
  | onAir | offAir | talkbackOpen | talkbackClose => simp

/-- At the gallery an accepted cue leaves the position records as they are (R175). -/
@[simp] theorem State.galleryCue_positions (s : State) (g : Image) (c : CueFrame) :
    (s.galleryCue g c).pos.positions = s.pos.positions := by
  unfold State.galleryCue
  split <;> rfl

/-- What an accepted cue does at the gallery moves no counter. -/
@[simp] theorem State.counter_galleryCue (s : State) (g : Image) (c : CueFrame) (k : Counter) :
    (s.galleryCue g c).counter k = s.counter k := by
  simp [State.counter]

/-- A TALK_REQUEST or TALK_CLEAR sets the lamps it names ON or OFF, and no other (R175). -/
theorem State.galleryCue_lamp (s : State) (g : Image) {c : CueFrame}
    (request : c.code = .talkRequest ∨ c.code = .talkClear) (l : Fin 16) :
    (g.namesLamp c l → ((s.galleryCue g c).pos.lamps.getLsbD l.val = true ↔ c.code = .talkRequest))
    ∧ (¬ g.namesLamp c l → (s.galleryCue g c).pos.lamps.getLsbD l.val = s.pos.lamps.getLsbD l.val) := by
  rw [← g.getLsbD_lampsNamed]
  rcases request with code | code <;> simp +contextual [State.galleryCue, code]

/-! ## O46 -/

/-- Settles O46: each test is the equation that says how a cue which it stops is answered, and a cue which no test stops
acts by the role. -/
theorem cuesAreJudged : Obligations.CuesAreJudged := by
  refine ⟨fun s g c i image origin => ⟨s.offerToPos_inactive c, fun active => ?_⟩,
    fun s g c i image origin active gallery present fresh here => ?_⟩
  · rw [State.offerToPos_active image origin active]
    refine ⟨State.takeCue_absent, fun present stale => State.takeCue_duplicate present (not_not.mp stale),
      State.takeCue_elsewhere, fun present fresh here venue meaningless => ?_,
      fun present fresh here venue meant => ?_⟩
    · exact State.takeCue_meaningless present fresh here (mt (State.cueMeaningful_venue g c venue).mp meaningless)
    · rw [State.takeCue_accepted present fresh here ((State.cueMeaningful_venue g c venue).mpr meant),
        if_pos (State.venue_eq_true.mpr venue)]
      refine ⟨rfl, (State.counter_countOne ..).trans (if_pos rfl), rfl, fun p => ?_⟩
      have changed := (s.sawTag c i).venueCue_position c p
      rw [CueCode.onPosition_judged] at changed
      exact changed
  · have meaning := State.cueMeaningful_gallery g c gallery
    intro request ignored named t
    have judged : t = s.takeCue g c i := State.offerToPos_active image origin active
    rw [judged]
    refine ⟨fun meaningless => ?_, fun asked names => ?_⟩
    · refine State.takeCue_meaningless present fresh here (mt meaning.mp fun ⟨asked, l, names⟩ => ?_)
      exact meaningless.elim (· asked) (· l names)
    · rw [State.takeCue_accepted present fresh here (meaning.mpr ⟨asked, names⟩),
        if_neg (by simp [State.venue_of_gallery gallery])]
      have counted := ((s.sawTag c i).galleryCue g c).counter_countOne .cuesAccepted .cuesAccepted
      rw [if_pos rfl, State.counter_galleryCue] at counted
      refine ⟨rfl, counted, ?_, ?_, ?_, (s.sawTag c i).galleryCue_lamp g asked⟩
      · exact (s.sawTag c i).galleryCue_positions g c
      · simp [State.sawTag]
      · simp [State.countOne, State.countBy, State.sawTag]

end Sys2Proof.Machine

/-! SUPPORT. The assertion of RESET_N, between frames and while one is being transmitted, the ABORT units that follow,
and what the transmit line shows through them (R3, R32, R178). -/

namespace Sys2Proof.Machine

/-! ## What the transmit line shows -/

/-- The line carries IDLE units while no frame is on it (R2, R41). -/
theorem State.txUnit_idle {s : State} (h : s.rfw.arbiter = .disabled) : s.txUnit = .idle := by
  simp [State.txUnit, h]

/-- With a frame on the line it shows an ABORT unit or the frame's present unit (R2, R3). -/
theorem State.txUnit_sending {s : State} {f : LineFrame} {since : Nat} (h : s.rfw.arbiter = .sending f since) :
    s.txUnit = if s.aborting then .abort else frameUnit f.octets (s.unitsSince since) := by
  simp [State.txUnit, h]

/-- ABORT units stand on the line from the instant of the cut on (R3). -/
theorem State.aborting_of_cut {s : State} {c : Cut} (h : s.rfw.cut = some c) :
    s.aborting = decide (c.since ≤ s.now) := by
  simp [State.aborting, h]

/-- A frame that is not cut off is not aborted (R3). -/
theorem State.aborting_of_uncut {s : State} (h : s.rfw.cut = none) : s.aborting = false := by
  simp [State.aborting, h]

/-- Cutting a frame off, or carrying its cut over, leaves the line's present unit as it was until the first ABORT unit
begins: the unit on the line goes out whole (R3). -/
theorem State.txUnit_cutOff {s t : State} {f : LineFrame} {since start : Nat} {byReset : Bool} (now : t.now = s.now)
    (before : s.rfw.arbiter = .sending f since) (after : t.rfw.arbiter = .sending f since)
    (cut : t.rfw.cut = some ⟨start, byReset⟩) (earlier : ∀ c ∈ s.rfw.cut, start = c.since) :
    t.txUnit = if start ≤ s.now then .abort else s.txUnit := by
  have units : t.unitsSince since = s.unitsSince since := by rw [State.unitsSince, State.unitsSince, now]
  rw [State.txUnit_sending after, State.txUnit_sending before, State.aborting_of_cut cut, units, now]
  by_cases begun : start ≤ s.now
  · simp [begun]
  · have whole : s.aborting = false := by
      cases standing : s.rfw.cut with
      | none => exact State.aborting_of_uncut standing
      | some c =>
        rw [State.aborting_of_cut standing, ← earlier c standing]
        exact decide_eq_false begun
    simp [begun, whole]

/-- While a frame is being transmitted the next unit begins on the frame's own unit times, after its START (R29, R32;
log entry 24). -/
theorem State.nextTxUnit_sending {s : State} {f : LineFrame} {since start : Nat}
    (sending : s.rfw.arbiter = .sending f since) (begins : s.unitBegins (since + Config.unitTime) start) :
    s.nextTxUnit = start := by
  have next : s.nextTxUnit = s.nextUnit (since + Config.unitTime) := by rw [State.nextTxUnit, sending]
  rw [next]
  exact State.unitBegins_unique (s.unitBegins_nextUnit _) begins

/-! ## The assertion of RESET_N -/

/-- RESET_ASSERTED has its effect outside reset only (R32). -/
theorem exec_resetAsserted (s : State) :
    exec .resetAsserted s = .next (if s.stc.held then s else s.assertReset) := rfl

/-- A reset cuts a frame off only where ATTACH is asserted and a frame is being transmitted (R32). -/
theorem State.cutByReset_eq_true {s : State} :
    s.cutByReset = true ↔ s.atc.attach = true ∧ s.rfw.sending = true := by
  rw [State.cutByReset, Bool.and_eq_true]

/-- Outside a frame, or with ATTACH released, the assertion is the device reset of every item (R32). -/
theorem State.assertReset_uncut {s : State} (h : s.atc.attach = false ∨ s.rfw.sending = false) :
    s.assertReset = s.resetItems := by
  have uncut : ¬ s.cutByReset = true := by
    rw [State.cutByReset_eq_true]
    rintro ⟨attach, sending⟩
    simp [attach, sending] at h
  rw [State.assertReset, if_neg uncut]

/-- Within a frame ATTACH and the frame stay beside the device reset, and the ABORT units of the reset follow (R32). -/
theorem State.assertReset_cut {s : State} (attach : s.atc.attach = true) (sending : s.rfw.sending = true) :
    s.assertReset = { s.resetItems with
      atc := { s.resetItems.atc with attach := true }
      rfw := { Rfw.reset with arbiter := s.rfw.arbiter, cut := some s.resetCut } } := by
  rw [State.assertReset, if_pos (State.cutByReset_eq_true.mpr ⟨attach, sending⟩)]
  rfl

/-- The ABORT units of a reset begin with the frame's next unit, or are those already under way (R3, R32; log entry
14). -/
theorem State.resetCut_eq {s : State} {f : LineFrame} {since start : Nat} (sending : s.rfw.arbiter = .sending f since)
    (uncut : s.rfw.cut = none → s.unitBegins (since + Config.unitTime) start)
    (earlier : ∀ c ∈ s.rfw.cut, start = c.since) : s.resetCut = ⟨start, true⟩ := by
  rw [State.resetCut]
  cases cut : s.rfw.cut with
  | none => rw [State.nextTxUnit_sending sending (uncut cut)]
  | some c => rw [earlier c cut]

/-! ## The end of the ABORT units -/

/-- The 8th ABORT unit of a reset ends 8 unit times after the first began, and then ATTACH is released (R32). -/
theorem exec_resetAbortComplete {s : State} {since : Nat} (h : s.rfw.cut = some ⟨since, true⟩) :
    exec .resetAbortComplete s = .next (s.waitUntil (since + 8 * Config.unitTime)).resetAbortDone := by
  have due : s.resetAbortCompleteAt = some (since + 8 * Config.unitTime) := by
    rw [State.resetAbortCompleteAt, h]
    rfl
  exact State.takeEvent_some State.resetAbortDone due

/-! ## O4 -/

/-- Settles O4: the assertion is the device reset of every item, but for ATTACH and the frame where one is cut off, and
the ABORT units of that cut run from the one instant at which the line's next unit begins. -/
theorem resetReleasesAttach : Obligations.ResetReleasesAttach := by
  refine ⟨fun s => ⟨fun held => ?_, fun released between => ?_⟩,
    fun s f since start released attach sending uncut earlier => ?_, fun s since cut => ?_⟩
  · rw [exec_resetAsserted, if_pos held]
  · refine ⟨s.resetItems, ?_, rfl, rfl, State.txUnit_idle rfl⟩
    rw [exec_resetAsserted, if_neg (by simp [released]), State.assertReset_uncut between]
  · have onLine : s.rfw.sending = true := by rw [Rfw.sending, sending]
    refine ⟨_, ?_, rfl, State.txUnit_cutOff rfl sending rfl rfl earlier⟩
    rw [exec_resetAsserted, if_neg (by simp [released]), State.assertReset_cut attach onLine,
      State.resetCut_eq sending uncut earlier, sending]
    rfl
  · exact ⟨_, exec_resetAbortComplete cut, rfl, State.txUnit_idle rfl⟩

end Sys2Proof.Machine

/-! SUPPORT. What each command can do, said once: the condition under which its event comes about, and its effect. A
property that every effect keeps is kept by every step. -/

namespace Sys2Proof.Machine

/-- What a command does at the instant to which it lets time pass: nothing, or its effect where its condition holds. -/
inductive Effect : Instr → State → State → Prop
  | stands (c : Instr) (s : State) : Effect c s s
  | resetAsserted (s : State) : s.stc.held = false → Effect .resetAsserted s s.assertReset
  | resetAbortComplete (s : State) (since : Nat) :
      s.rfw.cut = some ⟨since, true⟩ → Effect .resetAbortComplete s s.resetAbortDone
  | resetReleased (s : State) (straps : Straps) :
      s.stc.held = true → Effect (.resetReleased straps) s (s.releaseReset straps)
  | loadEnd (s : State) : s.stc.held = false → s.stc.load = .loading → Effect .configurationLoadEnd s s.endLoad
  | lineUnit (s : State) (e : LineEvent) : Effect (.lineUnitReceived e) s (s.takeUnit e)
  | upstreamLoss (s : State) : s.watching = true → s.atc.upstream = .present →
      Effect .upstreamLossDeclaration s s.declareLoss
  | upstreamRestoral (s : State) : s.watching = true → s.atc.upstream = .loss →
      Effect .upstreamRestoral s s.declareRestoral
  | joinHoldoff (s : State) (start : Nat) : s.atc.state = .joining → s.atc.holdoff = some start →
      Effect .joinHoldoffExpiry s s.holdoffExpired
  | attach (s : State) : s.atc.state = .joining → s.atc.attachDue = true → s.rfw.cut = none →
      Effect .attach s s.attachNow
  | arrival (s : State) (f : RxFrame) (rest : List RxFrame) : s.attached = true → s.rx.closed = f :: rest →
      Effect .frameArrival s ((s.withRx { s.rx with closed := rest }).judgeFrame f)
  | gapComplete (s : State) (since : Nat) : s.rfw.arbiter = .gap since → Effect .txGapComplete s s.txReady
  | repeatStart (s : State) : s.nextStart = some .repeatHead → Effect .repeatFrameStart s s.startRepeat
  | ownStart (s : State) (f : Frame) : s.chosenOwn = some f → Effect .ownFrameStart s (s.startOwn f)
  | frameEnd (s : State) (f : LineFrame) (since : Nat) : s.rfw.arbiter = .sending f since → s.rfw.cut = none →
      Effect .frameEndSent s s.endFrame
  | leaveDrain (s : State) : s.atc.state = .leaving → s.rfw.cut = none → Effect .leaveDrainComplete s s.release
  | leaveLimit (s : State) (start : Nat) : s.atc.state = .leaving → s.atc.leaveTimer = some start →
      Effect .leaveLimitExpiry s s.leaveLimit
  | leaveAbort (s : State) (since : Nat) : s.rfw.cut = some ⟨since, false⟩ → Effect .leaveAbortComplete s s.release
  | returnTimeout (s : State) : s.attached = true → Effect .returnTimeout s s.returnTimeout
  | announceTimer (s : State) (g : Image) (last : Nat) : s.inService = true → s.pru.timer = some last →
      s.stc.image = some g → Effect .announceTimerExpiry s s.announceTimer
  | peerExpiry (s : State) (a : Nat) (i : Fin 30) : s.attached = true → (s.pru.peers[i]).present = true →
      Effect (.peerExpiry a) s (s.expirePeer i)
  | wclkEdge (s : State) (periods : Nat) : Effect (.wclkEdge periods) s s.wclkEdge
  | wordClockLoss (s : State) : s.cap.clock = .wordclock → Effect .wordClockLoss s s.wordClockLost
  | divider (s : State) : Effect .dividerIncrement s s.dividerIncrement
  | qualificationSilence (s : State) : Effect .qualificationRunSilence s s.qualificationSilence
  | clockingFrame (s : State) (g : Image) (q : Fin 2) (slots : List (BitVec 32)) : s.stc.image = some g →
      Effect (.clockingFrameComplete q slots) s
        (s.setStore q (·.finish g.block.samples s.cap.blockStamp (portFrameOf g.capture[q].wide slots)))
  | captureFrame (s : State) (g : Image) (q : Fin 2) (slots : List (BitVec 32)) : s.stc.image = some g →
      Effect (.captureFrameReceived q slots) s
        (s.setStore q (·.receive g.block.samples (portFrameOf g.capture[q].wide slots)))
  | blockTick (s : State) : Effect .blockTick s s.blockTick
  | blockBoundary (s : State) (n : Fin 16) : (s.srx[n]).state = .locked → Effect (.blockBoundary n) s (s.takeBoundary n)
  | runOutEnd (s : State) (g : Image) (n : Fin 16) : s.stc.image = some g →
      Effect (.runOutEnd n) s (s.setContext n Context.endRunOut)
  | frameSync (s : State) (g : Image) (q : Fin 4) : s.stc.image = some g → s.cap.running = true →
      (g.playout[q]).listen = true →
      Effect (.playoutFrameSync q) s (s.withPly
        { s.ply with frames := modifyAt s.ply.frames q fun _ => some (portValues s.channelsAtEdge q) })
  | keyScan (s : State) (g : Image) (raw : BitVec 16) : s.stc.image = some g → Effect (.keyScan raw) s (s.keyScan raw)
  | fallbackTimer (s : State) (p : Fin 4) : Effect (.fallbackTimerExpiry p) s (s.latchFallback p)
  | flashTimer (s : State) : Effect .flashTimerToggle s s.toggleFlash
  | answered (c : Instr) (s : State) (a : Answer) : Effect c s (s.reply a)
  | readEvents (s : State) (a : Answer) :
      Effect .readEvents s ((s.withSvp { s.svp with seen := s.svp.flags }).reply a)
  | clearSeen (s : State) (a : Answer) : Effect .clearSeen s (s.clearSeen.reply a)
  | zeroCounters (s : State) (a : Answer) : Effect .zeroCounters s (s.zeroCounters.reply a)
  | restartRing (s : State) (a : Answer) : s.inService = true →
      Effect .restartRing s ((s.enterLeaving .restart).reply a)
  | unanswered (c : Instr) (s : State) : Effect c s (s.withSvp { s.svp with answer := none, writeOpen := false })
  | writeBegins (s : State) (octets rec : List Octet) (a : Option Answer) : s.stc.load = .maintenance →
      Effect (.writeConfig octets) s
        ((s.writePage rec 0).withSvp { s.svp with answer := a, writeOpen := true })
  | pageReady (s : State) : Effect .writeConfigPageReady s s.pageReady
  | writeEnds (c : Instr) (s : State) (ok : Bool) : Effect c s (s.endWrite ok)

/-! ## Every command has its effect -/

/-- An event that comes about has its effect at its instant; one that does not changes nothing. -/
theorem State.takeEvent_effect {c : Instr} {s t : State} {due : Option Nat} {effect : State → State}
    (h : s.takeEvent due effect = .next t)
    (comes : ∀ d, due = some d → Effect c (s.waitUntil d) (effect (s.waitUntil d))) :
    ∃ d, Effect c (s.waitUntil d) t := by
  obtain ⟨-, rfl⟩ | ⟨d, isDue, rfl⟩ := State.takeEvent_next h
  · exact ⟨t.now, by rw [State.waitUntil_now]; exact .stands c t⟩
  · exact ⟨d, comes d isDue⟩

/-- An effect that comes at once needs no waiting. -/
theorem Effect.atOnce {c : Instr} {s t : State} (h : Effect c s t) : ∃ d, Effect c (s.waitUntil d) t :=
  ⟨s.now, by rwa [State.waitUntil_now]⟩

/-- A monitoring request has its effect, or is refused (R188). -/
theorem State.monitor_effect {c : Instr} {s t : State} {effect : State → State} (h : s.monitor effect = .next t)
    (taken : Effect c s (effect s)) : ∃ d, Effect c (s.waitUntil d) t := by
  obtain rfl := Host.Outcome.next.inj h
  split
  · exact taken.atOnce
  · exact (Effect.answered c s .nak).atOnce

/-- A maintenance request has its effect in MAINTENANCE, or is refused (R184). -/
theorem State.maintain_effect {c : Instr} {s t : State} {effect : State → State} (h : s.maintain effect = .next t)
    (taken : s.stc.load = .maintenance → Effect c s (effect s)) : ∃ d, Effect c (s.waitUntil d) t := by
  obtain rfl := Host.Outcome.next.inj h
  split
  next maintained => exact (taken (by simp [State.maintained] at maintained; exact maintained.1)).atOnce
  next => exact (Effect.answered c s .nak).atOnce

/-- A request that carries a record is taken, or has no answer (R186, R187). -/
theorem State.received_effect {c : Instr} {s t : State} {octets : List Octet} {request : List Octet → Result}
    (h : s.received octets request = .next t)
    (taken : ∀ rec, request rec = .next t → ∃ d, Effect c (s.waitUntil d) t) : ∃ d, Effect c (s.waitUntil d) t := by
  unfold State.received at h
  split at h
  · obtain rfl := Host.Outcome.next.inj h
    exact (Effect.unanswered c s).atOnce
  · exact taken _ h

/-- An instant that an event has, where a condition holds, is the present. -/
theorem State.nowIf_true {s : State} {b : Bool} {d : Nat} (h : s.nowIf b = some d) : b = true := (State.nowIf_eq h).1

/-- Every command lets time pass and has one of its effects. -/
theorem exec_effect {c : Instr} {s t : State} (h : exec c s = .next t) : ∃ d, Effect c (s.waitUntil d) t := by
  cases c with
  | resetAsserted =>
    obtain rfl := Host.Outcome.next.inj h
    split
    next => exact (Effect.stands _ s).atOnce
    next released => exact (Effect.resetAsserted s (by simpa using released)).atOnce
  | resetAbortComplete =>
    refine State.takeEvent_effect h fun d due => ?_
    unfold State.resetAbortCompleteAt at due
    split at due
    next since cut => exact .resetAbortComplete _ since cut
    next => cases due
  | resetReleased straps =>
    obtain rfl := Host.Outcome.next.inj h
    split
    next held => exact (Effect.resetReleased s straps held).atOnce
    next => exact (Effect.stands _ s).atOnce
  | configurationLoadEnd =>
    refine State.takeEvent_effect h fun d due => ?_
    obtain ⟨released, loading⟩ : s.stc.held = false ∧ s.stc.load = .loading := by
      simpa [State.reading] using State.nowIf_true due
    exact .loadEnd _ released loading
  | lineUnitReceived e =>
    obtain rfl := Host.Outcome.next.inj h
    exact ⟨_, .lineUnit _ e⟩
  | upstreamLossDeclaration =>
    refine State.takeEvent_effect h fun d due => ?_
    obtain ⟨⟨watching, upstream⟩, -⟩ : (s.watching = true ∧ s.atc.upstream = .present) ∧ _ := by
      simpa using State.nowIf_true due
    exact .upstreamLoss _ watching upstream
  | upstreamRestoral =>
    refine State.takeEvent_effect h fun d due => ?_
    obtain ⟨⟨watching, upstream⟩, -⟩ : (s.watching = true ∧ s.atc.upstream = .loss) ∧ _ := by
      simpa using State.nowIf_true due
    exact .upstreamRestoral _ watching upstream
  | joinHoldoffExpiry =>
    refine State.takeEvent_effect h fun d due => ?_
    unfold State.joinHoldoffExpiryAt at due
    split at due
    next start joining holdoff => exact .joinHoldoff _ start joining holdoff
    next => cases due
  | attach =>
    refine State.takeEvent_effect h fun d due => ?_
    obtain ⟨⟨joining, attachDue⟩, uncut⟩ : (s.atc.state = .joining ∧ s.atc.attachDue = true) ∧ s.rfw.cut = none := by
      simpa using State.nowIf_true due
    exact .attach _ joining attachDue uncut
  | frameArrival =>
    refine State.takeEvent_effect h fun d due => ?_
    obtain ⟨⟨attached, waiting⟩, -⟩ : (s.attached = true ∧ s.rx.closed ≠ []) ∧ s.incrementDue = false := by
      simpa using State.nowIf_true due
    obtain ⟨f, rest, closed⟩ := List.exists_cons_of_ne_nil waiting
    have arrived : (s.waitUntil d).arrival
        = ((s.waitUntil d).withRx { s.rx with closed := rest }).judgeFrame f := by
      simp [State.arrival, closed]
    rw [arrived]
    exact .arrival _ f rest attached closed
  | txGapComplete =>
    refine State.takeEvent_effect h fun d due => ?_
    unfold State.txGapCompleteAt at due
    split at due
    next since gap => exact .gapComplete _ since gap
    all_goals cases due
  | repeatFrameStart =>
    refine State.takeEvent_effect h fun d due => ?_
    have chosen : s.nextStart = some .repeatHead := by
      unfold State.repeatFrameStartAt State.startAt at due
      split at due
      · exact beq_iff_eq.mp ‹_›
      · cases due
    exact .repeatStart _ chosen
  | ownFrameStart =>
    refine State.takeEvent_effect h fun d due => ?_
    have chosen : s.chosenOwn.isSome = true := by
      unfold State.ownFrameStartAt State.startAt at due
      split at due
      · assumption
      · cases due
    obtain ⟨f, own⟩ := Option.isSome_iff_exists.mp chosen
    have own : (s.waitUntil d).chosenOwn = some f := own
    rw [show (s.waitUntil d).startChosen = (s.waitUntil d).startOwn f by simp only [State.startChosen, own]]
    exact .ownStart _ f own
  | frameEndSent =>
    refine State.takeEvent_effect h fun d due => ?_
    unfold State.frameEndSentAt at due
    split at due
    next f since sending uncut => exact .frameEnd _ f since sending uncut
    next => cases due
  | leaveDrainComplete =>
    refine State.takeEvent_effect h fun d due => ?_
    obtain ⟨⟨⟨⟨leaving, -⟩, -⟩, uncut⟩, -⟩ :
        (((s.atc.state = .leaving ∧ s.atc.finalSent = true) ∧ s.rfw.drained = true) ∧ s.rfw.cut = none) ∧ _ := by
      simpa using State.nowIf_true due
    exact .leaveDrain _ leaving uncut
  | leaveLimitExpiry =>
    refine State.takeEvent_effect h fun d due => ?_
    unfold State.leaveLimitExpiryAt at due
    split at due
    next start leaving timer => exact .leaveLimit _ start leaving timer
    next => cases due
  | leaveAbortComplete =>
    refine State.takeEvent_effect h fun d due => ?_
    unfold State.leaveAbortCompleteAt at due
    split at due
    next since cut => exact .leaveAbort _ since cut
    next => cases due
  | returnTimeout =>
    refine State.takeEvent_effect h fun d due => ?_
    unfold State.returnTimeoutAt at due
    split at due
    next attached _ => exact .returnTimeout _ attached
    next => cases due
  | announceTimerExpiry =>
    refine State.takeEvent_effect h fun d due => ?_
    unfold State.announceTimerAt at due
    split at due
    next last g service timer image => exact .announceTimer _ g last service timer image
    next => cases due
  | peerExpiry a =>
    change execPeerExpiry a s = .next t at h
    unfold execPeerExpiry at h
    split at h
    next =>
      obtain rfl := Host.Outcome.next.inj h
      exact (Effect.stands _ s).atOnce
    next i _ =>
      refine State.takeEvent_effect h fun d due => ?_
      unfold State.peerExpiryAt at due
      split at due
      next both =>
        obtain ⟨attached, present⟩ := (Bool.and_eq_true ..).mp both
        exact .peerExpiry _ a i attached present
      next => cases due
  | wclkEdge periods =>
    obtain rfl := Host.Outcome.next.inj h
    exact ⟨_, .wclkEdge _ periods⟩
  | wordClockLoss =>
    refine State.takeEvent_effect h fun d due => ?_
    unfold State.wordClockLossAt at due
    split at due
    next wordclock => exact .wordClockLoss _ wordclock
    all_goals cases due
  | dividerIncrement => exact State.takeEvent_effect h fun d _ => .divider _
  | qualificationRunSilence => exact State.takeEvent_effect h fun d _ => .qualificationSilence _
  | clockingFrameComplete q slots =>
    change execClockingFrameComplete q slots s = .next t at h
    unfold execClockingFrameComplete at h
    split at h
    next g image _ =>
      split at h <;> obtain rfl := Host.Outcome.next.inj h
      · exact (Effect.stands _ s).atOnce
      · exact (Effect.clockingFrame s g q slots image).atOnce
    next =>
      obtain rfl := Host.Outcome.next.inj h
      exact (Effect.stands _ s).atOnce
  | captureFrameReceived q slots =>
    change execCaptureFrameReceived q slots s = .next t at h
    unfold execCaptureFrameReceived at h
    split at h
    next g image _ =>
      split at h <;> obtain rfl := Host.Outcome.next.inj h
      · exact (Effect.captureFrame s g q slots image).atOnce
      · exact (Effect.stands _ s).atOnce
    next =>
      obtain rfl := Host.Outcome.next.inj h
      exact (Effect.stands _ s).atOnce
  | blockTick => exact State.takeEvent_effect h fun d _ => .blockTick _
  | blockBoundary n =>
    rw [exec, execBlockBoundary] at h
    refine State.takeEvent_effect h fun d due => ?_
    obtain ⟨locked, -⟩ : (s.srx[n]).state = .locked ∧ _ := by
      simpa [Context.atBoundary] using State.nowIf_true due
    exact .blockBoundary _ n locked
  | runOutEnd n =>
    rw [exec, execRunOutEnd] at h
    refine State.takeEvent_effect h fun d due => ?_
    unfold State.runOutEndAt at due
    split at due
    next g o image _ => exact .runOutEnd _ g n image
    next => cases due
  | playoutFrameSync q =>
    change execPlayoutFrameSync q s = .next t at h
    unfold execPlayoutFrameSync at h
    split at h
    next g image running =>
      split at h <;> obtain rfl := Host.Outcome.next.inj h
      next listen => exact (Effect.frameSync s g q image running listen).atOnce
      next => exact (Effect.stands _ s).atOnce
    next =>
      obtain rfl := Host.Outcome.next.inj h
      exact (Effect.stands _ s).atOnce
  | keyScan raw =>
    rw [exec, execKeyScan] at h
    refine State.takeEvent_effect h fun d due => ?_
    unfold State.keyScanAt at due
    split at due
    next g _ image => exact .keyScan _ g raw image
    next => cases due
  | fallbackTimerExpiry p =>
    rw [exec, execFallbackTimerExpiry] at h
    exact State.takeEvent_effect h fun d _ => .fallbackTimer _ p
  | flashTimerToggle => exact State.takeEvent_effect h fun d _ => .flashTimer _
  | readStation => exact State.monitor_effect h (.answered _ s _)
  | readPeers => exact State.monitor_effect h (.answered _ s _)
  | readStream n =>
    rw [exec, execReadStream] at h
    refine State.monitor_effect h ?_
    split <;> exact .answered _ s _
  | readSource n =>
    rw [exec, execReadSource] at h
    refine State.monitor_effect h ?_
    split <;> exact .answered _ s _
  | readCounters => exact State.monitor_effect h (.answered _ s _)
  | readEvents =>
    rw [exec, execReadEvents] at h
    exact State.monitor_effect h (.readEvents s _)
  | clearSeen =>
    rw [exec, execClearSeen] at h
    exact State.monitor_effect h (.clearSeen s _)
  | zeroCounters =>
    rw [exec, execZeroCounters] at h
    exact State.monitor_effect h (.zeroCounters s _)
  | restartRing =>
    rw [exec, execRestartRing] at h
    refine State.monitor_effect h ?_
    split
    next service => exact .restartRing s _ service
    next => exact .answered _ s _
  | identify => exact State.maintain_effect h fun _ => .answered _ s _
  | readConfig => exact State.maintain_effect h fun _ => .answered _ s _
  | writeConfig octets =>
    rw [exec, execWriteConfig] at h
    refine State.received_effect h fun rec taken => State.maintain_effect taken fun maintained => ?_
    split
    · exact .answered _ s _
    · exact .writeBegins s octets rec _ maintained
  | writeConfigPageReady =>
    obtain rfl := Host.Outcome.next.inj h
    exact (Effect.pageReady s).atOnce
  | writeConfigBusyTimeout =>
    rw [exec, execWriteConfigBusyTimeout] at h
    exact State.takeEvent_effect h fun d _ => .writeEnds _ _ false
  | writeConfigReadbackEnd =>
    obtain rfl := Host.Outcome.next.inj h
    unfold State.readbackEnd
    split
    · exact (Effect.writeEnds _ s _).atOnce
    · exact (Effect.stands _ s).atOnce
  | verifyConfig octets =>
    rw [exec, execVerifyConfig] at h
    exact State.received_effect h fun rec taken => State.maintain_effect taken fun _ => .answered _ s _
  | unsupportedRequest =>
    obtain rfl := Host.Outcome.next.inj h
    exact (Effect.answered _ s _).atOnce
  | serviceTransactionEnd =>
    obtain rfl := Host.Outcome.next.inj h
    exact (Effect.unanswered _ s).atOnce

end Sys2Proof.Machine

/-! SUPPORT. What no command does: none stops the station, takes a command from the queue or runs time back, and the
sample count moves by its own events alone. -/

namespace Sys2Proof.Machine

/-! ## Completion -/

/-- An event is taken whether or not it comes about. -/
theorem State.takeEvent_completes (s : State) (due : Option Nat) (effect : State → State) :
    ∃ t, s.takeEvent due effect = .next t := by
  cases due with
  | none => exact ⟨s, rfl⟩
  | some d => exact ⟨_, rfl⟩

/-- A maintenance request is taken or refused. -/
theorem State.maintain_completes (s : State) (effect : State → State) : ∃ t, s.maintain effect = .next t := ⟨_, rfl⟩

/-- A request that carries a record is taken, refused or not received. -/
theorem State.received_completes (s : State) (octets : List Octet) {request : List Octet → Result}
    (h : ∀ rec, ∃ t, request rec = .next t) : ∃ t, s.received octets request = .next t := by
  unfold State.received
  split
  · exact ⟨_, rfl⟩
  · exact h _

/-- Every command gives a next state: there is no fault, and no command without a meaning. -/
theorem exec_completes (c : Instr) (s : State) : ∃ t, exec c s = .next t := by
  cases c with
  | peerExpiry a =>
    rw [exec, execPeerExpiry]
    split
    · exact ⟨_, rfl⟩
    · exact State.takeEvent_completes ..
  | clockingFrameComplete q slots =>
    rw [exec, execClockingFrameComplete]
    repeat' split
    all_goals exact ⟨_, rfl⟩
  | captureFrameReceived q slots =>
    rw [exec, execCaptureFrameReceived]
    repeat' split
    all_goals exact ⟨_, rfl⟩
  | playoutFrameSync q =>
    rw [exec, execPlayoutFrameSync]
    repeat' split
    all_goals exact ⟨_, rfl⟩
  | writeConfig octets => exact State.received_completes s octets fun _ => State.maintain_completes s _
  | verifyConfig octets => exact State.received_completes s octets fun _ => State.maintain_completes s _
  | resetAsserted | resetReleased _ | lineUnitReceived _ | wclkEdge _ | readStation | readPeers | readStream _
  | readSource _ | readCounters | readEvents | clearSeen | zeroCounters | restartRing | identify | readConfig
  | writeConfigPageReady | writeConfigReadbackEnd | unsupportedRequest | serviceTransactionEnd => exact ⟨_, rfl⟩
  | resetAbortComplete | configurationLoadEnd | upstreamLossDeclaration | upstreamRestoral | joinHoldoffExpiry | attach
  | frameArrival | txGapComplete | repeatFrameStart | ownFrameStart | frameEndSent | leaveDrainComplete
  | leaveLimitExpiry | leaveAbortComplete | returnTimeout | announceTimerExpiry | wordClockLoss | dividerIncrement
  | qualificationRunSilence | blockTick | flashTimerToggle => exact State.takeEvent_completes ..
  | blockBoundary n => exact s.takeEvent_completes (s.blockBoundaryAt n) (·.takeBoundary n)
  | runOutEnd n => exact s.takeEvent_completes (s.runOutEndAt n) (·.setContext n Context.endRunOut)
  | keyScan raw => exact s.takeEvent_completes s.keyScanAt (·.keyScan raw)
  | fallbackTimerExpiry p => exact s.takeEvent_completes (s.fallbackTimerAt p) (·.latchFallback p)
  | writeConfigBusyTimeout => exact s.takeEvent_completes s.busyTimeoutAt (·.endWrite false)

/-- The assertion of RESET_N leaves the model's own instant, queue and choices, and the memory, as they are (R32). -/
@[simp] theorem State.assertReset_frame (s : State) :
    s.assertReset.now = s.now ∧ s.assertReset.ties = s.ties ∧ s.assertReset.pending = s.pending
      ∧ s.assertReset.stc = { Stc.reset with memory := s.stc.memory } := by
  unfold State.assertReset
  split <;> exact ⟨rfl, rfl, rfl, rfl⟩

/-- No effect touches the queue or the choices made, and each is had at one instant. -/
theorem Effect.frame {c : Instr} {s t : State} (h : Effect c s t) :
    t.now = s.now ∧ t.ties = s.ties ∧ t.pending = s.pending := by
  cases h <;> simp

/-! ## The empty queue -/

/-- The station's own next event is the first due where that is a count increment, and else one of those due. -/
theorem State.ownNext_due {s : State} {d : Instr} {rest : List Instr} (due : s.dueEvents = d :: rest) :
    ∃ c k, s.ownNext = { s with ties := k, pending := [c] } ∧ c ∈ d :: rest
      ∧ (Sys2Proof.Machine.Instr.increments d = true → c = d) := by
  unfold State.ownNext
  rw [due]
  dsimp only
  split
  next => exact ⟨d, s.ties, rfl, List.mem_cons_self, fun _ => rfl⟩
  next several =>
    refine ⟨_, s.ties + 1, rfl, ?_, fun increments => absurd (.inl increments) several⟩
    have inside : Config.tieBreak s.ties % (rest.length + 1) < (d :: rest).length :=
      Nat.mod_lt _ (Nat.succ_pos _)
    rw [List.getD_eq_getElem _ _ inside]
    exact List.getElem_mem inside

/-! ## O2 -/

/-- Settles O2: each command has one of its effects at an instant not before the present, and on an empty queue the
first due event or a choice of those due is queued. -/
theorem everyStepCompletes : Obligations.EveryStepCompletes := by
  refine ⟨fun c s => ?_, fun s empty => ?_⟩
  · obtain ⟨t, next⟩ := exec_completes c s
    obtain ⟨d, effect⟩ := exec_effect next
    obtain ⟨now, ties, pending⟩ := effect.frame
    exact ⟨t, next, pending, ties, now ▸ Nat.le_max_left s.now d⟩
  · have queues : step s = .next s.ownNext := by rw [step, empty]
    cases due : s.dueEvents with
    | nil =>
      refine ⟨_, s.ties, ?_, fun _ => ⟨rfl, rfl⟩, fun some => absurd rfl some, fun d rest h => by cases h⟩
      rw [queues, State.ownNext, due]
      rfl
    | cons d rest =>
      obtain ⟨c, k, own, mem, first⟩ := State.ownNext_due due
      refine ⟨c, k, queues.trans (congrArg _ own), fun nothing => absurd nothing (List.cons_ne_nil _ _), fun _ => mem, ?_⟩
      rintro d' rest' h
      obtain ⟨rfl, rfl⟩ := List.cons.inj h
      exact first

/-! ## O1 -/

/-- Settles O1: it is the first arm of `step`. -/
theorem stepRunsFrontCommand : Obligations.StepRunsFrontCommand := by
  intro c rest s pending
  rw [step, pending]
  rfl

/-! ## The sample count -/

/-- A count increment moves the count by one (R86). -/
@[simp] theorem State.countIncrement_count (s : State) : s.countIncrement.cap.count = s.cap.count + 1 := by
  unfold State.countIncrement
  dsimp only
  split
  · simp [State.countedOn, State.refreshAll]
  · rfl

/-- A port's status is fixed without moving the count. -/
@[simp] theorem State.fixStatus_count (b : Nat) (s : State) (q : Fin 2) : (s.fixStatus b q).cap.count = s.cap.count := by
  unfold State.fixStatus
  dsimp only
  split <;> simp [State.setStore]

/-- A block is built without moving the count. -/
@[simp] theorem State.assembleOne_count (g : Image) (gates : Vector (Vector Bool 4) 4) (statuses : Vector BlockStatus 2)
    (s : State) (i : Fin 4) : (s.assembleOne g gates statuses i).cap.count = s.cap.count := by
  unfold State.assembleOne
  split
  · dsimp only
    split <;> simp
  · rfl

/-- A block tick leaves the count (R93). -/
@[simp] theorem State.blockTick_count (s : State) : s.blockTick.cap.count = s.cap.count := by
  unfold State.blockTick
  split
  · rfl
  next g _ =>
    simp only [State.switchHeadphones_frame]
    split
    · rfl
    split
    · rfl
    · have built := fun gates statuses => foldl_keeps (State.assembleOne g gates statuses) (·.cap.count)
        (State.assembleOne_count g gates statuses) (List.finRange 4)
      have fixed := foldl_keeps (State.fixStatus g.block.samples) (·.cap.count)
        (State.fixStatus_count g.block.samples) (List.finRange 2) s
      simp [State.buildingTick, Cap.beginBlock, built, fixed]

/-- An edge of WCLK moves the count in WORDCLOCK alone, by one or not at all (R87 to R89). -/
theorem State.wclkEdge_count (s : State) :
    s.wclkEdge.cap.count = s.cap.count
      ∨ s.wclkEdge.cap.count = s.cap.count + 1 ∧ s.cap.clock = .wordclock := by
  unfold State.wclkEdge
  split
  · exact .inl rfl
  · dsimp only
    split
    · exact .inl rfl
    next wordclock =>
      unfold State.edgeInWordclock
      split
      · exact .inr ⟨by simp, wordclock⟩
      · exact .inl rfl
    next =>
      refine .inl ?_
      unfold State.edgeInHoldover
      repeat' split
      all_goals rfl

/-! ## O31 -/

/-- Settles O31: of all effects only the three of the count's own events move it, and a reset sets it back. -/
theorem countNeverSkips : Obligations.CountNeverSkips := by
  intro c s t next
  obtain ⟨d, effect⟩ := exec_effect next
  generalize before : s.waitUntil d = u at effect
  have count : s.cap.count = u.cap.count := by rw [← before]; rfl
  have clock : s.cap.clock = u.cap.clock := by rw [← before]; rfl
  rw [count, clock]
  cases effect with
  | resetAsserted =>
    refine .inr (.inr ⟨?_, rfl⟩)
    unfold State.assertReset
    split <;> rfl
  | divider => exact .inr (.inl ⟨by simp [State.dividerIncrement], .inl rfl⟩)
  | wordClockLoss _ wordclock =>
    exact .inr (.inl ⟨by simp [State.wordClockLost], .inr (.inl ⟨rfl, wordclock⟩)⟩)
  | wclkEdge _ periods =>
    refine (u.wclkEdge_count).imp_right fun ⟨moved, wordclock⟩ => .inl ⟨moved, .inr (.inr ⟨⟨_, rfl⟩, wordclock⟩)⟩
  | resetReleased _ straps => exact .inl rfl
  | qualificationSilence => exact .inl rfl
  | blockTick => exact .inl u.blockTick_count
  | clockingFrame | captureFrame => exact .inl rfl
  | _ => exact .inl (by simp)

end Sys2Proof.Machine

/-! SUPPORT. The flags an operation may raise and the counters it may move: what each shared operation does to the
Service Port is a chain of raises and counts, and any other flag or counter stands (R190, R192). -/

namespace Sys2Proof.Machine

/-- One Service Port comes of another by raising flags of a set and increasing counters of a set. -/
inductive Svp.Moves (F : Set EventFlag) (C : Set Counter) (x : Svp) : Svp → Prop
  | refl : Svp.Moves F C x x
  | raise {y : Svp} {f : EventFlag} : f ∈ F → Svp.Moves F C x y →
      Svp.Moves F C x { y with flags := y.flags ||| f.bit, seen := y.seen &&& ~~~f.bit }
  | count {y : Svp} {c : Counter} {n : Nat} : c ∈ C → Svp.Moves F C x y →
      Svp.Moves F C x { y with counters := modifyAt y.counters c.place (addUpTo Config.counterCeiling · n) }

/-- From one state to another only flags of a set are raised and only counters of a set increased. -/
def State.Tells (F : Set EventFlag) (C : Set Counter) (s t : State) : Prop := Svp.Moves F C s.svp t.svp

section
variable {F F' : Set EventFlag} {C C' : Set Counter} {s t u : State}

/-! ## Chains -/

theorem State.Tells.refl (s : State) : State.Tells F C s s := Svp.Moves.refl

/-- A state with the same Service Port. -/
theorem State.Tells.of_eq (h : t.svp = s.svp) : State.Tells F C s t := by
  rw [State.Tells, h]; exact Svp.Moves.refl

/-- What follows with the same Service Port adds nothing. -/
theorem State.Tells.then_eq (h : State.Tells F C s t) (e : u.svp = t.svp) : State.Tells F C s u := by
  rw [State.Tells, e]; exact h

theorem State.Tells.trans (h : State.Tells F C s t) (k : State.Tells F C t u) : State.Tells F C s u := by
  unfold State.Tells at h k ⊢
  generalize u.svp = z at k
  induction k with
  | refl => exact h
  | raise mem _ ih => exact .raise mem ih
  | count mem _ ih => exact .count mem ih

/-- What precedes with the same Service Port adds nothing. -/
theorem State.Tells.past (h : State.Tells F C t u) (e : t.svp = s.svp := by rfl) : State.Tells F C s u := by
  unfold State.Tells at h ⊢
  rwa [e] at h

theorem State.Tells.mono (h : State.Tells F C s t) (hF : F ⊆ F') (hC : C ⊆ C') : State.Tells F' C' s t := by
  unfold State.Tells at h ⊢
  generalize t.svp = z at h
  induction h with
  | refl => exact .refl
  | raise mem _ ih => exact .raise (hF mem) ih
  | count mem _ ih => exact .count (hC mem) ih

theorem State.Tells.all (h : State.Tells F C s t) : State.Tells Set.univ Set.univ s t :=
  h.mono (Set.subset_univ _) (Set.subset_univ _)

theorem State.Tells.foldl {α : Type} {f : State → α → State} (h : ∀ s a, State.Tells F C s (f s a)) (l : List α)
    (s : State) : State.Tells F C s (l.foldl f s) := by
  induction l generalizing s with
  | nil => exact .refl s
  | cons a l ih => exact (h s a).trans (ih (f s a))

theorem State.tells_raise {f : EventFlag} (s : State) (h : f ∈ F) : State.Tells F C s (s.raise f) :=
  Svp.Moves.raise h .refl

theorem State.tells_raiseIf {f : EventFlag} (s : State) (b : Bool) (h : f ∈ F) :
    State.Tells F C s (s.raiseIf b f) := by
  cases b
  · exact .refl s
  · exact s.tells_raise h

theorem State.tells_countBy {c : Counter} (s : State) (n : Nat) (h : c ∈ C) : State.Tells F C s (s.countBy c n) :=
  Svp.Moves.count h .refl

theorem State.tells_countOne {c : Counter} (s : State) (h : c ∈ C) : State.Tells F C s (s.countOne c) :=
  Svp.Moves.count h .refl

/-! ## What a chain leaves -/

/-- A flag outside the set stands, and so does its place in the seen set. -/
theorem State.Tells.flag_stands (h : State.Tells F C s t) {f : EventFlag} (out : f ∉ F) :
    t.flag f = s.flag f ∧ t.seen f = s.seen f := by
  unfold State.Tells at h
  suffices key : ∀ z, Svp.Moves F C s.svp z →
      z.flags.getLsbD f.number = s.svp.flags.getLsbD f.number ∧ z.seen.getLsbD f.number = s.svp.seen.getLsbD f.number
    from key _ h
  intro z h
  induction h with
  | refl => exact ⟨rfl, rfl⟩
  | @raise y g mem _ ih =>
    have other : g.bit.getLsbD f.number = false := by
      have ne : f ≠ g := fun e => out (e ▸ mem)
      revert ne
      cases f <;> cases g <;> decide
    have inside : f.number < 18 := by cases f <;> decide
    simp only [BitVec.getLsbD_or, BitVec.getLsbD_and, BitVec.getLsbD_not, other, ih, inside, decide_true,
      Bool.or_false, Bool.not_false, Bool.and_true, and_self]
  | count _ _ ih => exact ih

/-- A counter outside the set stands. -/
theorem State.Tells.counter_stands (h : State.Tells F C s t) {c : Counter} (out : c ∉ C) :
    t.counter c = s.counter c := by
  unfold State.Tells at h
  suffices key : ∀ z, Svp.Moves F C s.svp z → z.counters[c.place] = s.svp.counters[c.place] from key _ h
  intro z h
  induction h with
  | refl => rfl
  | raise _ _ ih => exact ih
  | count mem _ ih =>
    rw [← ih]
    exact modifyAt_other _ (fun e => out (by rw [Counter.place_inj e]; exact mem)) _

/-- A set flag stays set. -/
theorem State.Tells.flag_kept (h : State.Tells F C s t) {f : EventFlag} (set : s.flag f = true) : t.flag f = true := by
  unfold State.Tells at h
  suffices key : ∀ z, Svp.Moves F C s.svp z → z.flags.getLsbD f.number = true from key _ h
  intro z h
  induction h with
  | refl => exact set
  | raise _ _ ih => simp [ih]
  | count _ _ ih => exact ih

/-- The answer stands. -/
theorem State.Tells.answer (h : State.Tells F C s t) :
    t.svp.answer = s.svp.answer ∧ t.svp.writeOpen = s.svp.writeOpen := by
  unfold State.Tells at h
  generalize t.svp = z at h
  induction h with
  | refl => exact ⟨rfl, rfl⟩
  | raise _ _ ih | count _ _ ih => exact ih

/-- With no flag of the set, the flags and the seen set stand. -/
theorem State.Tells.flags_stand (h : State.Tells ∅ C s t) : t.svp.flags = s.svp.flags ∧ t.svp.seen = s.svp.seen := by
  unfold State.Tells at h
  generalize t.svp = z at h
  induction h with
  | refl => exact ⟨rfl, rfl⟩
  | raise mem _ _ => exact absurd mem (Set.notMem_empty _)
  | count _ _ ih => exact ih

/-- Every flag in the seen set stays one that is set. -/
theorem State.Tells.eventsSound (h : State.Tells F C s t) (sound : s.eventsSound) : t.eventsSound := by
  unfold State.Tells at h
  unfold State.eventsSound at sound ⊢
  generalize t.svp = z at h
  induction h with
  | refl => exact sound
  | @raise y f _ _ ih =>
    refine BitVec.eq_of_getLsbD_eq fun i hi => ?_
    have seen := congrArg (fun v => v.getLsbD i) ih
    simp only [BitVec.getLsbD_and, BitVec.getLsbD_not, BitVec.getLsbD_or, BitVec.getLsbD_zero] at seen ⊢
    revert seen
    cases y.seen.getLsbD i <;> cases y.flags.getLsbD i <;> cases f.bit.getLsbD i <;> simp
  | count _ _ ih => exact ih

end

/-- A change of the Attachment Controller reports nothing. -/
theorem State.tells_withAtc {F : Set EventFlag} {C : Set Counter} (s : State) (a : Atc) :
    State.Tells F C s (s.withAtc a) := Svp.Moves.refl

/-! ## Cues and the Insertion Queues -/

@[simp] theorem State.cueUndelivered_svp (s : State) (r : CueReport) :
    (s.cueUndelivered r).svp = (s.raise .cueUndelivered).svp := by simp [State.cueUndelivered]

theorem State.tells_cueUndelivered {F : Set EventFlag} {C : Set Counter} (s : State) (r : CueReport)
    (h : .cueUndelivered ∈ F) : State.Tells F C s (s.cueUndelivered r) :=
  (s.tells_raise h).then_eq (s.cueUndelivered_svp r)

theorem State.tells_latchFallback (s : State) (p : Fin 4) :
    State.Tells {.fallbackLatched} ∅ s (s.latchFallback p) := by
  refine State.Tells.trans (.of_eq ?_) (State.tells_raiseIf _ _ (Set.mem_singleton _))
  simp

theorem State.tells_offerCue (s : State) (f : CueFrame) :
    State.Tells {.cueUndelivered} {.cuesRefused} s (s.offerCue f) := by
  unfold State.offerCue
  split
  · exact .of_eq rfl
  · exact (s.tells_countOne (Set.mem_singleton _)).trans (State.tells_cueUndelivered _ _ (Set.mem_singleton _))

theorem State.tells_offerAnnounce (s : State) (f : AnnounceFrame) :
    State.Tells ∅ {.announcesReplaced} s (s.offerAnnounce f) := by
  unfold State.offerAnnounce
  dsimp only
  split
  · exact (s.tells_countOne (Set.mem_singleton _)).then_eq rfl
  · exact .of_eq rfl

theorem State.tells_offerAudio (s : State) (f : AudioFrame) :
    State.Tells {.audioDropped} {.audioDropped} s (s.offerAudio f) := by
  unfold State.offerAudio
  split
  · exact .of_eq rfl
  · exact ((s.tells_countOne (Set.mem_singleton _)).trans (State.tells_raise _ (Set.mem_singleton _))).then_eq rfl

theorem State.tells_discardOwn (s : State) :
    State.Tells {.cueUndelivered} {.ownDiscarded} s s.discardOwn := by
  refine State.Tells.trans ?_ (.foldl (fun s f => s.tells_cueUndelivered _ (Set.mem_singleton _)) s.inq.cues _)
  exact (s.tells_countBy _ (Set.mem_singleton _)).then_eq rfl

theorem State.tells_announce (s : State) (leaving : Bool) :
    State.Tells ∅ {.announcesReplaced} s (s.announce leaving) := by
  unfold State.announce
  split
  · exact .refl s
  · exact State.Tells.past (State.tells_offerAnnounce _ _)

/-! ## Closure and leaving -/

theorem State.tells_closureOutcome (s : State) (c : Closure) : State.Tells {c.flag} ∅ s (s.closureOutcome c) := by
  unfold State.closureOutcome
  split
  · exact State.Tells.past (State.tells_raise _ (Set.mem_singleton _))
  · exact State.Tells.past (State.tells_raiseIf _ _ (Set.mem_singleton _))
  · exact State.Tells.past (State.tells_raiseIf _ _ (Set.mem_singleton _))
  all_goals exact .refl s

/-- What an entry to LEAVING may count. -/
abbrev leavingCounters : Set Counter := {.ownDiscarded, .announcesReplaced}

/-- The arbiter's choice reports nothing. -/
theorem State.tells_decideStart {F : Set EventFlag} {C : Set Counter} (s : State) :
    State.Tells F C s s.decideStart := .of_eq (by simp)

theorem State.tells_enterLeaving (s : State) (cause : LeaveCause) :
    State.Tells {.cueUndelivered} leavingCounters s (s.enterLeaving cause) := by
  have discarded := ((s.withAtc { s.atc with
    state := .leaving, leaveTimer := some s.now, leaveCause := some cause, finalSent := false }).tells_discardOwn).mono
      (C' := leavingCounters) subset_rfl (by simp)
  have announced := fun u : State => (State.Tells.past (s := u) (State.tells_announce
    (u.withPru { u.pru with timer := none }) true)).mono (F' := {.cueUndelivered}) (C' := leavingCounters)
      (Set.empty_subset _) (by simp)
  exact ((State.Tells.past discarded).trans (announced _)).trans (State.tells_decideStart _)

theorem State.tells_conflictHalt (s : State) :
    State.Tells {.cueUndelivered} leavingCounters s s.conflictHalt := by
  unfold State.conflictHalt
  split
  · exact s.tells_enterLeaving _
  · exact s.tells_enterLeaving _
  · exact .of_eq rfl
  all_goals exact .refl s

/-! ## The transit list -/

theorem State.tells_lossOutcome (s : State) (e : Entry) :
    State.Tells {.ringOpened, .cueUndelivered} ∅ s (s.lossOutcome e) := by
  unfold State.lossOutcome
  split
  · exact (s.tells_closureOutcome .opened).mono (by simp [Closure.flag]) subset_rfl
  · split
    · exact .of_eq rfl
    · exact .refl s
  · exact s.tells_cueUndelivered _ (by simp)
  · exact .refl s

/-- The counters of uncopied returns. -/
abbrev unheardCounters : Set Counter := Set.range Counter.unheard

theorem State.tells_returnOutcome (s : State) (e : Entry) (copied : Bool) :
    State.Tells {.ringClosed, .cueUndelivered} unheardCounters s (s.returnOutcome e copied) := by
  unfold State.returnOutcome
  split
  · exact State.Tells.past ((State.tells_closureOutcome _ .closed).mono (by simp [Closure.flag]) (Set.empty_subset _))
  · split
    · split
      · exact .of_eq rfl
      next i _ _ => exact State.Tells.past (State.tells_countOne _ ⟨i, rfl⟩)
    · exact .refl s
  · split
    · exact .of_eq (by simp)
    · exact s.tells_cueUndelivered _ (by simp)
  · exact .refl s

theorem State.tells_skipHead (s : State) (e : Entry) :
    State.Tells {.ringOpened, .cueUndelivered} {.skipLosses} s (s.skipHead e) :=
  (State.Tells.past (s.dropHead.tells_countOne (Set.mem_singleton _))).trans
    ((State.tells_lossOutcome _ e).mono subset_rfl (Set.empty_subset _))

theorem State.tells_timeoutHead (s : State) (e : Entry) :
    State.Tells {.ringOpened, .cueUndelivered} {.timeoutLosses} s (s.timeoutHead e) :=
  ((State.Tells.past (s.dropHead.tells_countOne (Set.mem_singleton _))).trans
    ((State.tells_lossOutcome _ e).mono subset_rfl (Set.empty_subset _))).then_eq rfl

theorem State.tells_timeoutHeads (es : List Entry) (s : State) :
    State.Tells {.ringOpened, .cueUndelivered} {.timeoutLosses} s (State.timeoutHeads es s) := by
  induction es generalizing s with
  | nil => exact .refl s
  | cons e es ih =>
    rw [State.timeoutHeads]
    split
    · exact (s.tells_timeoutHead e).trans (ih _)
    · exact .refl s

/-- What a head match may raise. -/
abbrev returnFlags : Set EventFlag := {.ringClosed, .ringOpened, .cueUndelivered}

/-- What a head match may count. -/
abbrev returnCounters : Set Counter := {.ownReturned, .timeoutLosses} ∪ unheardCounters

theorem State.tells_headMatch (s : State) (e : Entry) (copied : Bool) :
    State.Tells returnFlags returnCounters s (s.headMatch e copied) := by
  have counted : State.Tells returnFlags returnCounters s (s.dropHead.countOne .ownReturned) :=
    State.Tells.past (s.dropHead.tells_countOne (.inl (.inl rfl)))
  have returned := (State.tells_returnOutcome (s.dropHead.countOne .ownReturned) e copied).mono
    (F' := returnFlags) (C' := returnCounters) (by simp [Set.insert_subset_iff]) Set.subset_union_right
  refine (counted.trans returned).trans ((State.tells_timeoutHeads _ _).mono (by simp) ?_)
  simp

theorem State.tells_lateReturn (s : State) (i : Identity) : State.Tells ∅ {.lateReturns} s (s.lateReturn i) :=
  State.Tells.past (State.tells_countOne (s.withTrm _) (Set.mem_singleton _))

theorem State.tells_foreignFrame (s : State) :
    State.Tells {.addressConflict, .cueUndelivered} (insert .foreignFrames leavingCounters) s s.foreignFrame := by
  have counted : State.Tells {.addressConflict, .cueUndelivered} (insert .foreignFrames leavingCounters) s
      ((s.countOne .foreignFrames).withTrm { s.trm with
        conflicts := addUpTo Config.conflictCeiling s.trm.conflicts 1 }) :=
    (s.tells_countOne (Set.mem_insert ..)).then_eq rfl
  unfold State.foreignFrame
  dsimp only
  split
  · refine counted.trans ((State.tells_raise _ (Set.mem_insert ..)).trans ?_)
    exact (State.tells_conflictHalt _).mono (by simp) (Set.subset_insert ..)
  · exact counted

theorem State.tells_stripped (s : State) (i : Identity) (copied : Bool) :
    State.Tells Set.univ Set.univ s (s.stripped i copied) := by
  unfold State.stripped
  dsimp only
  split
  next e _ _ =>
    have skipped := State.Tells.foldl State.tells_skipHead (s.trm.transit.takeWhile (·.identity ≠ i)) s
    exact (skipped.all.trans (State.tells_headMatch _ e copied).all).trans (State.tells_decideStart _)
  next =>
    split
    · exact (s.tells_lateReturn i).all
    · exact s.tells_foreignFrame.all

theorem State.tells_abandon (s : State) (e : Entry) :
    State.Tells {.cueUndelivered} {.abandoned} s (s.abandon e) := by
  unfold State.abandon
  dsimp only
  split
  · exact (s.tells_countOne (Set.mem_singleton _)).trans (State.tells_cueUndelivered _ _ (Set.mem_singleton _))
  · exact s.tells_countOne (Set.mem_singleton _)

theorem State.tells_abandonTransit (s : State) :
    State.Tells {.cueUndelivered} {.abandoned} s s.abandonTransit :=
  (State.Tells.foldl State.tells_abandon s.trm.transit s).then_eq rfl

/-! ## Streams and claims -/

theorem State.tells_toUnlocked (s : State) (n : Fin 16) (x : StreamState) (o : Option Address) :
    State.Tells {.streamUnlocked} ∅ s (s.toUnlocked n x o) := by
  unfold State.toUnlocked
  split
  · have raised : State.Tells {.streamUnlocked} ∅ s ((s.setContext n (·.unlocked x o)).raise .streamUnlocked) :=
      State.Tells.past (State.tells_raise (s.setContext n (·.unlocked x o)) (Set.mem_singleton _))
    refine raised.then_eq ?_
    dsimp only
    split <;> simp
  · exact .of_eq rfl

theorem State.tells_claimantEvent (s : State) (n : Fin 16) (a : Option Address) :
    State.Tells {.streamUnlocked} ∅ s (s.claimantEvent n a) := by
  unfold State.claimantEvent
  split <;> exact s.tells_toUnlocked ..

theorem State.tells_offerEffects (s : State) (n : Fin 16) (o : Offer) :
    State.Tells {.streamLocked, .streamRelocked} ∅ s (s.offerEffects n o) := by
  unfold State.offerEffects
  split
  · exact .refl s
  · exact .refl s
  · refine (s.tells_raise (f := .streamLocked) (by simp)).then_eq ?_
    dsimp only
    split <;> simp
  · exact (s.tells_raise (f := .streamRelocked) (by simp)).then_eq (by simp)

theorem State.tells_offerToSrx (s : State) (f : AudioFrame) :
    State.Tells {.streamLocked, .streamRelocked} ∅ s (s.offerToSrx f).1 := by
  unfold State.offerToSrx
  split
  · split
    · exact .refl s
    · exact State.Tells.past (State.tells_offerEffects _ _ _)
  · exact .refl s

theorem State.tells_resolveSource (g : Image) (s : State) (i : Fin 4) :
    State.Tells {.claimYielded, .claimResumed} ∅ s (s.resolveSource g i) := by
  unfold State.resolveSource
  dsimp only
  split
  · exact .refl s
  · split
    · exact State.Tells.then_eq (State.Tells.past (State.tells_raise (s.withPru _) (f := .claimYielded) (by simp))) rfl
    · exact State.Tells.past (State.tells_raise (s.withPru _) (f := .claimResumed) (by simp))

theorem State.tells_resolveSubscription (g : Image) (s : State) (n : Fin 16) :
    State.Tells {.streamUnlocked} ∅ s (s.resolveSubscription g n) := by
  unfold State.resolveSubscription
  split
  · exact .refl s
  · dsimp only
    split
    · exact .refl s
    · exact State.Tells.past (State.tells_claimantEvent _ _ _)

/-- What a change of the peer table may raise through claims and claimants. -/
abbrev claimFlags : Set EventFlag := {.claimYielded, .claimResumed, .streamUnlocked}

theorem State.tells_resolveClaims (s : State) :
    State.Tells claimFlags {.announcesReplaced} s s.resolveClaims := by
  unfold State.resolveClaims
  split
  · exact .refl s
  next g _ =>
    dsimp only
    have sources := (State.Tells.foldl (State.tells_resolveSource g) (List.finRange 4) s).mono (F' := claimFlags)
      (C' := {.announcesReplaced}) (by simp [Set.insert_subset_iff]) (Set.empty_subset _)
    have subscriptions := fun u => (State.Tells.foldl (State.tells_resolveSubscription g) (List.finRange 16) u).mono
      (F' := claimFlags) (C' := {.announcesReplaced}) (by simp) (Set.empty_subset _)
    refine (sources.trans ?_).trans (subscriptions _)
    split
    · exact (State.tells_announce _ false).mono (Set.empty_subset _) subset_rfl
    · exact .refl _

@[simp] theorem State.peerDeparted_svp (s : State) (i : Fin 30) : (s.peerDeparted i).svp = s.svp := by simp

theorem State.tells_departure (s : State) (i : Fin 30) :
    State.Tells (insert .peerExpired claimFlags) {.announcesReplaced} s (s.departure i) :=
  ((s.tells_raise (Set.mem_insert ..)).trans
    ((State.tells_resolveClaims _).mono (Set.subset_insert ..) subset_rfl)).then_eq (State.peerDeparted_svp _ i)

theorem State.tells_expirePeer (s : State) (i : Fin 30) :
    State.Tells (insert .peerExpired claimFlags) {.announcesReplaced} s (s.expirePeer i) :=
  (State.Tells.past ((s.setPeer i { s.pru.peers[i] with present := false }).tells_departure i)).trans
    (State.tells_decideStart _)

theorem State.tells_announceTimer (s : State) : State.Tells ∅ {.announcesReplaced} s s.announceTimer := by
  unfold State.announceTimer
  split
  next last g _ _ =>
    exact (State.Tells.past (State.tells_announce
      (s.withPru { s.pru with timer := some (last + g.periodTime) }) false)).trans (State.tells_decideStart _)
  next => exact .refl s

/-- What the taking of an announce may count. -/
abbrev announceCounters : Set Counter := {.announcesMissed, .announcesReplaced}

theorem State.tells_takeAnnounce (s : State) (f : AnnounceFrame) (i : Fin 30) :
    State.Tells Set.univ announceCounters s (s.takeAnnounce f i) := by
  unfold State.takeAnnounce
  dsimp only
  have set (p : Peer) : State.Tells Set.univ announceCounters s (s.setPeer i p) := .of_eq rfl
  have resolved (u : State) : State.Tells Set.univ announceCounters u u.resolveClaims :=
    u.tells_resolveClaims.mono (Set.subset_univ _) (by simp)
  split
  · split
    · exact (set _).trans ((State.tells_departure _ i).mono (Set.subset_univ _) (by simp))
    · exact set _
  · split
    · have counted := (set (f.peer (!f.flags.leaving) s.ringTime)).trans
        (State.tells_countBy (c := .announcesMissed) _ (f.seq - s.pru.peers[i].lastSeq - 1).toNat (by simp))
      split
      · exact counted
      · exact counted.trans (resolved _)
    · exact (set _).trans ((State.tells_raise _ (Set.mem_univ _)).trans (resolved _))

/-! ## Key events -/

theorem State.tells_buildCue (s : State) (d : Address) (k : CueCode) (p : BitVec 4) :
    State.Tells {.cueUndelivered} {.cuesRefused} s (s.buildCue d k p) :=
  State.Tells.past (State.tells_offerCue _ _)

theorem State.tells_keyEvent (s : State) (g : Image) (i : Fin 16) (press : Bool) :
    State.Tells {.cueUndelivered} {.cuesRefused} s (s.keyEvent g i press) := by
  unfold State.keyEvent
  split
  · unfold State.venueKey
    split
    · unfold State.pressTalk
      split
      · exact State.Tells.past (State.tells_buildCue ..)
      · exact .refl s
    · unfold State.releaseTalk
      dsimp only
      split
      · exact State.Tells.past (State.tells_buildCue ..)
      · exact .of_eq rfl
    · exact .of_eq (by simp)
    · exact .refl s
  · unfold State.galleryKey
    split
    · split
      · exact s.tells_buildCue ..
      · exact .refl s
    · exact .refl s

theorem State.tells_judgeScan (s : State) (g : Image) (raw : BitVec 16) :
    State.Tells {.cueUndelivered} {.cuesRefused} s (s.judgeScan g raw) := by
  refine State.Tells.foldl (fun s i => ?_) _ s
  unfold State.judgeInput
  dsimp only
  split
  · exact .of_eq rfl
  split
  · exact .of_eq rfl
  · exact State.Tells.past (State.tells_keyEvent _ g i _)

theorem State.tells_keyScan (s : State) (raw : BitVec 16) :
    State.Tells {.cueUndelivered} {.cuesRefused} s (s.keyScan raw) := by
  unfold State.keyScan
  split
  · exact .refl s
  · exact (State.Tells.past (State.tells_judgeScan (s.withPos { s.pos with scanAt := s.now }) _ raw)).trans
      (State.tells_decideStart _)

/-! ## Arriving frames -/

theorem State.tells_offerToPos (s : State) (f : CueFrame) :
    State.Tells ∅ {.cuesIgnored, .cueDuplicates, .cuesAccepted} s (s.offerToPos f).1 := by
  unfold State.offerToPos
  split
  · unfold State.takeCue
    split
    · exact s.tells_countOne (c := .cuesIgnored) (by simp)
    split
    · exact s.tells_countOne (c := .cueDuplicates) (by simp)
    dsimp only
    split
    · exact .of_eq rfl
    split
    · exact State.Tells.past (State.tells_countOne _ (c := .cuesIgnored) (by simp))
    · refine State.Tells.trans (.of_eq ?_) (State.tells_countOne _ (c := .cuesAccepted) (by simp))
      split <;> simp
  · exact .refl s

/-- What a copier may count. -/
abbrev copierCounters : Set Counter := announceCounters ∪ {.cuesIgnored, .cueDuplicates, .cuesAccepted}

theorem State.tells_offerToCopier (s : State) (f : Frame) :
    State.Tells Set.univ copierCounters s (s.offerToCopier f).1 := by
  cases f with
  | audio f => exact (s.tells_offerToSrx f).mono (Set.subset_univ _) (Set.empty_subset _)
  | announce f =>
    simp only [State.offerToCopier]
    unfold State.offerToPru
    split
    · exact (s.tells_takeAnnounce f _).mono subset_rfl Set.subset_union_left
    · exact .refl s
  | cue f => exact (s.tells_offerToPos f).mono (Set.empty_subset _) Set.subset_union_right

theorem State.tells_appendRepeat (s : State) (o : List Octet) :
    State.Tells {.repeatOverflow} {.repeatOverflows} s (s.appendRepeat o) := by
  unfold State.appendRepeat
  split
  · exact .of_eq rfl
  · exact (s.tells_countOne (Set.mem_singleton _)).trans (State.tells_raise _ (Set.mem_singleton _))

/-! ## The line and the end of a leave -/

theorem State.tells_assemble (s : State) (e : LineEvent) : State.Tells ∅ {.abortedFrames} s (s.assemble e) := by
  unfold State.assemble
  split
  · dsimp only
    split
    · exact State.Tells.past (State.tells_countOne (s.withRx _) (Set.mem_singleton _))
    · exact .of_eq rfl
  · exact .refl s

theorem State.tells_takeUnit (s : State) (e : LineEvent) : State.Tells ∅ {.abortedFrames} s (s.takeUnit e) := by
  unfold State.takeUnit
  dsimp only
  refine State.Tells.past (State.tells_assemble _ e) ?_
  split <;> rfl

theorem State.tells_declareLoss (s : State) : State.Tells {.upstreamLoss} {.abortedFrames} s s.declareLoss := by
  unfold State.declareLoss
  dsimp only
  split
  · refine State.Tells.past (State.Tells.trans (State.tells_raise (s.withAtc _) (Set.mem_singleton _)) ?_)
    unfold State.abortOpen
    split
    · exact State.Tells.past (State.tells_countOne (State.withRx _ _) (Set.mem_singleton _))
    · exact .refl _
  · split <;> exact .of_eq rfl

theorem State.tells_declareRestoral (s : State) : State.Tells {.upstreamRestored} ∅ s s.declareRestoral :=
  State.Tells.past (State.tells_raiseIf (s.withAtc { s.atc with upstream := .present, quietUnits := 0, validRun := 0 })
    s.attached (Set.mem_singleton _))

theorem State.tells_restartClearing (s : State) : State.Tells {.streamUnlocked} ∅ s s.restartClearing :=
  (State.Tells.past (State.Tells.foldl (fun s n => s.tells_toUnlocked n .waiting none) (List.finRange 16)
    s.clearPresence)).then_eq (by simp [State.restartClearing])

theorem State.tells_discardSlot (s : State) : State.Tells ∅ {.ownDiscarded} s s.discardSlot := by
  unfold State.discardSlot
  split
  · exact (s.tells_countOne (Set.mem_singleton _)).then_eq rfl
  · exact .of_eq rfl

theorem State.tells_release (s : State) :
    State.Tells {.cueUndelivered, .streamUnlocked} {.abandoned, .ownDiscarded} s s.release := by
  have emptied : State.Tells {.cueUndelivered, .streamUnlocked} {.abandoned, .ownDiscarded} s
      s.abandonTransit.discardSlot :=
    (s.tells_abandonTransit.mono (by simp) (by simp)).trans
      ((State.tells_discardSlot _).mono (Set.empty_subset _) (by simp))
  have cleared := fun u : State => u.tells_restartClearing.mono (F' := {.cueUndelivered, .streamUnlocked})
    (C' := {.abandoned, .ownDiscarded}) (by simp) (Set.empty_subset _)
  unfold State.release
  dsimp only
  split
  · exact emptied.then_eq rfl
  all_goals exact (emptied.trans (State.Tells.past (cleared _))).trans (State.tells_withAtc _ _)

/-! ## Block ticks -/

theorem State.tells_fixStatus (b : Nat) (s : State) (q : Fin 2) :
    State.Tells {.captureFault} {.irregular q} s (s.fixStatus b q) := by
  unfold State.fixStatus
  dsimp only
  split
  · exact .of_eq rfl
  · exact State.Tells.past ((State.tells_raise
      (s.setStore q fun p => { p with status := blockStatus b s.cap.stores[q].frameCount })
      (Set.mem_singleton _)).trans (State.tells_countOne _ (Set.mem_singleton _)))

theorem State.tells_assembleOne (g : Image) (gates : Vector (Vector Bool 4) 4) (statuses : Vector BlockStatus 2)
    (s : State) (i : Fin 4) :
    State.Tells {.audioDropped} {.audioDropped} s (s.assembleOne g gates statuses i) := by
  unfold State.assembleOne
  split
  · dsimp only
    split
    · exact State.Tells.past (State.tells_offerAudio _ _)
    · exact .of_eq rfl
  · exact .refl s

/-- What a block tick may count. -/
abbrev tickCounters : Set Counter := insert .audioDropped (Set.range Counter.irregular)

theorem State.tells_buildingTick (s : State) (g : Image) :
    State.Tells Set.univ tickCounters s (s.buildingTick g) :=
  State.Tells.then_eq ((State.Tells.foldl (fun s q => (s.tells_fixStatus g.block.samples q).mono (Set.subset_univ _)
      (by simp)) _ s).trans
    (State.Tells.foldl (fun s i => (s.tells_assembleOne g _ _ i).mono (Set.subset_univ _) (by simp)) _ _)) (by
      simp [State.buildingTick]; rfl)

theorem State.tells_blockTick (s : State) : State.Tells Set.univ tickCounters s s.blockTick := by
  unfold State.blockTick
  split
  · exact .refl s
  next g _ =>
    refine State.Tells.then_eq ?_ (State.switchHeadphones_frame _).2.2.2.2.2.2.2.2.2.2.2.2.1
    split
    · exact .of_eq (by simp)
    split
    · exact .of_eq (by simp)
    · exact s.tells_buildingTick g

end Sys2Proof.Machine

/-! SUPPORT. The small changes of which every effect but a reset and the end of the load is made. A property that each of
them keeps is kept by every step. -/

namespace Sys2Proof.Machine

/-! ## The changes of a stream context -/

/-- What changes a stream context, under an image. -/
inductive Context.Change (image : Option Image) (x : Context) : Context → Prop
  | retargeted (state : StreamState) (origin : Option Address) : x.state ≠ .locked → state ≠ .locked →
      Context.Change image x { x with state := state, origin := origin }
  | unlocked (state : StreamState) (origin : Option Address) : x.state = .locked → state ≠ .locked →
      Context.Change image x (x.unlocked state origin)
  | counts (c : ContextCounter) (n : Nat) : Context.Change image x (x.countBy c n)
  | advances (b : BlockLength) (f : AudioFrame) : Context.Change image x (x.advance b f)
  | aligns (g : Image) (f : AudioFrame) (a : Word) (o : Option RunOut) : image = some g →
      Context.Change image x (x.align g f a o)
  | late (g : Image) : image = some g → x.state = .locked → x.lateRun + 1 < g.limit →
      Context.Change image x x.lateCounted
  | early (g : Image) : image = some g → x.state = .locked → x.earlyRun + 1 < g.limit →
      Context.Change image x x.earlyCounted
  | steers (g : Image) (f : AudioFrame) (a : Word) : image = some g → x.state = .locked →
      x.marginOf f.stamp a < 7 * (g.block.samples : Int) → x.queue.length < Config.queueCapacity →
      Context.Change image x (x.steered g f a)
  | waits : 0 < x.holdoff → Context.Change image x { x with holdoff := x.holdoff - 1 }
  | tests (g : Image) : image = some g → x.state = .locked → x.slip = .none → Context.Change image x (x.slipTest g)
  | newCount (b : Nat) (t : Word) : Context.Change image x (x.newCount b t)
  | boundary (b : Nat) (t : Word) : x.state = .locked → Context.Change image x (x.boundary b t)
  | applies : Context.Change image x x.applySlip
  | runsOut : Context.Change image x x.endRunOut
  | zeroed : Context.Change image x x.zeroed

/-- Changes of a context one after another. -/
abbrev Context.Changes (image : Option Image) : Context → Context → Prop :=
  Relation.ReflTransGen (Context.Change image)

/-- A property that every change of a context keeps. -/
theorem Context.Changes.keeps {image : Option Image} {P : Context → Prop} {x y : Context}
    (h : Context.Changes image x y) (change : ∀ x y, Context.Change image x y → P x → P y) (before : P x) : P y := by
  induction h with
  | refl => exact before
  | tail _ last ih => exact change _ _ last ih

section
variable {g : Image}

theorem Context.changes_relock (x : Context) (f : AudioFrame) (a : Word) :
    Context.Changes (some g) x (x.relock g f a) :=
  .tail (.single (.aligns g f a _ rfl)) (.counts .relocks 1)

theorem Context.changes_inRange {x : Context} {f : AudioFrame} {a : Word} (locked : x.state = .locked)
    (below : x.marginOf f.stamp a < 7 * (g.block.samples : Int)) (room : x.queue.length < Config.queueCapacity) :
    Context.Changes (some g) x (x.inRange g f a) := by
  refine Relation.ReflTransGen.trans (.single (.steers g f a rfl locked below room)) ?_
  rw [Context.inRange_eq, Context.holdoffStep]
  split
  next counting => exact .single (.waits counting)
  split
  next free => exact .single (.tests g rfl locked free)
  next => exact .refl

/-- A block relocked on at the run limit is aligned whatever its runs stood at (R127, R129, R130). -/
theorem Context.changes_marginTest {x : Context} (f : AudioFrame) (a : Word) (locked : x.state = .locked) :
    Context.Changes (some g) x (x.marginTest g f a).1 := by
  unfold Context.marginTest
  split
  · dsimp only
    split
    · exact Relation.ReflTransGen.trans (.single (.counts .late 1)) (Context.changes_relock (x.countOne .late) f a)
    next below => exact .single (.late g rfl locked (not_le.mp below))
  · split
    · dsimp only
      split
      · exact Relation.ReflTransGen.trans (.single (.counts .early 1))
          (Context.changes_relock (x.countOne .early) f a)
      next below => exact .single (.early g rfl locked (not_le.mp below))
    next notEarly =>
      obtain ⟨below, room⟩ := not_or.mp notEarly
      exact Context.changes_inRange locked (not_le.mp below) (not_le.mp room)

/-- What an offer makes of a context (R113 to R119, R128 to R136). -/
theorem Context.changes_offer (x : Context) (f : AudioFrame) (a : Word) :
    Context.Changes (some g) x (x.offer g f a).1 := by
  unfold Context.offer
  split
  · exact .single (.counts .unclaimed 1)
  split
  · exact .single (.counts .formatRefused 1)
  split
  · exact .single (.counts .unclaimed 1)
  · exact .single (.aligns g f a _ rfl)
  next locked =>
    unfold Context.lockedTest
    dsimp only
    split
    · exact .single (.counts .duplicate 1)
    split
    · exact Context.changes_relock x f a
    · refine Relation.ReflTransGen.trans (.single (.counts .lost (f.seq - x.expSeq).toNat)) ?_
      split
      · exact Relation.ReflTransGen.trans (.single (.advances g.block f)) (Context.changes_marginTest f a locked)
      · exact Context.changes_relock _ f a

end

/-! ## The changes of a state -/

/-- A small change of the state. -/
inductive State.Change : State → State → Prop
  -- the Service Port
  | raises (s : State) (f : EventFlag) : State.Change s (s.raise f)
  | counts (s : State) (c : Counter) (n : Nat) : State.Change s (s.countBy c n)
  | answers (s : State) (a : Option Answer) (w : Bool) :
      State.Change s (s.withSvp { s.svp with answer := a, writeOpen := w })
  | shows (s : State) : State.Change s (s.withSvp { s.svp with seen := s.svp.flags })
  | clears (s : State) : State.Change s s.clearSeen
  | zeroes (s : State) : State.Change s (s.withSvp { s.svp with counters := Vector.replicate 28 0 })
  -- the attachment and the line
  | attachment (s : State) (a : Atc) : a.idleRun ≤ s.atc.idleRun → a.quietUnits ≤ s.atc.quietUnits →
      a.validRun ≤ s.atc.validRun → State.Change s (s.withAtc a)
  | watches (s : State) (e : LineEvent) : State.Change s (s.withAtc (s.atc.takeUnit e))
  | receiver (s : State) (r : Receiver) : (∀ f ∈ r.opened, f ∈ s.rx.opened) → (∀ f ∈ r.closed, f ∈ s.rx.closed) →
      State.Change s (s.withRx r)
  | receives (s : State) (e : LineEvent) : State.Change s (s.withRx (s.rx.takeUnit e).1)
  | forwarder (s : State) (r : Rfw) : r.occupancy ≤ s.rfw.occupancy → State.Change s (s.withRfw r)
  | repeatJoins (s : State) (o : List Octet) : s.rfw.occupancy + o.length ≤ Config.repeatCapacity →
      State.Change s (s.withRfw { s.rfw with repeats := s.rfw.repeats ++ [o] })
  -- own frames
  | queues (s : State) (q : Inq) : q.cues.length ≤ s.inq.cues.length → q.audio.length ≤ s.inq.audio.length →
      State.Change s (s.withInq q)
  | cueJoins (s : State) (f : CueFrame) : s.inq.cues.length < Config.cueCapacity →
      State.Change s (s.withInq { s.inq with cues := s.inq.cues ++ [f] })
  | audioJoins (s : State) (f : AudioFrame) : s.inq.audio.length < Config.audioCapacity →
      State.Change s (s.withInq { s.inq with audio := s.inq.audio ++ [f] })
  | transit (s : State) (m : Trm) : m.transit.length ≤ s.trm.transit.length →
      m.expired.length ≤ s.trm.expired.length → m.conflicts ≤ s.trm.conflicts → State.Change s (s.withTrm m)
  | starts (s : State) (e : Entry) : s.trm.hasRoom = true →
      State.Change s (s.withTrm { s.trm with transit := s.trm.transit ++ [e] })
  | expires (s : State) (i : Identity) :
      State.Change s (s.withTrm { s.trm with expired := expire s.trm.expired i })
  | conflicts (s : State) :
      State.Change s (s.withTrm { s.trm with conflicts := addUpTo Config.conflictCeiling s.trm.conflicts 1 })
  -- presence, streams and the panel
  | presence (s : State) (u : Pru) : State.Change s (s.withPru u)
  | contexts (s : State) (v : Vector Context 16) : (∀ n : Fin 16, Context.Changes s.stc.image s.srx[n] v[n]) →
      (s.stc.image = none → s.srx = Vector.replicate 16 Context.reset → v = Vector.replicate 16 Context.reset) →
      State.Change s (s.withSrx v)
  | panel (s : State) (p : Pos) : (∀ i : Fin 4, (s.pos.positions[i]).sound → (p.positions[i]).sound) →
      State.Change s (s.withPos p)
  -- the count, capture and playout
  | capture (s : State) (c : Cap) : c.running = s.cap.running → c.qualRun ≤ s.cap.qualRun ∨ c.qualRun ≤ 47 →
      State.Change s (s.withCap c)
  | opens (s : State) (c : Cap) (v : Vector (Option Selection) 4) (which : Assignment → Bool) :
      s.stc.image.isSome → c.running = true → c.qualRun = s.cap.qualRun →
      State.Change s (((s.withCap c).withPly { s.ply with inForce := v }).computeChannels which)
  | forces (s : State) (v : Vector (Option Selection) 4) : State.Change s (s.withPly { s.ply with inForce := v })
  | computes (s : State) (which : Assignment → Bool) : State.Change s (s.computeChannels which)
  | remembers (s : State) : State.Change s (s.withPly { s.ply with before := s.ply.channels })
  | latches (s : State) (g : Image) (q : Fin 4) (f : PortFrame) : s.stc.image = some g → s.cap.running = true →
      (g.playout[q]).listen = true →
      State.Change s (s.withPly { s.ply with frames := modifyAt s.ply.frames q fun _ => some f })
  -- start-up
  | startUp (s : State) (x : Stc) : x.image = s.stc.image → (s.stc.memory.wf = true → x.memory.wf = true) →
      State.Change s (s.withStc x)
  | released (s : State) (at' : Nat) : State.Change s (s.withReleasedAt at')

/-- Changes one after another. -/
abbrev State.Changes : State → State → Prop := Relation.ReflTransGen State.Change

theorem State.Change.one {s t : State} (h : State.Change s t) : State.Changes s t := .single h

theorem State.Changes.foldl {α : Type} {f : State → α → State} (h : ∀ s a, State.Changes s (f s a)) (l : List α)
    (s : State) : State.Changes s (l.foldl f s) := by
  induction l generalizing s with
  | nil => exact .refl
  | cons a l ih => exact (h s a).trans (ih (f s a))

/-- A property that every change keeps. -/
theorem State.Changes.keeps {P : State → Prop} {s t : State} (h : State.Changes s t)
    (change : ∀ s t, State.Change s t → P s → P t) (before : P s) : P t := by
  induction h with
  | refl => exact before
  | tail _ last ih => exact change _ _ last ih

/-- Every small change leaves the image. -/
theorem State.Change.image {s t : State} (h : State.Change s t) : t.stc.image = s.stc.image := by
  cases h with
  | startUp x image => exact image
  | opens c v which | computes which => rw [State.computeChannels_eq]; rfl
  | _ => rfl

theorem State.Changes.image {s t : State} (h : State.Changes s t) : t.stc.image = s.stc.image :=
  h.keeps (P := fun u => u.stc.image = s.stc.image) (fun _ _ change same => change.image.trans same) rfl

/-- On a loaded station each change of a run of them finds the image. -/
theorem State.Changes.foldl_loaded {α : Type} {f : State → α → State} {g : Image}
    (h : ∀ s a, s.stc.image = some g → State.Changes s (f s a)) (l : List α) {s : State}
    (image : s.stc.image = some g) : State.Changes s (l.foldl f s) := by
  induction l generalizing s with
  | nil => exact .refl
  | cons a l ih => exact (h s a image).trans (ih ((h s a image).image.trans image))

/-! ## Each operation as changes -/

theorem State.changes_raiseIf (s : State) (b : Bool) (f : EventFlag) : State.Changes s (s.raiseIf b f) := by
  cases b
  · exact .refl
  · exact (State.Change.raises s f).one

theorem State.changes_countOne (s : State) (c : Counter) : State.Changes s (s.countOne c) :=
  (State.Change.counts s c 1).one

/-- The arbiter's choice leaves the repeat queue. -/
theorem State.changes_decideStart (s : State) : State.Changes s s.decideStart := by
  unfold State.decideStart
  split
  · exact (State.Change.forwarder s _ (by rfl)).one
  all_goals exact .refl

/-- A table of one value stands where an entry is set to that value. -/
theorem modifyAt_replicate {α : Type} {n : Nat} (a : α) (i : Fin n) {f : α → α} (h : f a = a) :
    modifyAt (Vector.replicate n a) i f = Vector.replicate n a := by
  refine Vector.ext fun j hj => ?_
  have entry := modifyAt_get (Vector.replicate n a) i ⟨j, hj⟩ f
  simp only [Fin.getElem_fin, Vector.getElem_replicate, h, ite_self] at entry ⊢
  exact entry

/-- One context changed. Without an image one at its reset values stands. -/
theorem State.changes_setContext (s : State) (n : Fin 16) (f : Context → Context)
    (h : Context.Changes s.stc.image s.srx[n] (f s.srx[n]))
    (unloaded : s.stc.image = none → s.srx[n] = Context.reset → f Context.reset = Context.reset) :
    State.Changes s (s.setContext n f) := by
  refine (State.Change.contexts s _ (fun m => ?_) fun none reset => ?_).one
  · rw [modifyAt_get]
    split
    next e => subst e; exact h
    next => exact .refl
  · rw [reset]
    exact modifyAt_replicate _ n (unloaded none (by rw [reset, replicate_get]))

/-- One context of a loaded station changed. -/
theorem State.changes_setContext_loaded {s : State} {g : Image} (image : s.stc.image = some g) (n : Fin 16)
    (f : Context → Context) (h : Context.Changes (some g) s.srx[n] (f s.srx[n])) : State.Changes s (s.setContext n f) :=
  s.changes_setContext n f (image ▸ h) fun none => by simp [image] at none

/-- One position changed. -/
theorem State.changes_setPosition (s : State) (p : Fin 4) (f : Position → Position)
    (h : (s.pos.positions[p]).sound → ((f s.pos.positions[p]).talk = .off ↔ (f s.pos.positions[p]).tag = none)) :
    State.Changes s (s.setPosition p f) := by
  refine (State.Change.panel s _ fun i sound => ?_).one
  rw [modifyAt_get]
  split
  next e => subst e; exact ⟨rfl, h sound⟩
  next => exact sound

/-- All positions changed. -/
theorem State.changes_setPositions (s : State) (f : Position → Position)
    (h : ∀ q : Position, q.sound → ((f q).talk = .off ↔ (f q).tag = none)) :
    State.Changes s (s.setPositions f) := by
  refine (State.Change.panel s _ fun i sound => ?_).one
  rw [mapAll_get]
  exact ⟨rfl, h _ sound⟩

/-- A change of the panel that leaves the positions. -/
theorem State.changes_withPos (s : State) (p : Pos) (h : p.positions = s.pos.positions := by rfl) :
    State.Changes s (s.withPos p) :=
  (State.Change.panel s p fun i sound => by rw [h]; exact sound).one

/-! ### The panel -/

/-- A request's outcome turns the lamp OFF exactly when it takes the tag. -/
theorem Position.requestOutcome_talk (tag : Octet) (delivered : Bool) (p : Position) (h : p.talk = .off ↔ p.tag = none) :
    (p.requestOutcome tag delivered).talk = .off ↔ (p.requestOutcome tag delivered).tag = none := by
  unfold Position.requestOutcome
  split
  · split
    · dsimp only
      split
      next flash => simp [← h, flash]
      next => exact h
    · simp
  · exact h

theorem State.changes_cueOutcome (s : State) (r : CueReport) (delivered : Bool) :
    State.Changes s (s.cueOutcome r delivered) := by
  unfold State.cueOutcome
  split
  · exact s.changes_setPosition _ _ fun sound => Position.requestOutcome_talk _ _ _ sound.2
  · exact .refl

theorem State.changes_cueUndelivered (s : State) (r : CueReport) : State.Changes s (s.cueUndelivered r) :=
  (State.Change.raises s _).one.trans (State.changes_cueOutcome _ r false)

theorem State.changes_startFallback (s : State) : State.Changes s s.startFallback := by
  unfold State.startFallback
  split
  · exact s.changes_setPositions _ fun _ sound => sound.2
  · exact .refl

theorem State.changes_stopFallback (s : State) : State.Changes s s.stopFallback := by
  unfold State.stopFallback
  split
  · exact s.changes_setPositions _ fun _ sound => sound.2
  · exact .refl

theorem State.changes_latchFallback (s : State) (p : Fin 4) : State.Changes s (s.latchFallback p) :=
  (s.changes_setPosition p _ fun sound => sound.2).trans (State.changes_raiseIf _ _ _)

theorem State.changes_galleryGone (s : State) : State.Changes s (s.setPositions Position.galleryGone) :=
  s.changes_setPositions _ fun _ _ => by simp [Position.galleryGone]

theorem State.changes_peerDeparted (s : State) (i : Fin 30) : State.Changes s (s.peerDeparted i) := by
  unfold State.peerDeparted
  dsimp only
  refine (s.changes_withPos { s.pos with lastTags := modifyAt s.pos.lastTags i fun _ => none } rfl).trans ?_
  split
  · exact .refl
  · split
    · split
      · exact State.changes_galleryGone _
      · exact .refl
    · exact State.changes_withPos _ _

theorem State.changes_clearPositions (s : State) : State.Changes s s.clearPositions := by
  unfold State.clearPositions
  dsimp only
  refine (s.changes_withPos { s.pos with lastTags := Vector.replicate 30 none } rfl).trans ?_
  split
  · exact State.changes_galleryGone _
  · exact State.changes_withPos _ _

/-! ### The Insertion Queues and announces -/

theorem State.changes_offerCue (s : State) (f : CueFrame) : State.Changes s (s.offerCue f) := by
  unfold State.offerCue
  split
  next room => exact (State.Change.cueJoins s f room.2).one
  next => exact (s.changes_countOne _).trans (State.changes_cueUndelivered _ _)

theorem State.changes_offerAnnounce (s : State) (f : AnnounceFrame) : State.Changes s (s.offerAnnounce f) := by
  have filled := fun u : State => (State.Change.queues u { u.inq with slot := some f } (by rfl) (by rfl)).one
  unfold State.offerAnnounce
  dsimp only
  split
  · exact (s.changes_countOne _).trans (filled _)
  · exact filled s

theorem State.changes_offerAudio (s : State) (f : AudioFrame) : State.Changes s (s.offerAudio f) := by
  unfold State.offerAudio
  split
  next room => exact (State.Change.audioJoins s f room).one
  next full =>
    refine ((s.changes_countOne .audioDropped).trans (State.Change.raises _ .audioDropped).one).trans
      (State.Change.queues _ _ (by rfl) ?_).one
    have : Config.audioCapacity ≤ s.inq.audio.length := Nat.le_of_not_lt full
    have : (0 : Nat) < Config.audioCapacity := by decide
    change (s.inq.audio.drop 1 ++ [f]).length ≤ s.inq.audio.length
    rw [List.length_append, List.length_drop, List.length_singleton]
    omega

theorem State.changes_discardOwn (s : State) : State.Changes s s.discardOwn := by
  have emptied := fun u : State => (State.Change.queues u { u.inq with cues := [], audio := [] } (Nat.zero_le _)
    (Nat.zero_le _)).one
  exact ((State.Change.counts s .ownDiscarded _).one.trans (emptied _)).trans
    (State.Changes.foldl (fun s f => s.changes_cueUndelivered (CueFrame.report f)) s.inq.cues _)

theorem State.changes_announce (s : State) (leaving : Bool) : State.Changes s (s.announce leaving) := by
  unfold State.announce
  split
  · exact .refl
  · exact (State.Change.presence s _).one.trans (State.changes_offerAnnounce _ _)

/-! ### Closure and leaving -/

/-- A change of the attachment that leaves the counts of the receive line. -/
theorem State.changes_withAtc (s : State) (a : Atc) (idle : a.idleRun = s.atc.idleRun := by rfl)
    (quiet : a.quietUnits = s.atc.quietUnits := by rfl) (valid : a.validRun = s.atc.validRun := by rfl) :
    State.Changes s (s.withAtc a) :=
  (State.Change.attachment s a idle.le quiet.le valid.le).one

theorem State.changes_closureOutcome (s : State) (c : Closure) : State.Changes s (s.closureOutcome c) := by
  unfold State.closureOutcome
  split
  · exact (s.changes_withAtc _).trans (State.Change.raises _ _).one
  · exact (s.changes_withAtc _).trans (State.changes_raiseIf _ _ _)
  · exact (s.changes_withAtc _).trans (State.changes_raiseIf _ _ _)
  all_goals exact .refl

theorem State.changes_enterLeaving (s : State) (cause : LeaveCause) : State.Changes s (s.enterLeaving cause) :=
  ((((s.changes_withAtc _).trans (State.changes_discardOwn _)).trans (State.Change.presence _ _).one).trans
    (State.changes_announce _ true)).trans (State.changes_decideStart _)

theorem State.changes_conflictHalt (s : State) : State.Changes s s.conflictHalt := by
  unfold State.conflictHalt
  split
  · exact s.changes_enterLeaving _
  · exact s.changes_enterLeaving _
  · exact s.changes_withAtc _
  all_goals exact .refl

/-! ### The transit list -/

/-- A change of the Transit Monitor that leaves its lists and its conflict count. -/
theorem State.changes_withTrm (s : State) (m : Trm) (listed : m.transit = s.trm.transit := by rfl)
    (expired : m.expired = s.trm.expired := by rfl) (conflicts : m.conflicts = s.trm.conflicts := by rfl) :
    State.Changes s (s.withTrm m) :=
  (State.Change.transit s m (by rw [listed]) (by rw [expired]) conflicts.le).one

theorem State.changes_setHeard (s : State) (i : Fin 4) (h : Heard) : State.Changes s (s.setHeard i h) :=
  s.changes_withTrm _

theorem State.changes_dropHead (s : State) : State.Changes s s.dropHead :=
  (State.Change.transit s _ (by simp) (by rfl) (by rfl)).one

theorem State.changes_lossOutcome (s : State) (e : Entry) : State.Changes s (s.lossOutcome e) := by
  unfold State.lossOutcome
  split
  · exact s.changes_closureOutcome .opened
  · split
    · exact s.changes_setHeard _ _
    · exact .refl
  · exact s.changes_cueUndelivered _
  · exact .refl

theorem State.changes_returnOutcome (s : State) (e : Entry) (copied : Bool) :
    State.Changes s (s.returnOutcome e copied) := by
  unfold State.returnOutcome
  split
  · exact (s.changes_withTrm _).trans (State.changes_closureOutcome _ .closed)
  · split
    · split
      · exact s.changes_setHeard _ _
      · exact (s.changes_setHeard _ _).trans (State.changes_countOne _ _)
    · exact .refl
  · split
    · exact s.changes_cueOutcome _ _
    · exact s.changes_cueUndelivered _
  · exact .refl

theorem State.changes_skipHead (s : State) (e : Entry) : State.Changes s (s.skipHead e) :=
  (s.changes_dropHead.trans (State.changes_countOne _ _)).trans (State.changes_lossOutcome _ e)

theorem State.changes_timeoutHead (s : State) (e : Entry) : State.Changes s (s.timeoutHead e) :=
  ((s.changes_dropHead.trans (State.changes_countOne _ _)).trans (State.changes_lossOutcome _ e)).trans
    (State.Change.expires _ e.identity).one

theorem State.changes_timeoutHeads (es : List Entry) (s : State) : State.Changes s (State.timeoutHeads es s) := by
  induction es generalizing s with
  | nil => exact .refl
  | cons e es ih =>
    rw [State.timeoutHeads]
    split
    · exact (s.changes_timeoutHead e).trans (ih _)
    · exact .refl

theorem State.changes_headMatch (s : State) (e : Entry) (copied : Bool) : State.Changes s (s.headMatch e copied) :=
  ((s.changes_dropHead.trans (State.changes_countOne _ _)).trans (State.changes_returnOutcome _ e copied)).trans
    (State.changes_timeoutHeads _ _)

theorem State.changes_lateReturn (s : State) (i : Identity) : State.Changes s (s.lateReturn i) :=
  (State.Change.transit s _ (by rfl) (by exact List.length_erase_le) (by rfl)).one.trans (State.changes_countOne _ _)

theorem State.changes_foreignFrame (s : State) : State.Changes s s.foreignFrame := by
  have counted := (s.changes_countOne .foreignFrames).trans (State.Change.conflicts _).one
  unfold State.foreignFrame
  dsimp only
  split
  · exact (counted.trans (State.Change.raises _ _).one).trans (State.changes_conflictHalt _)
  · exact counted

theorem State.changes_stripped (s : State) (i : Identity) (copied : Bool) :
    State.Changes s (s.stripped i copied) := by
  unfold State.stripped
  dsimp only
  split
  · exact ((State.Changes.foldl State.changes_skipHead _ s).trans (State.changes_headMatch _ _ copied)).trans
      (State.changes_decideStart _)
  · split
    · exact s.changes_lateReturn i
    · exact s.changes_foreignFrame

theorem State.changes_abandonTransit (s : State) : State.Changes s s.abandonTransit := by
  refine (State.Changes.foldl (fun s e => ?_) s.trm.transit s).trans
    (State.Change.transit _ _ (by exact Nat.zero_le _) (by exact Nat.zero_le _) (by rfl)).one
  unfold State.abandon
  dsimp only
  split
  · exact (s.changes_countOne _).trans (State.changes_cueUndelivered _ _)
  · exact s.changes_countOne _

/-! ### Streams, claims and announces -/

theorem State.changes_toUnlocked (s : State) (n : Fin 16) (x : StreamState) (o : Option Address) (h : x ≠ .locked)
    (unloaded : s.stc.image = none → x = .waiting ∧ o = none) : State.Changes s (s.toUnlocked n x o) := by
  unfold State.toUnlocked
  split
  next locked =>
    have leaves := s.changes_setContext n (·.unlocked x o) (.single (.unlocked x o locked h))
      fun _ reset => by rw [reset] at locked; cases locked
    refine (leaves.trans (State.Change.raises _ .streamUnlocked).one).trans ?_
    dsimp only
    refine Relation.ReflTransGen.trans ?_ (State.Change.computes _ _).one
    split
    · exact State.changes_startFallback _
    · exact .refl
  next free =>
    refine s.changes_setContext n _ (.single (.retargeted x o free h)) fun none _ => ?_
    obtain ⟨rfl, rfl⟩ := unloaded none
    rfl

theorem State.changes_claimantEvent {s : State} {g : Image} (image : s.stc.image = some g) (n : Fin 16)
    (a : Option Address) : State.Changes s (s.claimantEvent n a) := by
  unfold State.claimantEvent
  split
  · exact s.changes_toUnlocked n _ _ (by decide) fun none => by simp [image] at none
  · exact s.changes_toUnlocked n _ _ (by decide) fun none => by simp [image] at none

theorem State.changes_offerEffects (s : State) (n : Fin 16) (o : Offer) : State.Changes s (s.offerEffects n o) := by
  unfold State.offerEffects
  split
  · exact .refl
  · exact .refl
  · dsimp only
    refine ((State.Change.raises s .streamLocked).one.trans ?_).trans (State.Change.computes _ _).one
    split
    · exact State.changes_stopFallback _
    · exact .refl
  · exact (State.Change.raises s _).one.trans (State.Change.computes _ _).one

theorem State.changes_offerToSrx (s : State) (f : AudioFrame) : State.Changes s (s.offerToSrx f).1 := by
  unfold State.offerToSrx
  split
  next g _ image =>
    split
    · exact .refl
    next n _ =>
      exact (State.changes_setContext_loaded image n _ (Context.changes_offer _ f s.cap.count)).trans
        (State.changes_offerEffects _ _ _)
  next => exact .refl

theorem State.changes_resolveSource (g : Image) (s : State) (i : Fin 4) : State.Changes s (s.resolveSource g i) := by
  unfold State.resolveSource
  dsimp only
  split
  · exact .refl
  · split
    · exact ((State.Change.presence s _).one.trans (State.Change.raises _ _).one).trans (State.changes_setHeard _ _ _)
    · exact (State.Change.presence s _).one.trans (State.Change.raises _ _).one

theorem State.changes_resolveSubscription {s : State} {g : Image} (image : s.stc.image = some g) (n : Fin 16) :
    State.Changes s (s.resolveSubscription g n) := by
  unfold State.resolveSubscription
  split
  · exact .refl
  · dsimp only
    split
    · exact .refl
    · exact (State.Change.presence s _).one.trans (State.changes_claimantEvent (by exact image) n _)

theorem State.changes_resolveClaims (s : State) : State.Changes s s.resolveClaims := by
  unfold State.resolveClaims
  split
  · exact .refl
  next g image =>
    dsimp only
    have sources := State.Changes.foldl (State.changes_resolveSource g) (List.finRange 4) s
    have announced : State.Changes s
        (if (List.foldl (State.resolveSource g) s (List.finRange 4)).pru.claims ≠ s.pru.claims
            ∧ (List.foldl (State.resolveSource g) s (List.finRange 4)).inService then
          (List.foldl (State.resolveSource g) s (List.finRange 4)).announce false
        else List.foldl (State.resolveSource g) s (List.finRange 4)) := by
      split
      · exact sources.trans (State.changes_announce _ false)
      · exact sources
    exact announced.trans (State.Changes.foldl_loaded (fun _ n image => State.changes_resolveSubscription image n)
      (List.finRange 16) (announced.image.trans image))

theorem State.changes_departure (s : State) (i : Fin 30) : State.Changes s (s.departure i) :=
  ((State.Change.raises s _).one.trans (State.changes_resolveClaims _)).trans (State.changes_peerDeparted _ i)

theorem State.changes_takeAnnounce (s : State) (f : AnnounceFrame) (i : Fin 30) :
    State.Changes s (s.takeAnnounce f i) := by
  have set := fun p : Peer => (State.Change.presence s { s.pru with peers := modifyAt s.pru.peers i fun _ => p }).one
  unfold State.takeAnnounce
  dsimp only
  split
  · split
    · exact (set _).trans (State.changes_departure _ i)
    · exact set _
  · split
    · split
      · exact (set _).trans (State.Change.counts _ _ _).one
      · exact ((set _).trans (State.Change.counts _ _ _).one).trans (State.changes_resolveClaims _)
    · exact ((set _).trans (State.Change.raises _ _).one).trans (State.changes_resolveClaims _)

/-! ### Cues and keys -/

theorem State.changes_buildCue (s : State) (d : Address) (k : CueCode) (p : BitVec 4) :
    State.Changes s (s.buildCue d k p) :=
  (s.changes_withPos _).trans (State.changes_offerCue _ _)

theorem State.changes_keyEvent (s : State) (g : Image) (i : Fin 16) (press : Bool) :
    State.Changes s (s.keyEvent g i press) := by
  unfold State.keyEvent State.venueKey State.galleryKey
  split
  · split
    · unfold State.pressTalk
      split
      · exact (s.changes_setPosition _ (fun q => { q with tag := some s.pos.cueTag, talk := .flash })
          fun _ => by simp).trans (State.changes_buildCue _ _ _ _)
      · exact .refl
    · unfold State.releaseTalk
      dsimp only
      refine (s.changes_setPosition (positionOfInput i) (fun q => { q with talk := .off, tag := none }) fun _ => by simp).trans ?_
      split
      · exact State.changes_buildCue _ _ _ _
      · exact .refl
    · unfold State.pressAck
      split
      · exact s.changes_setPosition _ _ fun sound => sound.2
      · exact .refl
    · exact .refl
  · split
    · split
      · exact s.changes_buildCue _ _ _
      · exact .refl
    · exact .refl

theorem State.changes_keyScan (s : State) (raw : BitVec 16) : State.Changes s (s.keyScan raw) := by
  unfold State.keyScan
  split
  · exact .refl
  next g _ =>
    refine ((s.changes_withPos { s.pos with scanAt := s.now }).trans
      (State.Changes.foldl (fun s i => ?_) (List.finRange 16) _)).trans
      (State.changes_decideStart _)
    unfold State.judgeInput
    dsimp only
    split
    · exact s.changes_withPos _
    split
    · exact s.changes_withPos _
    · exact (s.changes_withPos _).trans (State.changes_keyEvent _ g i _)

theorem State.changes_venueCue (s : State) (f : CueFrame) : State.Changes s (s.venueCue f) := by
  refine (State.Change.panel s (s.venueCue f).pos fun i sound => ?_).one
  simp only [State.venueCue, State.withPos_pos, ofFn_get]
  split
  · refine ⟨rfl, ?_⟩
    cases f.code <;> exact sound.2
  · exact sound

theorem State.changes_takeCue (s : State) (g : Image) (f : CueFrame) (i : Fin 30) :
    State.Changes s (s.takeCue g f i).1 := by
  unfold State.takeCue
  split
  · exact s.changes_countOne _
  split
  · exact s.changes_countOne _
  dsimp only
  refine (s.changes_withPos { s.pos with lastTags := modifyAt s.pos.lastTags i fun _ => some f.tag }).trans ?_
  split
  · exact .refl
  split
  · exact State.changes_countOne _ _
  · refine Relation.ReflTransGen.trans ?_ (State.changes_countOne _ _)
    split
    · exact State.changes_venueCue _ f
    · unfold State.galleryCue
      split
      · exact State.changes_withPos _ _
      · exact State.changes_withPos _ _
      all_goals exact .refl

theorem State.changes_offerToPos (s : State) (f : CueFrame) : State.Changes s (s.offerToPos f).1 := by
  unfold State.offerToPos
  split
  next g i _ _ _ => exact s.changes_takeCue g f i
  next => exact .refl

/-! ### Frames and units -/

theorem State.changes_appendRepeat (s : State) (o : List Octet) : State.Changes s (s.appendRepeat o) := by
  unfold State.appendRepeat
  split
  next fits => exact (State.Change.repeatJoins s o fits).one
  next => exact (s.changes_countOne _).trans (State.Change.raises _ _).one

theorem State.changes_offerToCopier (s : State) (f : Frame) : State.Changes s (s.offerToCopier f).1 := by
  cases f with
  | audio f => exact s.changes_offerToSrx f
  | announce f =>
    simp only [State.offerToCopier]
    unfold State.offerToPru
    split
    · exact s.changes_takeAnnounce f _
    · exact .refl
  | cue f => exact s.changes_offerToPos f

theorem State.changes_judgeFrame (s : State) (r : RxFrame) : State.Changes s (s.judgeFrame r) := by
  unfold State.judgeFrame
  split
  · unfold State.takeFrame
    split
    · exact .refl
    split
    · exact s.changes_stripped _ _
    split
    · exact s.changes_countOne _
    · exact ((s.changes_offerToCopier _).trans (State.changes_appendRepeat _ _)).trans (State.changes_decideStart _)
  all_goals exact s.changes_countOne _

theorem State.changes_assemble (s : State) (e : LineEvent) : State.Changes s (s.assemble e) := by
  unfold State.assemble
  split
  · dsimp only
    split
    · exact (State.Change.receives s e).one.trans (State.changes_countOne _ _)
    · exact (State.Change.receives s e).one
  · exact .refl

theorem State.changes_takeUnit (s : State) (e : LineEvent) : State.Changes s (s.takeUnit e) := by
  unfold State.takeUnit
  dsimp only
  refine Relation.ReflTransGen.trans ?_ (State.changes_assemble _ e)
  have ended := s.changes_withAtc { s.atc with unitEnd := s.now }
  split
  · exact ended.trans (State.Change.watches _ e).one
  · exact ended

theorem State.changes_abortOpen (s : State) : State.Changes s s.abortOpen := by
  unfold State.abortOpen
  split
  · exact (State.Change.receiver s { s.rx with opened := none } (by simp) fun _ => id).one.trans
      (State.changes_countOne _ _)
  · exact .refl

theorem State.changes_declareLoss (s : State) : State.Changes s s.declareLoss := by
  have lost := (State.Change.attachment s { s.atc with upstream := .loss, quietUnits := 0, validRun := 0 } (by rfl)
    (Nat.zero_le _) (Nat.zero_le _)).one
  unfold State.declareLoss
  dsimp only
  refine lost.trans ?_
  split
  · exact (State.Change.raises _ _).one.trans (State.changes_abortOpen _)
  · split
    · exact State.changes_withAtc _ _
    · exact .refl

theorem State.changes_declareRestoral (s : State) : State.Changes s s.declareRestoral :=
  (State.Change.attachment s { s.atc with upstream := .present, quietUnits := 0, validRun := 0 } le_rfl
    (Nat.zero_le _) (Nat.zero_le _)).one.trans (State.changes_raiseIf _ _ _)

theorem State.changes_holdoffExpired (s : State) : State.Changes s s.holdoffExpired := by
  refine (State.Change.attachment s _ ?_ ?_ ?_).one <;> (dsimp only; repeat' split) <;> exact le_rfl

theorem State.changes_attachNow (s : State) : State.Changes s s.attachNow :=
  (((((s.changes_withAtc _).trans (State.Change.transit _ Trm.reset (Nat.zero_le _) (Nat.zero_le _)
    (Nat.zero_le _)).one).trans (State.Change.receiver _ Receiver.reset (by simp [Receiver.reset])
    (by simp [Receiver.reset])).one).trans (State.Change.forwarder _ _ (Nat.zero_le _)).one).trans
    (State.Change.presence _ _).one).trans (State.changes_announce _ false)

theorem State.changes_startRepeat (s : State) : State.Changes s s.startRepeat := by
  unfold State.startRepeat
  split
  · exact .refl
  next o rest waiting =>
    refine (s.changes_countOne .framesForwarded).trans (State.Change.forwarder _ _ ?_).one
    change _ ≤ (s.rfw.repeats.map List.length).sum
    rw [waiting, List.map_cons, List.sum_cons]
    exact Nat.le_add_left ..

theorem State.changes_startOwn (s : State) (f : Frame) (room : s.trm.hasRoom = true) :
    State.Changes s (s.startOwn f) := by
  have left : State.Changes (s.countOne .ownStarted) ((s.countOne .ownStarted).withInq (s.inq.without f)) := by
    refine (State.Change.queues _ _ ?_ ?_).one <;> cases f <;> simp [Inq.without]
  exact (((s.changes_countOne .ownStarted).trans left).trans
    (State.Change.starts _ (f.entry s.ringTime) (by exact room)).one).trans (State.Change.forwarder _ _ (by rfl)).one

theorem State.changes_endFrame (s : State) : State.Changes s s.endFrame := by
  refine (State.Change.forwarder s { s.rfw with arbiter := .gap (s.frameEndSentAt.getD s.now) } (by rfl)).one.trans
    (State.Change.attachment _ _ ?_ (by rfl) (by rfl)).one
  dsimp only
  split
  · exact Nat.zero_le _
  · exact le_rfl

/-! ### The end of a leave -/

theorem State.changes_discardSlot (s : State) : State.Changes s s.discardSlot := by
  unfold State.discardSlot
  refine Relation.ReflTransGen.trans ?_ (State.Change.queues _ _ (Nat.zero_le _) (Nat.zero_le _)).one
  split
  · exact s.changes_countOne _
  · exact .refl

theorem State.changes_restartClearing (s : State) : State.Changes s s.restartClearing :=
  ((State.Change.presence s _).one.trans (State.Changes.foldl
    (fun s n => s.changes_toUnlocked n .waiting none (by decide) fun _ => ⟨rfl, rfl⟩) (List.finRange 16) _)).trans
    (State.changes_clearPositions _)

/-- The entry to JOINING leaves the counts of the receive line (R30). -/
theorem State.changes_joins (s : State) :
    State.Changes s (s.withAtc { s.atc.startHoldoff s.now with state := .joining }) := s.changes_withAtc _

theorem State.changes_release (s : State) : State.Changes s s.release := by
  have emptied : State.Changes s (((s.abandonTransit.discardSlot.withRfw Rfw.reset).withRx Receiver.reset).withAtc
      s.abandonTransit.discardSlot.atc.released) :=
    (((s.changes_abandonTransit.trans (State.changes_discardSlot _)).trans
      (State.Change.forwarder _ Rfw.reset (Nat.zero_le _)).one).trans
      (State.Change.receiver _ Receiver.reset (by simp [Receiver.reset]) (by simp [Receiver.reset])).one).trans
      (State.changes_withAtc _ _)
  unfold State.release
  dsimp only
  split
  · exact emptied.trans (State.Change.attachment _ _ (Nat.zero_le _) (Nat.zero_le _) (Nat.zero_le _)).one
  all_goals exact (emptied.trans (State.changes_restartClearing _)).trans (State.changes_joins _)

/-! ### The count and block ticks -/

theorem State.changes_withCap (s : State) (c : Cap) (running : c.running = s.cap.running := by rfl)
    (run : c.qualRun = s.cap.qualRun := by rfl) : State.Changes s (s.withCap c) :=
  (State.Change.capture s c running (.inl run.le)).one

/-- A change of the Capture Unit that leaves the qualification run below 48. -/
theorem State.changes_qualRun (s : State) (c : Cap) (running : c.running = s.cap.running) (run : c.qualRun < 48) :
    State.Changes s (s.withCap c) := (State.Change.capture s c running (.inr (Nat.le_of_lt_succ run))).one

/-- Every context of a loaded station counts on. -/
theorem State.changes_newCount {s : State} {g : Image} (image : s.stc.image = some g) (b : Nat) (t : Word) :
    State.Changes s (s.withSrx (mapAll (Context.newCount b t) s.srx)) := by
  refine (State.Change.contexts s _ (fun n => ?_) fun none => by simp [image] at none).one
  rw [mapAll_get]
  exact .single (.newCount _ _)

theorem State.changes_countedOn {s : State} {g : Image} (image : s.stc.image = some g) :
    State.Changes s (s.countedOn g) := by
  unfold State.countedOn
  dsimp only
  refine Relation.ReflTransGen.trans ?_ (State.Change.computes _ _).one
  refine Relation.ReflTransGen.trans ?_ (State.Change.remembers _).one
  refine Relation.ReflTransGen.trans ?_ (State.changes_newCount (by exact image) _ _)
  exact State.changes_withCap _ _

theorem State.changes_countIncrement (s : State) : State.Changes s s.countIncrement := by
  unfold State.countIncrement
  dsimp only
  refine (s.changes_withCap { s.cap with count := s.cap.count + 1 }).trans ?_
  split
  next g image => exact State.changes_countedOn image
  next => exact .refl

theorem State.changes_wclkEdge (s : State) : State.Changes s s.wclkEdge := by
  unfold State.wclkEdge
  split
  · exact .refl
  dsimp only
  split
  · exact .refl
  · refine (s.changes_withCap { s.cap with lastEdge := some s.now }).trans ?_
    unfold State.edgeInWordclock
    split
    · exact (State.changes_withCap _ _).trans (State.changes_countIncrement _)
    · exact .refl
  · refine (s.changes_withCap { s.cap with lastEdge := some s.now }).trans ?_
    unfold State.edgeInHoldover
    split
    · exact State.changes_qualRun _ _ (by rfl) (by exact Nat.succ_pos _)
    split
    next below => exact State.changes_qualRun _ _ (by rfl) (by exact below)
    next => exact State.changes_qualRun _ _ (by rfl) (by exact Nat.succ_pos _)

theorem State.changes_wordClockLost (s : State) : State.Changes s s.wordClockLost := by
  unfold State.wordClockLost State.reportHoldover
  dsimp only
  refine Relation.ReflTransGen.trans ?_ (State.changes_countIncrement _)
  refine (s.changes_qualRun { s.cap with clock := .holdover, qualRun := 0, dividerAt := s.now } rfl
    (Nat.succ_pos _)).trans ?_
  split
  · exact (State.Change.raises _ _).one.trans (State.changes_countOne _ _)
  · exact .refl

theorem State.changes_setStore (s : State) (q : Fin 2) (f : PortStore → PortStore) :
    State.Changes s (s.setStore q f) := s.changes_withCap _

theorem State.changes_buildingTick (s : State) (g : Image) : State.Changes s (s.buildingTick g) := by
  refine (((State.Changes.foldl (fun s q => ?_) (List.finRange 2) s).trans
    (State.Changes.foldl (fun s i => ?_) (List.finRange 4) _)).trans (State.changes_withCap _ _)).trans
    (State.changes_decideStart _)
  · unfold State.fixStatus
    dsimp only
    split
    · exact s.changes_setStore q _
    · exact ((s.changes_setStore q _).trans (State.Change.raises _ _).one).trans (State.changes_countOne _ _)
  · unfold State.assembleOne
    split
    · dsimp only
      refine (s.changes_withCap { s.cap with seqs := modifyAt s.cap.seqs i (· + 1) }).trans ?_
      split
      · exact State.changes_offerAudio _ _
      · exact .refl
    · exact .refl

theorem State.changes_switchHeadphones (s : State) : State.Changes s s.switchHeadphones := by
  unfold State.switchHeadphones
  refine Relation.ReflTransGen.trans ?_ (State.Change.computes _ _).one
  split
  · exact (State.Change.forces s _).one
  · exact .refl

theorem State.changes_blockTick (s : State) : State.Changes s s.blockTick := by
  unfold State.blockTick
  split
  · exact .refl
  next g image =>
    split
    · unfold State.switchHeadphones
      split
      · exact (State.Change.opens s _ _ _ (by simp [image]) (by rfl) (by rfl)).one
      · exact (State.Change.opens s _ s.ply.inForce _ (by simp [image]) (by rfl) (by rfl)).one
    · refine Relation.ReflTransGen.trans ?_ (State.changes_switchHeadphones _)
      split
      · exact s.changes_withCap _
      · exact s.changes_buildingTick g

theorem State.changes_takeBoundary (s : State) (n : Fin 16) (locked : (s.srx[n]).state = .locked) :
    State.Changes s (s.takeBoundary n) := by
  unfold State.takeBoundary
  split
  · exact .refl
  next g image =>
    refine ((State.changes_setContext_loaded image n _ (.single (.boundary _ _ locked))).trans
      (State.Change.computes _ _).one).trans (State.changes_setContext_loaded (g := g) ?_ n _ ?_)
    · simp [image]
    · split
      · exact .refl
      · exact .single .applies

/-- The counters of every context are set to 0. -/
theorem State.changes_zeroed (s : State) : State.Changes s (s.withSrx (mapAll Context.zeroed s.srx)) := by
  refine (State.Change.contexts s _ (fun n => ?_) fun _ reset => ?_).one
  · rw [mapAll_get]
    exact .single .zeroed
  · rw [reset]
    exact Vector.ext fun i hi => by simp [mapAll, Context.zeroed, Context.reset]

/-! ### Writes -/

/-- A change of the Start-up Controller that leaves the image and the memory. -/
theorem State.changes_withStc (s : State) (x : Stc) (image : x.image = s.stc.image := by rfl)
    (memory : x.memory = s.stc.memory := by rfl) : State.Changes s (s.withStc x) :=
  (State.Change.startUp s x image (by rw [memory]; exact id)).one

theorem State.changes_writePage (s : State) (rec : List Octet) (k : Nat) : State.Changes s (s.writePage rec k) :=
  (State.Change.startUp s _ (by rfl) (Memory.wf_writeFrom _ _)).one

theorem State.changes_pageReady (s : State) : State.Changes s s.pageReady := by
  unfold State.pageReady
  split
  · split
    · split
      · exact s.changes_writePage _ _
      · exact s.changes_withStc _
    · exact .refl
  · exact .refl

theorem State.changes_endWrite (s : State) (ok : Bool) : State.Changes s (s.endWrite ok) := by
  have ended := s.changes_withStc { s.stc with write := none }
  unfold State.endWrite
  dsimp only
  split
  · exact ended.trans (State.Change.answers _ _ _).one
  · exact ended

/-- What the arbiter starts next is there to start (R42, R43). -/
theorem State.nextStart_mayStart {s : State} {k : FrameChoice} (h : s.nextStart = some k) : s.mayStart k = true := by
  unfold State.nextStart at h
  split at h
  · rcases Option.or_eq_some_iff.mp h with held | ⟨-, chosen⟩
    · exact (Option.filter_eq_some_iff.mp held).2
    · exact List.find?_some chosen
  all_goals cases h

/-- An own frame is chosen only with a free transit entry (R42). -/
theorem State.chosenOwn_room {s : State} {f : Frame} (h : s.chosenOwn = some f) : s.trm.hasRoom = true := by
  obtain ⟨k, next, own⟩ := Option.bind_eq_some_iff.mp h
  have may := State.nextStart_mayStart next
  cases k with
  | repeatHead => cases state : s.atc.state <;> simp [State.ownFrame] at own
  | cue | announce | audio => exact ((Bool.and_eq_true ..).mp may).1

/-! ## Every effect -/

/-- Every effect but a reset and the end of the load is made of small changes. -/
theorem Effect.changes {c : Instr} {s t : State} (h : Effect c s t) :
    State.Changes s t ∨ t = s.assertReset ∨ s.stc.load = .loading ∧ t = s.endLoad := by
  cases h with
  | resetAsserted => exact .inr (.inl rfl)
  | loadEnd _ _ loading => exact .inr (.inr ⟨loading, rfl⟩)
  | stands => exact .inl .refl
  | resetAbortComplete =>
    exact .inl ((s.changes_withAtc _).trans (State.Change.forwarder _ _ (by rfl)).one)
  | resetReleased _ straps =>
    exact .inl (((((s.changes_withStc _).trans (State.Change.released _ s.now).one).trans
      (State.changes_withAtc _ _)).trans (State.changes_withCap _ _)).trans (State.changes_withPos _ _))
  | lineUnit _ e => exact .inl (s.changes_takeUnit e)
  | upstreamLoss => exact .inl s.changes_declareLoss
  | upstreamRestoral => exact .inl s.changes_declareRestoral
  | joinHoldoff => exact .inl s.changes_holdoffExpired
  | attach => exact .inl s.changes_attachNow
  | arrival _ f rest _ closed =>
    exact .inl ((State.Change.receiver s { s.rx with closed := rest } (fun _ => id)
      (by simp +contextual [closed])).one.trans (State.changes_judgeFrame _ f))
  | gapComplete _ since gap =>
    rw [State.txReady, gap]
    exact .inl ((State.Change.forwarder s _ (by rfl)).one.trans (State.changes_decideStart _))
  | repeatStart => exact .inl s.changes_startRepeat
  | ownStart _ f chosen => exact .inl (s.changes_startOwn f (State.chosenOwn_room chosen))
  | frameEnd => exact .inl s.changes_endFrame
  | leaveDrain | leaveAbort => exact .inl s.changes_release
  | leaveLimit =>
    unfold State.leaveLimit
    split
    · exact .inl ((s.changes_withAtc _).trans (State.Change.forwarder _ _ (by rfl)).one)
    · exact .inl s.changes_release
  | returnTimeout => exact .inl ((State.changes_timeoutHeads _ s).trans (State.changes_decideStart _))
  | announceTimer _ g last _ timer image =>
    rw [State.announceTimer, timer, image]
    exact .inl (((State.Change.presence s _).one.trans (State.changes_announce _ false)).trans
      (State.changes_decideStart _))
  | peerExpiry _ a i =>
    exact .inl (((State.Change.presence s _).one.trans (State.changes_departure _ i)).trans
      (State.changes_decideStart _))
  | wclkEdge => exact .inl s.changes_wclkEdge
  | wordClockLoss => exact .inl s.changes_wordClockLost
  | divider => exact .inl ((s.changes_withCap _).trans (State.changes_countIncrement _))
  | qualificationSilence => exact .inl (s.changes_qualRun _ (by rfl) (by exact Nat.succ_pos _))
  | clockingFrame | captureFrame => exact .inl (s.changes_setStore _ _)
  | blockTick => exact .inl s.changes_blockTick
  | blockBoundary _ n locked => exact .inl (s.changes_takeBoundary n locked)
  | runOutEnd _ g n image => exact .inl (State.changes_setContext_loaded image n _ (.single .runsOut))
  | frameSync _ g q image running listen => exact .inl (State.Change.latches s g q _ image running listen).one
  | keyScan _ g raw => exact .inl (s.changes_keyScan raw)
  | fallbackTimer _ p => exact .inl (s.changes_latchFallback p)
  | flashTimer => exact .inl (s.changes_withPos _)
  | answered _ _ a => exact .inl (State.Change.answers s _ _).one
  | readEvents => exact .inl ((State.Change.shows s).one.trans (State.Change.answers _ _ _).one)
  | clearSeen => exact .inl ((State.Change.clears s).one.trans (State.Change.answers _ _ _).one)
  | zeroCounters =>
    exact .inl (((State.Change.zeroes s).one.trans (State.changes_zeroed _)).trans (State.Change.answers _ _ _).one)
  | restartRing => exact .inl ((s.changes_enterLeaving .restart).trans (State.Change.answers _ _ _).one)
  | unanswered => exact .inl (State.Change.answers s _ _).one
  | writeBegins octets rec a _ =>
    exact .inl ((s.changes_writePage _ _).trans (State.Change.answers _ _ _).one)
  | pageReady => exact .inl s.changes_pageReady
  | writeEnds _ _ ok => exact .inl (s.changes_endWrite ok)

end Sys2Proof.Machine

/-! SUPPORT. What every step keeps of the queues, the counts, the panel, the outputs and the streams: each property is
kept by every small change, by a reset and by the end of the load. -/

namespace Sys2Proof.Machine

/-! ## A step as changes -/

/-- A step has one effect at an instant, with a queue and choices of the model's own. -/
theorem step_effect {s t : State} (h : step s = .next t) :
    ∃ (c : Instr) (now ties : Nat) (pending : List Instr),
      Effect c { s with now := now, ties := ties, pending := pending } t := by
  unfold step at h
  split at h
  next c rest _ =>
    obtain ⟨d, effect⟩ := exec_effect h
    exact ⟨c, _, _, _, effect⟩
  next =>
    obtain rfl := Host.Outcome.next.inj h
    obtain ⟨now, ties, pending, own⟩ :
        ∃ now ties pending, s.ownNext = { s with now := now, ties := ties, pending := pending } := by
      unfold State.ownNext State.queueOwn
      split
      · exact ⟨_, _, _, rfl⟩
      · split <;> exact ⟨_, _, _, rfl⟩
    exact ⟨.resetAsserted, now, ties, pending, own ▸ .stands _ _⟩

/-- What a reset leaves of the blocks: only a frame that is cut off stays on the line (R32). -/
theorem State.assertReset_items (s : State) :
    s.assertReset.rfw.repeats = [] ∧ s.assertReset.rx = Receiver.reset ∧ s.assertReset.inq = Inq.reset
      ∧ s.assertReset.trm = Trm.reset ∧ s.assertReset.pru = Pru.reset ∧ s.assertReset.cap = Cap.reset
      ∧ s.assertReset.srx = Vector.replicate 16 Context.reset ∧ s.assertReset.ply = Ply.reset
      ∧ s.assertReset.pos = Pos.reset ∧ s.assertReset.svp = Svp.reset := by
  unfold State.assertReset
  split <;> exact ⟨rfl, rfl, rfl, rfl, rfl, rfl, rfl, rfl, rfl, rfl⟩

/-- What a reset leaves of the attachment (R32). -/
theorem State.assertReset_atc (s : State) :
    s.assertReset.atc = { Atc.reset with unitEnd := s.atc.unitEnd, attach := s.cutByReset } := by
  unfold State.assertReset
  split
  next cut => rw [cut]; rfl
  next uncut => rw [Bool.eq_false_iff.mpr uncut]; rfl

/-- A property of the state that the instant and the model's queue do not touch is kept by every step, where every
small change, a reset and the end of the load keep it. -/
theorem step_keeps {P : State → Prop}
    (untimed : ∀ (s : State) now ties pending, P s → P { s with now := now, ties := ties, pending := pending })
    (change : ∀ s t, State.Change s t → P s → P t) (reset : ∀ s, P s → P s.assertReset)
    {s t : State} (load : s.stc.load = .loading → ∀ u, u.stc = s.stc → P u → P u.endLoad) (before : P s)
    (h : step s = .next t) : P t := by
  obtain ⟨c, now, ties, pending, effect⟩ := step_effect h
  have before := untimed s now ties pending before
  obtain changes | rfl | ⟨loading, rfl⟩ := effect.changes
  · exact changes.keeps change before
  · exact reset _ before
  · exact load loading _ rfl before

/-! ## O59 -/

/-- Every small change keeps the panel sound. -/
theorem State.Change.panelSound {s t : State} (h : State.Change s t) (sound : s.panelSound) : t.panelSound := by
  cases h with
  | panel p keeps => exact fun i => keeps i (sound i)
  | opens c v which | computes which => rw [State.computeChannels_eq]; exact sound
  | _ => exact sound

/-- Of the panel the end of the load changes the fallback timers alone (R170, R182). -/
theorem State.endLoad_panelSound {s : State} (sound : s.panelSound) : s.endLoad.panelSound := by
  unfold State.endLoad
  split
  · exact sound
  · unfold State.goodLoad
    dsimp only
    split
    · exact (State.changes_startFallback _).keeps (P := State.panelSound) (fun _ _ h => h.panelSound) sound
    · exact sound

/-- Settles O59: positions are changed by operations that judge the selection again and set or clear the lamp with the
tag. -/
theorem panelStaysSound : Obligations.PanelStaysSound := by
  intro s t sound next
  refine step_keeps (P := State.panelSound) (fun _ _ _ _ => id) (fun _ _ h => h.panelSound) (fun s _ p => ?_)
    (fun _ _ _ => State.endLoad_panelSound) sound next
  obtain ⟨-, -, -, -, -, -, -, -, pos, -⟩ := s.assertReset_items
  rw [pos, Pos.reset, replicate_get]
  decide

/-! ## O53 -/

/-- A boundary only takes blocks from the queue (R147). -/
theorem Context.boundary_queue (x : Context) (b : Nat) (t : Word) : (x.boundary b t).queue.length ≤ x.queue.length := by
  have fewer := List.length_filter_le (fun k => !decide (signedDiff k.stamp x.nextBoundary < 0)) x.queue
  unfold Context.boundary
  dsimp only
  split
  · split <;> exact fewer
  · exact fewer

/-- A change of a context leaves its queue within 8 blocks (R107). -/
theorem Context.Change.queue {image : Option Image} {x y : Context} (h : x.Change image y)
    (room : x.queue.length ≤ 8) : y.queue.length ≤ 8 := by
  cases h with
  | unlocked => exact Nat.zero_le _
  | aligns => exact Nat.succ_le_succ (Nat.zero_le 7)
  | steers g f a _ _ _ free =>
    have free : x.queue.length < 8 := free
    change (x.queue ++ [_]).length ≤ 8
    simp
    omega
  | tests g =>
    unfold Context.slipTest
    split
    · exact room
    · split <;> exact room
  | boundary b t locked => exact (Context.boundary_queue x b t).trans room
  | _ => exact room

/-- The expired list keeps the last 16 (R59). -/
theorem expire_length {l : List Identity} (h : l.length ≤ 16) (i : Identity) : (expire l i).length ≤ 16 := by
  have : Config.expiredCapacity = 16 := rfl
  unfold expire
  split <;> simp <;> omega

/-- A frame being received keeps at most 1167 octets (R5). -/
theorem RxFrame.append_length {f : RxFrame} (h : f.octets.length ≤ 1167) (o : Octet) :
    (f.append o).octets.length ≤ 1167 := by
  have : Config.maxFrame = 1167 := rfl
  unfold RxFrame.append
  dsimp only
  split
  · simp; omega
  · exact h

/-- A unit time leaves every frame of the receiver within 1167 octets (R5). -/
theorem Receiver.takeUnit_length {r : Receiver} (e : LineEvent) (opened : ∀ f ∈ r.opened, f.octets.length ≤ 1167)
    (closed : ∀ f ∈ r.closed, f.octets.length ≤ 1167) :
    (∀ f ∈ (r.takeUnit e).1.opened, f.octets.length ≤ 1167)
      ∧ ∀ f ∈ (r.takeUnit e).1.closed, f.octets.length ≤ 1167 := by
  have empty : RxFrame.empty.octets.length ≤ 1167 := Nat.zero_le _
  unfold Receiver.takeUnit
  split
  next => exact ⟨by simp [empty], closed⟩
  next => exact ⟨opened, closed⟩
  next f o isOpen =>
    exact ⟨by simpa using RxFrame.append_length (opened f isOpen) o, closed⟩
  next f isOpen =>
    refine ⟨by simp, fun k mem => ?_⟩
    rcases List.mem_append.mp mem with old | new
    · exact closed k old
    · rw [List.mem_singleton.mp new]; exact opened f isOpen
  next => exact ⟨by simp [empty], closed⟩
  next => exact ⟨by simp, closed⟩
  next => exact ⟨by simp, closed⟩
  next => exact ⟨by simp, closed⟩
  next f isOpen => exact ⟨by simpa using opened f isOpen, closed⟩

/-- Every small change keeps every queue and list within its capacity. -/
theorem State.Change.withinCapacity {s t : State} (h : State.Change s t) (within : s.withinCapacity) :
    t.withinCapacity := by
  obtain ⟨repeats, cues, audio, transit, expired, contexts, opened, closed⟩ := within
  cases h with
  | receiver r opens closes =>
    exact ⟨repeats, cues, audio, transit, expired, contexts, fun f mem => opened f (opens f mem),
      fun f mem => closed f (closes f mem)⟩
  | receives e =>
    obtain ⟨opened, closed⟩ := Receiver.takeUnit_length e opened closed
    exact ⟨repeats, cues, audio, transit, expired, contexts, opened, closed⟩
  | forwarder r le => exact ⟨le.trans repeats, cues, audio, transit, expired, contexts, opened, closed⟩
  | repeatJoins o fits =>
    refine ⟨?_, cues, audio, transit, expired, contexts, opened, closed⟩
    have fits : s.rfw.occupancy + o.length ≤ 4096 := fits
    simpa [Rfw.occupancy] using fits
  | queues q cue aud => exact ⟨repeats, cue.trans cues, aud.trans audio, transit, expired, contexts, opened, closed⟩
  | cueJoins f room =>
    have room : s.inq.cues.length < 4 := room
    exact ⟨repeats, by simpa using room, audio, transit, expired, contexts, opened, closed⟩
  | audioJoins f room =>
    have room : s.inq.audio.length < 8 := room
    exact ⟨repeats, cues, by simpa using room, transit, expired, contexts, opened, closed⟩
  | transit m tra exp _ =>
    exact ⟨repeats, cues, audio, tra.trans transit, exp.trans expired, contexts, opened, closed⟩
  | starts e room =>
    have room : s.trm.transit.length < 128 := of_decide_eq_true room
    exact ⟨repeats, cues, audio, by simpa using room, expired, contexts, opened, closed⟩
  | expires i => exact ⟨repeats, cues, audio, transit, expire_length expired i, contexts, opened, closed⟩
  | contexts v change =>
    exact ⟨repeats, cues, audio, transit, expired,
      fun n => (change n).keeps (P := (·.queue.length ≤ 8)) (fun _ _ h => h.queue) (contexts n), opened, closed⟩
  | opens c v which | computes which =>
    rw [State.computeChannels_eq]
    exact ⟨repeats, cues, audio, transit, expired, contexts, opened, closed⟩
  | _ => exact ⟨repeats, cues, audio, transit, expired, contexts, opened, closed⟩

/-- Settles O53: nothing joins a queue or a list but where there is room. -/
theorem capacitiesHold : Obligations.CapacitiesHold := by
  intro s t within next
  refine step_keeps (P := State.withinCapacity) (fun _ _ _ _ => id) (fun _ _ h => h.withinCapacity) (fun s _ => ?_)
    (fun _ s _ within => by simpa only [State.withinCapacity, State.endLoad_frame] using within) within next
  obtain ⟨repeats, rx, inq, trm, -, -, srx, -⟩ := s.assertReset_items
  rw [State.withinCapacity, Rfw.occupancy, repeats, rx, inq, trm, srx]
  refine ⟨by decide, by decide, by decide, by decide, by decide, fun n => ?_, by decide, by decide⟩
  rw [replicate_get]
  decide

/-! ## O54 -/

/-- A counter of a context rests at 65535 (R123). -/
theorem Context.countBy_rests {x : Context} (rests : ∀ i : Fin 11, x.counters[i] ≤ 65535) (c : ContextCounter) (n : Nat)
    (i : Fin 11) : (x.countBy c n).counters[i] ≤ 65535 := by
  change (modifyAt x.counters c.place _)[i] ≤ 65535
  rw [modifyAt_get]
  split
  · exact Nat.min_le_left ..
  · exact rests i

/-- A change of a context leaves its counters and its conceal count at or below their ceilings (R123, R146). -/
theorem Context.Change.rests {image : Option Image} {x y : Context} (h : x.Change image y)
    (rests : (∀ i : Fin 11, x.counters[i] ≤ 65535) ∧ x.conceal ≤ 255) :
    (∀ i : Fin 11, y.counters[i] ≤ 65535) ∧ y.conceal ≤ 255 := by
  obtain ⟨counters, conceal⟩ := rests
  cases h with
  | unlocked => exact ⟨counters, Nat.zero_le _⟩
  | counts c n => exact ⟨Context.countBy_rests counters c n, conceal⟩
  | aligns g f a o => exact ⟨Context.countBy_rests (by exact counters) .accepted 1, Nat.zero_le _⟩
  | late => exact ⟨Context.countBy_rests counters .late 1, conceal⟩
  | early => exact ⟨Context.countBy_rests counters .early 1, conceal⟩
  | steers g f a => exact ⟨Context.countBy_rests (by exact counters) .accepted 1, conceal⟩
  | tests g =>
    unfold Context.slipTest
    split
    · exact ⟨Context.countBy_rests (by exact counters) .dropSlips 1, conceal⟩
    · split
      · exact ⟨Context.countBy_rests (by exact counters) .repeatSlips 1, conceal⟩
      · exact ⟨counters, conceal⟩
  | boundary b t =>
    have concealed : addUpTo 255 x.conceal 1 ≤ 255 := Nat.min_le_left ..
    unfold Context.boundary
    dsimp only
    split
    · split
      · exact ⟨counters, Nat.zero_le _⟩
      · exact ⟨Context.countBy_rests (by exact counters) .concealed 1, concealed⟩
    · exact ⟨Context.countBy_rests (by exact counters) .concealed 1, concealed⟩
  | zeroed => exact ⟨fun i => by simp [Context.zeroed], conceal⟩
  | _ => exact ⟨counters, conceal⟩

/-- A unit time leaves the counts of the receive line at or below their ceilings (R19, R20). -/
theorem Atc.takeUnit_rests {a : Atc} (e : LineEvent) (rests : a.idleRun ≤ 255 ∧ a.quietUnits ≤ 64 ∧ a.validRun ≤ 256) :
    (a.takeUnit e).idleRun ≤ 255 ∧ (a.takeUnit e).quietUnits ≤ 64 ∧ (a.takeUnit e).validRun ≤ 256 := by
  obtain ⟨-, quiet, valid⟩ := rests
  refine ⟨?_, ?_, ?_⟩
  · change a.idleRunAfter e ≤ 255
    unfold Atc.idleRunAfter
    split
    · exact Nat.min_le_left ..
    · exact Nat.zero_le _
  · unfold Atc.takeUnit
    dsimp only
    split
    · split
      · exact Nat.zero_le _
      · exact Nat.min_le_left ..
    · exact quiet
  · unfold Atc.takeUnit
    dsimp only
    split
    · exact valid
    · split
      · exact Nat.min_le_left ..
      · exact Nat.zero_le _

/-- A counter of the Service Port rests at 65535 (R192). -/
theorem State.countBy_rests {s : State} (rests : ∀ i : Fin 28, s.svp.counters[i] ≤ 65535) (c : Counter) (n : Nat)
    (i : Fin 28) : (s.countBy c n).svp.counters[i] ≤ 65535 := by
  change (modifyAt s.svp.counters c.place _)[i] ≤ 65535
  rw [modifyAt_get]
  split
  · exact Nat.min_le_left ..
  · exact rests i

/-- Every small change leaves every count at or below its ceiling. -/
theorem State.Change.withinCeilings {s t : State} (h : State.Change s t) (within : s.withinCeilings) :
    t.withinCeilings := by
  obtain ⟨counters, ctx, conf, idle, quiet, valid, run, conceal⟩ := within
  cases h with
  | counts c n => exact ⟨State.countBy_rests counters c n, ctx, conf, idle, quiet, valid, run, conceal⟩
  | zeroes => exact ⟨fun i => by simp, ctx, conf, idle, quiet, valid, run, conceal⟩
  | attachment a i q v =>
    exact ⟨counters, ctx, conf, i.trans idle, q.trans quiet, v.trans valid, run, conceal⟩
  | watches e =>
    obtain ⟨idle, quiet, valid⟩ := Atc.takeUnit_rests e ⟨idle, quiet, valid⟩
    exact ⟨counters, ctx, conf, idle, quiet, valid, run, conceal⟩
  | transit m _ _ le => exact ⟨counters, ctx, le.trans conf, idle, quiet, valid, run, conceal⟩
  | conflicts => exact ⟨counters, ctx, Nat.min_le_left .., idle, quiet, valid, run, conceal⟩
  | contexts v change =>
    have rests := fun n => (change n).keeps (fun _ _ h => h.rests) ⟨ctx n, conceal n⟩
    exact ⟨counters, fun n => (rests n).1, conf, idle, quiet, valid, run, fun n => (rests n).2⟩
  | capture c _ le =>
    exact ⟨counters, ctx, conf, idle, quiet, valid, le.elim (·.trans run) id, conceal⟩
  | opens c v which _ _ same =>
    rw [State.computeChannels_eq]
    exact ⟨counters, ctx, conf, idle, quiet, valid, same.le.trans run, conceal⟩
  | computes which =>
    rw [State.computeChannels_eq]
    exact ⟨counters, ctx, conf, idle, quiet, valid, run, conceal⟩
  | _ => exact ⟨counters, ctx, conf, idle, quiet, valid, run, conceal⟩

/-- The end of the load raises no count of the receive line. -/
theorem State.endLoad_counts (s : State) : s.endLoad.atc.idleRun ≤ s.atc.idleRun
    ∧ s.endLoad.atc.quietUnits ≤ s.atc.quietUnits ∧ s.endLoad.atc.validRun ≤ s.atc.validRun := by
  unfold State.endLoad
  split
  · exact ⟨Nat.zero_le _, Nat.zero_le _, Nat.zero_le _⟩
  · unfold State.goodLoad
    dsimp only
    split
    · simp [Atc.startHoldoff]
    · exact ⟨le_rfl, le_rfl, le_rfl⟩

/-- Settles O54: each count is a sum that rests at its ceiling, and the qualification run ends with the 48th good edge. -/
theorem countsRestAtTheirCeilings : Obligations.CountsRestAtTheirCeilings := by
  intro s t within next
  refine step_keeps (P := State.withinCeilings) (fun _ _ _ _ => id) (fun _ _ h => h.withinCeilings) (fun s _ => ?_)
    (fun _ s _ within => ?_) within next
  · obtain ⟨-, -, -, trm, -, cap, srx, -, -, svp⟩ := s.assertReset_items
    rw [State.withinCeilings, State.assertReset_atc, trm, cap, srx, svp]
    refine ⟨by decide, fun n => ?_, by decide, Nat.zero_le _, Nat.zero_le _, Nat.zero_le _, by decide, fun n => ?_⟩
    all_goals rw [replicate_get]; decide
  · obtain ⟨idle, quiet, valid⟩ := s.endLoad_counts
    obtain ⟨counters, ctx, conf, idle', quiet', valid', run, conceal⟩ := within
    simp only [State.withinCeilings, State.endLoad_frame]
    exact ⟨counters, ctx, conf, idle.trans idle', quiet.trans quiet', valid.trans valid', run, conceal⟩

/-! ## O60 -/

/-- What the ports send while they run (R143, R144). -/
theorem State.portsSound_running {s : State} (running : s.cap.running = true) :
    s.portsSound ↔ s.stc.image.isSome = true ∧ ∀ g ∈ s.stc.image, ∀ q : Fin 4, (g.playout[q]).listen = false →
      s.ply.frames[q] = some (portValues s.ply.channels q) := iff_of_eq (if_pos running)

/-- What the ports send while they are STOPPED (R143, R145). -/
theorem State.portsSound_stopped {s : State} (stopped : s.cap.running ≠ true) :
    s.portsSound ↔ s.ply.channels = Vector.replicate 32 0 ∧ s.ply.before = Vector.replicate 32 0
      ∧ s.ply.frames = Vector.replicate 4 none := iff_of_eq (if_neg stopped)

/-- While the ports run, computing channels lets every CLOCKING port send those of its channels (R144). -/
theorem State.computeChannels_portsSound {s : State} (running : s.cap.running = true) (image : s.stc.image.isSome)
    (which : Assignment → Bool) : (s.computeChannels which).portsSound := by
  obtain ⟨g, image⟩ := Option.isSome_iff_exists.mp image
  have runs : (s.computeChannels which).cap.running = true := by simp [running]
  refine (State.portsSound_running runs).mpr ⟨by simp [image], fun h mem q clocking => ?_⟩
  obtain rfl : g = h := by simpa [image] using mem
  have sends (channels : Vector Sample 32) : (clockedFrames g channels s.ply.frames)[q] = some (portValues channels q) := by
    rw [clockedFrames, ofFn_get, clocking]
    rfl
  simp only [State.computeChannels, running, image]
  exact sends _

/-- While the ports are STOPPED computing channels changes nothing (R145). -/
theorem State.computeChannels_stopped {s : State} (stopped : s.cap.running = false) (which : Assignment → Bool) :
    s.computeChannels which = s := by
  simp [State.computeChannels, stopped]

/-- The ports are sound where the ports, the image and the playout are as in a state where they are. -/
theorem State.portsSound_of_eq {s t : State} (sound : s.portsSound) (running : t.cap.running = s.cap.running)
    (image : t.stc.image = s.stc.image) (ply : t.ply = s.ply) : t.portsSound := by
  rw [State.portsSound, running, image, ply]
  exact sound

/-- Every small change keeps what the CLOCKING ports send that of their channels. -/
theorem State.Change.portsSound {s t : State} (h : State.Change s t) (sound : s.portsSound) : t.portsSound := by
  cases h with
  | capture c running => exact State.portsSound_of_eq sound running rfl rfl
  | startUp x image => exact State.portsSound_of_eq sound rfl image rfl
  | opens c v which image running =>
    exact State.computeChannels_portsSound (s := (s.withCap c).withPly _) running image which
  | computes which =>
    cases running : s.cap.running with
    | false => rwa [State.computeChannels_stopped running]
    | true =>
      exact State.computeChannels_portsSound running ((State.portsSound_running running).mp sound).1 which
  | remembers =>
    by_cases running : s.cap.running = true
    · exact (State.portsSound_running (by exact running)).mpr ((State.portsSound_running running).mp sound)
    · obtain ⟨channels, -, frames⟩ := (State.portsSound_stopped running).mp sound
      exact (State.portsSound_stopped (by exact running)).mpr ⟨channels, channels, frames⟩
  | latches g q f image running listen =>
    obtain ⟨loaded, sends⟩ := (State.portsSound_running running).mp sound
    refine (State.portsSound_running (by exact running)).mpr ⟨loaded, fun h mem p clocking => ?_⟩
    obtain rfl : g = h := by simpa [image] using mem
    have other : p ≠ q := by
      rintro rfl
      exact absurd (listen.symm.trans clocking) (by decide)
    change (modifyAt s.ply.frames q _)[p] = _
    rw [modifyAt_other _ other]
    exact sends g image p clocking
  | _ => exact sound

/-- A flag raised is taken out of the seen set (R190). -/
theorem State.raise_eventsSound {s : State} (sound : s.eventsSound) (f : EventFlag) : (s.raise f).eventsSound := by
  refine BitVec.eq_of_getLsbD_eq fun i hi => ?_
  have seen := congrArg (fun v => v.getLsbD i) sound
  simp only [State.raise, State.withSvp_svp, BitVec.getLsbD_and, BitVec.getLsbD_not, BitVec.getLsbD_or,
    BitVec.getLsbD_zero] at seen ⊢
  revert seen
  cases s.svp.seen.getLsbD i <;> cases s.svp.flags.getLsbD i <;> cases f.bit.getLsbD i <;> simp

/-- Every small change keeps the seen set within the flags set. -/
theorem State.Change.eventsSound {s t : State} (h : State.Change s t) (sound : s.eventsSound) : t.eventsSound := by
  cases h with
  | raises f => exact State.raise_eventsSound sound f
  | shows => exact BitVec.and_not_self _
  | clears => exact BitVec.zero_and
  | opens c v which | computes which => rw [State.computeChannels_eq]; exact sound
  | _ => exact sound

/-- Every small change keeps the canonical form of the memory. -/
theorem State.Change.memorySound {s t : State} (h : State.Change s t) (sound : s.memorySound) : t.memorySound := by
  cases h with
  | startUp x _ memory => exact memory sound
  | opens c v which | computes which => rw [State.computeChannels_eq]; exact sound
  | _ => exact sound

/-- A setting taken into its range lies in it (R181). -/
theorem clampTo_mem {lo hi : Nat} (x : Nat) (h : lo ≤ hi) : lo ≤ clampTo lo hi x ∧ clampTo lo hi x ≤ hi := by
  unfold clampTo
  omega

/-- The settings of an image are clamped, whatever its record (R125, R181). -/
theorem readImage_clamped (rec : List Octet) : (readImage rec).clamped := by
  have window := clampTo_mem (lo := 1) (hi := 64) (recordNat rec 14) (by decide)
  have block : 24 ≤ (recordBlock rec).samples := by cases recordBlock rec <;> decide
  have target := clampTo_mem (lo := clampTo 1 64 (recordNat rec 14))
    (hi := 6 * (recordBlock rec).samples - clampTo 1 64 (recordNat rec 14)) (recordNat16 rec 15) (by omega)
  have rate : scanRateOf (recordNat rec 23) ∈ [250, 500, 1000, 2000] := by
    unfold scanRateOf
    repeat' split
    all_goals decide
  refine ⟨clampTo_mem _ (by decide), clampTo_mem _ (by decide), window, ⟨target.1, ?_⟩, clampTo_mem _ (by decide),
    clampTo_mem _ (by decide), clampTo_mem _ (by decide), clampTo_mem _ (by decide), clampTo_mem _ (by decide), rate,
    ?_, ?_⟩
  · have := target.2
    change clampTo _ _ _ + clampTo _ _ _ ≤ 6 * (recordBlock rec).samples
    omega
  · simp [readImage, usedSources]
  · simp [readImage, usedSubscriptions]

/-- The end of the load hands on the image of the record, or leaves it and the load's own items aside nothing of the
Start-up Controller (R178, R182). -/
theorem State.endLoad_stc (s : State) :
    (s.endLoad.stc.image = s.stc.image ∨ s.endLoad.stc.image = some (readImage s.stc.memory.record))
      ∧ s.endLoad.stc.memory = s.stc.memory := by
  unfold State.endLoad
  split
  · exact ⟨.inl rfl, rfl⟩
  · unfold State.goodLoad
    dsimp only
    split <;> simp

/-- Settles O60: each part is kept by every small change; a reset gives each its reset value, and the end of the load,
which finds no image and the ports STOPPED, hands on a clamped image alone. -/
theorem outputsEventsAndMemoryStaySound : Obligations.OutputsEventsAndMemoryStaySound := by
  intro s t loadSound next
  refine ⟨fun sound => ?_, fun sound => ?_, fun sound => ?_, fun sound => ?_⟩
  · refine step_keeps (P := State.portsSound) (fun _ _ _ _ => id) (fun _ _ h => h.portsSound) (fun s _ => ?_)
      (fun loading u same sound => ?_) sound next
    · obtain ⟨-, -, -, -, -, cap, -, ply, -⟩ := s.assertReset_items
      rw [State.portsSound, cap, ply]
      exact ⟨rfl, rfl, rfl⟩
    · obtain ⟨-, image, -⟩ := loadSound
      have unloaded : u.stc.image = none := by
        rw [same, ← Option.not_isSome_iff_eq_none, image, loading]
        decide
      have stopped : u.cap.running ≠ true := fun running => by
        have loaded := ((State.portsSound_running running).mp sound).1
        rw [unloaded] at loaded
        cases loaded
      have stands := (State.portsSound_stopped stopped).mp sound
      refine (State.portsSound_stopped (by simpa using stopped)).mpr ?_
      simpa only [State.endLoad_frame] using stands
  · refine step_keeps (P := State.eventsSound) (fun _ _ _ _ => id) (fun _ _ h => h.eventsSound) (fun s _ => ?_)
      (fun _ s _ sound => by simpa only [State.eventsSound, State.endLoad_frame] using sound) sound next
    obtain ⟨-, -, -, -, -, -, -, -, -, svp⟩ := s.assertReset_items
    rw [State.eventsSound, svp]
    rfl
  · refine step_keeps (P := State.memorySound) (fun _ _ _ _ => id) (fun _ _ h => h.memorySound) (fun s sound => ?_)
      (fun _ s _ sound => ?_) sound next
    · simpa [State.memorySound] using sound
    · rw [State.memorySound, s.endLoad_stc.2]
      exact sound
  · refine step_keeps (P := State.imageClamped) (fun _ _ _ _ => id) (fun s t h sound => ?_) (fun s _ => ?_)
      (fun _ s _ sound => ?_) sound next
    · rw [State.imageClamped, h.image]
      exact sound
    · simp [State.imageClamped, Stc.reset]
    · rcases s.endLoad_stc.1 with same | handed
      · rw [State.imageClamped, same]
        exact sound
      · rw [State.imageClamped, handed]
        exact fun g mem => Option.mem_some_iff.mp mem ▸ readImage_clamped _

end Sys2Proof.Machine

/-! SUPPORT. What every step keeps of the stream contexts: R and R_play one pending slip apart, and the filtered margin, the
holdoff and the runs in their ranges. -/

namespace Sys2Proof.Machine

/-! ## Boundaries -/

/-- A boundary leaves the offsets, the filter, the holdoff and the runs, and the state (R147 to R149). -/
theorem Context.boundary_frame (x : Context) (b : Nat) (t : Word) :
    (x.boundary b t).state = x.state ∧ (x.boundary b t).r = x.r ∧ (x.boundary b t).rPlay = x.rPlay
      ∧ (x.boundary b t).slip = x.slip ∧ (x.boundary b t).margin = x.margin ∧ (x.boundary b t).holdoff = x.holdoff
      ∧ (x.boundary b t).lateRun = x.lateRun ∧ (x.boundary b t).earlyRun = x.earlyRun := by
  unfold Context.boundary
  dsimp only
  split
  · split <;> exact ⟨rfl, rfl, rfl, rfl, rfl, rfl, rfl, rfl⟩
  · exact ⟨rfl, rfl, rfl, rfl, rfl, rfl, rfl, rfl⟩

/-! ## Slips -/

/-- Without a pending slip R and R_play agree (R124, R150). -/
theorem Context.slipSound_free {x : Context} (free : x.slip = .none) (aligned : x.r = x.rPlay)
    (idle : x.state ≠ .locked → x.queue = [] ∧ x.slip = .none ∧ x.lateRun = 0 ∧ x.earlyRun = 0
      ∧ x.output = ⟨none, .none⟩ ∧ x.conceal = 0 ∧ x.played = false) : x.slipSound := by
  refine ⟨fun _ => aligned, fun drop => ?_, fun again => ?_, idle⟩
  · exact absurd (free.symm.trans drop) (by decide)
  · exact absurd (free.symm.trans again) (by decide)

/-- The slip test moves R by the slip that it decides (R135, R136). -/
theorem Context.slipTest_slipSound {x : Context} (g : Image) (sound : x.slipSound) (locked : x.state = .locked)
    (free : x.slip = .none) : (x.slipTest g).slipSound := by
  have aligned := sound.1 free
  unfold Context.slipTest
  split
  · refine ⟨nofun, fun _ => ?_, nofun, fun free => absurd locked free⟩
    exact congrArg (· - 1) aligned
  · split
    · refine ⟨nofun, nofun, fun _ => ?_, fun free => absurd locked free⟩
      exact congrArg (· + 1) aligned
    · exact sound

/-- A change of a context keeps R and R_play one pending slip apart (R136, R150). -/
theorem Context.Change.slipSound {image : Option Image} {x y : Context} (h : x.Change image y) (sound : x.slipSound) :
    y.slipSound := by
  obtain ⟨none, drop, repeated, idle⟩ := sound
  cases h with
  | retargeted state origin free => exact ⟨none, drop, repeated, fun _ => idle free⟩
  | unlocked => exact Context.slipSound_free rfl rfl fun _ => ⟨rfl, rfl, rfl, rfl, rfl, rfl, rfl⟩
  | aligns => exact Context.slipSound_free rfl rfl fun free => absurd rfl free
  | late _ _ locked | early _ _ locked | steers _ _ _ _ locked =>
    exact ⟨none, drop, repeated, fun free => absurd locked free⟩
  | tests g _ locked free => exact Context.slipTest_slipSound g ⟨none, drop, repeated, idle⟩ locked free
  | boundary b t locked =>
    obtain ⟨state, r, rPlay, slip, -⟩ := x.boundary_frame b t
    rw [Context.slipSound, state, r, rPlay, slip]
    exact ⟨none, drop, repeated, fun free => absurd locked free⟩
  | applies =>
    refine Context.slipSound_free rfl rfl fun free => ?_
    obtain ⟨queue, -, rest⟩ := idle free
    exact ⟨queue, rfl, rest⟩
  | _ => exact ⟨none, drop, repeated, idle⟩

/-! ## The filter -/

/-- The filter stays between where it stood and its target (R133). -/
theorem filtered_mem {k : Nat} (hk : 1 ≤ k) {e m top : Int} (low : 0 ≤ e) (high : e ≤ top) (target : 16 * max m 0 ≤ top) :
    0 ≤ filtered k e m ∧ filtered k e m ≤ top := by
  have half : (2 : Int) ^ k = 2 * 2 ^ (k - 1) := by rw [← pow_succ', Nat.sub_add_cancel hk]
  have positive : (0 : Int) < 2 ^ (k - 1) := by positivity
  have aim : 0 ≤ 16 * max m 0 := by omega
  unfold filtered
  rw [half]
  generalize (2 : Int) ^ (k - 1) = h at positive
  generalize 16 * max m 0 = goal at target aim
  have below := Int.ediv_mul_le (goal - e + h) (show (2 * h : Int) ≠ 0 by omega)
  have above := Int.lt_ediv_add_one_mul_self (goal - e + h) (show (0 : Int) < 2 * h by omega)
  generalize (goal - e + h) / (2 * h) = q at below above
  constructor <;> by_contra out <;> nlinarith

/-- The margin that a slip leaves lies in the range of the margins (R131, R135). -/
theorem Context.slipTest_filterSound {x : Context} {g : Image} (clamped : g.clamped) (sound : x.filterSound g) :
    (x.slipTest g).filterSound g := by
  obtain ⟨-, -, ⟨window, -⟩, ⟨target, top⟩, -, ⟨-, holdoff⟩, -⟩ := clamped
  obtain ⟨low, high, -, late, early⟩ := id sound
  unfold Context.slipTest
  split
  next drop =>
    refine ⟨?_, ?_, holdoff, late, early⟩
    · change 0 ≤ x.margin - 16
      omega
    · change x.margin - 16 ≤ _
      omega
  · split
    next again =>
      refine ⟨?_, ?_, holdoff, late, early⟩
      · change 0 ≤ x.margin + 16
        omega
      · change x.margin + 16 ≤ _
        omega
    · exact sound

/-- Under a clamped image a change of a context keeps the filter, the holdoff and the runs in their ranges (R131 to
R135). -/
theorem Context.Change.filterSound {g : Image} (clamped : g.clamped) {x y : Context} (h : x.Change (some g) y)
    (sound : x.filterSound g) : y.filterSound g := by
  obtain ⟨-, -, ⟨window, -⟩, ⟨-, target⟩, ⟨shift, -⟩, ⟨-, holdoff⟩, ⟨-, limit⟩, -⟩ := id clamped
  obtain ⟨low, high, hold, late, early⟩ := id sound
  cases h with
  | unlocked => exact ⟨low, high, hold, Nat.zero_le _, Nat.zero_le _⟩
  | aligns h f a o image =>
    obtain rfl := Option.some.inj image
    refine ⟨?_, ?_, holdoff, Nat.zero_le _, Nat.zero_le _⟩
    · change (0 : Int) ≤ 16 * g.target
      omega
    · change (16 * g.target : Int) ≤ 16 * (7 * g.block.samples - 1)
      omega
  | late h image _ below =>
    obtain rfl := Option.some.inj image
    exact ⟨low, high, hold, by change x.lateRun + 1 ≤ 14; omega, Nat.zero_le _⟩
  | early h image _ below =>
    obtain rfl := Option.some.inj image
    exact ⟨low, high, hold, Nat.zero_le _, by change x.earlyRun + 1 ≤ 14; omega⟩
  | steers h f a image _ below =>
    obtain rfl := Option.some.inj image
    have block := g.block.samples_pos
    have filter := filtered_mem (k := g.shift) (m := x.marginOf f.stamp a) (by omega) low high (by omega)
    exact ⟨filter.1, filter.2, hold, Nat.zero_le _, Nat.zero_le _⟩
  | waits => exact ⟨low, high, (Nat.sub_le _ _).trans hold, late, early⟩
  | tests h image =>
    obtain rfl := Option.some.inj image
    exact Context.slipTest_filterSound clamped sound
  | boundary b t locked =>
    obtain ⟨-, -, -, -, margin, stays, lates, earlies⟩ := x.boundary_frame b t
    rw [Context.filterSound, margin, stays, lates, earlies]
    exact sound
  | _ => exact ⟨low, high, hold, late, early⟩

/-! ## O57 -/

/-- What a step keeps of the streams while no load ends. -/
abbrev State.streamsSound (s : State) : Prop := s.imageClamped ∧ s.slipSound ∧ s.filterSound

/-- Every small change keeps every stream context sound. -/
theorem State.Change.streamsSound {s t : State} (h : State.Change s t) (sound : s.streamsSound) : t.streamsSound := by
  obtain ⟨clamped, slips, filters, reset⟩ := sound
  cases h with
  | contexts v change unloaded =>
    refine ⟨clamped, fun n => (change n).keeps (fun _ _ h => h.slipSound) (slips n), fun g image n => ?_, fun none =>
      unloaded none (reset none)⟩
    have image : s.stc.image = some g := image
    have change := change n
    rw [image] at change
    exact change.keeps (fun _ _ h => h.filterSound (clamped g image)) (filters g image n)
  | startUp x image =>
    refine ⟨?_, slips, ?_, ?_⟩
    · rw [State.imageClamped]
      exact image ▸ clamped
    · exact image ▸ filters
    · exact image ▸ reset
  | opens c v which | computes which =>
    rw [State.computeChannels_eq]
    exact ⟨clamped, slips, filters, reset⟩
  | _ => exact ⟨clamped, slips, filters, reset⟩

/-- Settles O57: every change of a context keeps its slip and its filter sound; a reset and the end of the load leave
every context at its reset values, which are. -/
theorem streamsStaySound : Obligations.StreamsStaySound := by
  intro s t loadSound clamped slips filters next
  suffices sound : t.streamsSound from sound.2
  refine step_keeps (P := State.streamsSound) (fun _ _ _ _ => id) (fun _ _ h => h.streamsSound) (fun s _ => ?_)
    (fun loading u same sound => ?_) ⟨clamped, slips, filters⟩ next
  · obtain ⟨-, -, -, -, -, -, srx, -⟩ := s.assertReset_items
    have none : s.assertReset.stc.image = none := by simp [Stc.reset]
    rw [State.streamsSound, State.imageClamped, State.filterSound, none]
    refine ⟨nofun, fun n => ?_, nofun, fun _ => srx⟩
    rw [srx, replicate_get]
    decide
  · obtain ⟨-, image, -⟩ := loadSound
    have unloaded : u.stc.image = none := by
      rw [same, ← Option.not_isSome_iff_eq_none, image, loading]
      decide
    obtain ⟨clamped, slips, -, reset⟩ := sound
    have stands : u.endLoad.srx = u.srx := by simp
    rw [State.streamsSound, State.slipSound, State.filterSound, stands]
    refine ⟨?_, slips, fun g _ n => ?_, fun _ => reset unloaded⟩
    · rcases u.endLoad_stc.1 with same | handed
      · rw [State.imageClamped, same]
        exact clamped
      · rw [State.imageClamped, handed]
        exact fun g mem => Option.mem_some_iff.mp mem ▸ readImage_clamped _
    · have block := g.block.samples_pos
      rw [reset unloaded, replicate_get]
      refine ⟨le_rfl, ?_, Nat.zero_le _, Nat.zero_le _, Nat.zero_le _⟩
      change (0 : Int) ≤ 16 * (7 * g.block.samples - 1)
      omega

end Sys2Proof.Machine

/-! SUPPORT. What the operations of a station in service do to its attachment and to what waits to be sent: all but an
entry to LEAVING leave the attachment state, or end PROVING. -/

namespace Sys2Proof.Machine

/-! ## The arbiter -/

/-- An arbiter that has chosen again. -/
inductive Arbiter.Chooses : Arbiter → Arbiter → Prop
  | stands (a : Arbiter) : Arbiter.Chooses a a
  | chooses (since : Nat) (c d : Option FrameChoice) : Arbiter.Chooses (.ready since c) (.ready since d)

theorem Arbiter.Chooses.trans {a b c : Arbiter} (h : a.Chooses b) (k : b.Chooses c) : a.Chooses c := by
  cases h with
  | stands => exact k
  | chooses since x y => cases k <;> exact .chooses ..

theorem Arbiter.Chooses.disabled_iff {a b : Arbiter} (h : a.Chooses b) : b = .disabled ↔ a = .disabled := by
  cases h with
  | stands => rfl
  | chooses => exact ⟨nofun, nofun⟩

/-! ## Serving -/

/-- What an operation of a station in service leaves: its closure may change and PROVING end in ACTIVE; cues and audio join
in ACTIVE alone, and an announce that joins the slot is no final one. -/
structure State.Serves (s t : State) : Prop where
  stc : t.stc = s.stc
  atc : t.atc = { s.atc with state := t.atc.state, closure := t.atc.closure }
  state : t.atc.state = s.atc.state ∨ s.atc.state = .proving ∧ t.atc.state = .active
  closure : t.atc.state = .proving → t.atc.closure = s.atc.closure
  attached : s.attached = false → t.atc.closure = s.atc.closure
  timer : t.pru.timer = s.pru.timer
  cut : t.rfw.cut = s.rfw.cut
  arbiter : s.rfw.arbiter.Chooses t.rfw.arbiter
  own : t.atc.state ≠ .active → t.inq.cues = s.inq.cues ∧ t.inq.audio = s.inq.audio
  slot : ∀ f ∈ t.inq.slot, f ∈ s.inq.slot ∨ f.flags.leaving = false ∧ s.inService = true

section
variable {s t u : State}

theorem State.Serves.inService (h : State.Serves s t) : t.inService = s.inService := by
  rcases h.state with same | ⟨proving, active⟩
  · rw [State.inService, same, State.inService]
  · rw [State.inService, active, State.inService, proving]

theorem State.Serves.stays (h : State.Serves s t) : t.attached = s.attached := by
  rcases h.state with same | ⟨proving, active⟩
  · rw [State.attached, same, State.attached]
  · rw [State.attached, active, State.attached, proving]

theorem State.Serves.active (h : State.Serves s t) (active : s.atc.state = .active) : t.atc.state = .active := by
  rcases h.state with same | ⟨-, ended⟩
  · exact same.trans active
  · exact ended

/-- An operation that leaves the attachment, the arbiter and what waits in the Insertion Queues. -/
theorem State.Serves.of_eq (stc : t.stc = s.stc) (atc : t.atc = s.atc) (timer : t.pru.timer = s.pru.timer)
    (rfw : t.rfw = s.rfw) (inq : t.inq = s.inq) : State.Serves s t where
  stc := stc
  atc := by rw [atc]
  state := .inl (by rw [atc])
  closure _ := by rw [atc]
  attached _ := by rw [atc]
  timer := timer
  cut := by rw [rfw]
  arbiter := by rw [rfw]; exact .stands _
  own _ := by rw [inq]; exact ⟨rfl, rfl⟩
  slot f mem := .inl (by rwa [inq] at mem)

theorem State.Serves.refl (s : State) : State.Serves s s := .of_eq rfl rfl rfl rfl rfl

theorem State.Serves.trans (h : State.Serves s t) (k : State.Serves t u) : State.Serves s u where
  stc := k.stc.trans h.stc
  atc := by rw [k.atc, h.atc]
  state := by
    rcases k.state with same | ⟨proving, active⟩
    · rw [same]; exact h.state
    · rcases h.state with same | ⟨-, ended⟩
      · exact .inr ⟨same.symm.trans proving, active⟩
      · rw [ended] at proving; cases proving
  closure proving := by
    refine (k.closure proving).trans (h.closure ?_)
    rcases k.state with same | ⟨before, -⟩
    · exact same.symm.trans proving
    · exact before
  attached out := (k.attached (h.stays.trans out)).trans (h.attached out)
  timer := k.timer.trans h.timer
  cut := k.cut.trans h.cut
  arbiter := h.arbiter.trans k.arbiter
  own idle := by
    have before : t.atc.state ≠ .active := fun active => idle (k.active active)
    obtain ⟨cues, audio⟩ := k.own idle
    obtain ⟨cues', audio'⟩ := h.own before
    exact ⟨cues.trans cues', audio.trans audio'⟩
  slot f mem := by
    rcases k.slot f mem with old | ⟨final, service⟩
    · exact h.slot f old
    · exact .inr ⟨final, h.inService ▸ service⟩

theorem State.Serves.foldl {α : Type} {f : State → α → State} (h : ∀ s a, State.Serves s (f s a)) (l : List α)
    (s : State) : State.Serves s (l.foldl f s) := by
  induction l generalizing s with
  | nil => exact .refl s
  | cons a l ih => exact (h s a).trans (ih (f s a))

end

/-! ## The operations in service -/

/-- A change of the Insertion Queues in ACTIVE that leaves the slot. -/
theorem State.serves_ownJoins {s : State} (active : s.atc.state = .active) (q : Inq) (slot : q.slot = s.inq.slot) :
    State.Serves s (s.withInq q) :=
  { State.Serves.refl s with
    own := fun idle => absurd active idle
    slot := fun _ mem => .inl (slot ▸ mem) }

theorem State.serves_decideStart (s : State) : State.Serves s s.decideStart := by
  unfold State.decideStart
  split
  next since c ready =>
    exact { State.Serves.refl s with arbiter := by rw [ready]; exact .chooses .. }
  all_goals exact .refl s

theorem State.serves_appendRepeat (s : State) (o : List Octet) : State.Serves s (s.appendRepeat o) := by
  unfold State.appendRepeat
  split
  · exact { State.Serves.refl s with }
  · exact .of_eq rfl rfl rfl rfl rfl

theorem State.serves_closureOutcome (s : State) (c : Closure) : State.Serves s (s.closureOutcome c) := by
  unfold State.closureOutcome
  split
  next proving =>
    exact { State.Serves.refl s with
      atc := rfl, state := .inr ⟨proving, rfl⟩, closure := nofun
      attached := fun out => by simp [State.attached, proving] at out
      own := fun idle => absurd rfl idle }
  next active =>
    have stays : State.Serves s (s.withAtc { s.atc with closure := c }) := { State.Serves.refl s with
      atc := rfl
      closure := fun proving => by rw [State.withAtc_atc, active] at proving; cases proving
      attached := fun out => by simp [State.attached, active] at out }
    exact stays.trans (.of_eq (by simp) (by simp) (by simp) (by simp) (by simp))
  next leaving =>
    have stays : State.Serves s (s.withAtc { s.atc with closure := c }) := { State.Serves.refl s with
      atc := rfl
      closure := fun proving => by rw [State.withAtc_atc, leaving] at proving; cases proving
      attached := fun out => by simp [State.attached, leaving] at out }
    exact stays.trans (.of_eq (by simp) (by simp) (by simp) (by simp) (by simp))
  all_goals exact .refl s

/-- A cue reported undelivered changes the panel and the flags alone. -/
theorem State.serves_cueUndelivered (s : State) (r : CueReport) : State.Serves s (s.cueUndelivered r) :=
  .of_eq (by simp) (by simp) (by simp) (by simp) (by simp)

theorem State.serves_lossOutcome (s : State) (e : Entry) : State.Serves s (s.lossOutcome e) := by
  unfold State.lossOutcome
  split
  · exact s.serves_closureOutcome .opened
  · split
    · exact .of_eq rfl rfl rfl rfl rfl
    · exact .refl s
  · exact s.serves_cueUndelivered _
  · exact .refl s

theorem State.serves_returnOutcome (s : State) (e : Entry) (copied : Bool) :
    State.Serves s (s.returnOutcome e copied) := by
  unfold State.returnOutcome
  split
  · exact State.Serves.trans (t := s.recordTrip (s.ringTime - e.start)) (.of_eq rfl rfl rfl rfl rfl)
      (State.serves_closureOutcome _ .closed)
  · split
    · split
      · exact .of_eq rfl rfl rfl rfl rfl
      · exact .of_eq rfl rfl rfl rfl rfl
    · exact .refl s
  · split
    · exact .of_eq (by simp) (by simp) (by simp) (by simp) (by simp)
    · exact s.serves_cueUndelivered _
  · exact .refl s

theorem State.serves_skipHead (s : State) (e : Entry) : State.Serves s (s.skipHead e) :=
  State.Serves.trans (t := s.dropHead.countOne .skipLosses) (.of_eq rfl rfl rfl rfl rfl)
    (State.serves_lossOutcome _ e)

theorem State.serves_timeoutHeads (es : List Entry) (s : State) : State.Serves s (State.timeoutHeads es s) := by
  induction es generalizing s with
  | nil => exact .refl s
  | cons e es ih =>
    rw [State.timeoutHeads]
    split
    · have lost : State.Serves s ((s.dropHead.countOne .timeoutLosses).lossOutcome e) :=
        State.Serves.trans (t := s.dropHead.countOne .timeoutLosses) (.of_eq rfl rfl rfl rfl rfl)
          (State.serves_lossOutcome _ e)
      exact (lost.trans (.of_eq (t := s.timeoutHead e) rfl rfl rfl rfl rfl)).trans (ih _)
    · exact .refl s

theorem State.serves_headMatch (s : State) (e : Entry) (copied : Bool) : State.Serves s (s.headMatch e copied) :=
  (State.Serves.trans (s := s) (t := s.dropHead.countOne .ownReturned) (.of_eq rfl rfl rfl rfl rfl)
    (State.serves_returnOutcome _ e copied)).trans (State.serves_timeoutHeads _ _)

/-- What an announce takes of the Presence Unit and where it goes (R49, R68). -/
theorem State.announce_eq {s : State} {g : Image} (image : s.stc.image = some g) (leaving : Bool) :
    (s.announce leaving).pru = { s.pru with seq := s.pru.seq + 1 }
      ∧ (s.announce leaving).inq = { s.inq with slot := some (s.announceNow g leaving) } := by
  rw [State.announce, image]
  simp only [State.offerAnnounce]
  split <;> exact ⟨rfl, rfl⟩

/-- In service an announce joins the slot, and it is no final one. -/
theorem State.serves_announce {s : State} (service : s.inService = true) : State.Serves s (s.announce false) := by
  cases image : s.stc.image with
  | none =>
    rw [State.announce, image]
    exact .refl s
  | some g =>
    obtain ⟨pru, inq⟩ := State.announce_eq image false
    have frame := s.announce_frame false
    exact {
      stc := by simp
      atc := by simp
      state := .inl (by simp)
      closure := fun _ => by simp
      attached := fun _ => by simp
      timer := by rw [pru]
      cut := by simp
      arbiter := by simpa using .stands _
      own := fun _ => by rw [inq]; exact ⟨rfl, rfl⟩
      slot := fun f mem => by
        rw [inq] at mem
        obtain rfl := Option.some.inj mem
        exact .inr ⟨rfl, service⟩ }

theorem State.serves_resolveSource (g : Image) (s : State) (i : Fin 4) : State.Serves s (s.resolveSource g i) := by
  unfold State.resolveSource
  dsimp only
  split
  · exact .refl s
  · split <;> exact .of_eq rfl rfl rfl rfl rfl

theorem State.serves_resolveSubscription (g : Image) (s : State) (n : Fin 16) :
    State.Serves s (s.resolveSubscription g n) := by
  unfold State.resolveSubscription
  split
  · exact .refl s
  · dsimp only
    split
    · exact .refl s
    · exact .of_eq (by simp) (by simp) (by simp) (by simp) (by simp)

theorem State.serves_resolveClaims (s : State) : State.Serves s s.resolveClaims := by
  unfold State.resolveClaims
  split
  · exact .refl s
  next g _ =>
    dsimp only
    have sources := State.Serves.foldl (State.serves_resolveSource g) (List.finRange 4) s
    refine State.Serves.trans ?_ (State.Serves.foldl (State.serves_resolveSubscription g) (List.finRange 16) _)
    split
    next changed => exact sources.trans (State.serves_announce changed.2)
    next => exact sources

theorem State.serves_departure (s : State) (i : Fin 30) : State.Serves s (s.departure i) :=
  have resolved : State.Serves s (s.raise .peerExpired).resolveClaims :=
    State.Serves.trans (t := s.raise .peerExpired) (.of_eq rfl rfl rfl rfl rfl) (State.serves_resolveClaims _)
  resolved.trans (.of_eq (t := s.departure i) (by simp [State.departure]) (by simp [State.departure])
    (by simp [State.departure]) (by simp [State.departure]) (by simp [State.departure]))

theorem State.serves_takeAnnounce (s : State) (f : AnnounceFrame) (i : Fin 30) :
    State.Serves s (s.takeAnnounce f i) := by
  have set := fun p : Peer => State.Serves.of_eq (s := s) (t := s.setPeer i p) rfl rfl rfl rfl rfl
  unfold State.takeAnnounce
  dsimp only
  split
  · split
    · exact (set _).trans (State.serves_departure _ i)
    · exact set _
  · split
    · split
      · exact .of_eq rfl rfl rfl rfl rfl
      · exact State.Serves.trans (t := (s.setPeer i _).countBy .announcesMissed _) (.of_eq rfl rfl rfl rfl rfl)
          (State.serves_resolveClaims _)
    · exact State.Serves.trans (t := (s.setPeer i _).raise .peerArrived) (.of_eq rfl rfl rfl rfl rfl)
        (State.serves_resolveClaims _)

theorem State.serves_expirePeer (s : State) (i : Fin 30) : State.Serves s (s.expirePeer i) :=
  have left : State.Serves s ((s.setPeer i { s.pru.peers[i] with present := false }).departure i) :=
    State.Serves.trans (t := s.setPeer i { s.pru.peers[i] with present := false }) (.of_eq rfl rfl rfl rfl rfl)
      (State.serves_departure _ i)
  left.trans (State.serves_decideStart _)

theorem State.serves_offerToCopier (s : State) (f : Frame) : State.Serves s (s.offerToCopier f).1 := by
  cases f with
  | audio f =>
    exact .of_eq (by simp [State.offerToCopier]) (by simp [State.offerToCopier]) (by simp [State.offerToCopier])
      (by simp [State.offerToCopier]) (by simp [State.offerToCopier])
  | announce f =>
    simp only [State.offerToCopier]
    unfold State.offerToPru
    split
    · exact s.serves_takeAnnounce f _
    · exact .refl s
  | cue f =>
    exact .of_eq (by simp [State.offerToCopier]) (by simp [State.offerToCopier]) (by simp [State.offerToCopier])
      (by simp [State.offerToCopier]) (by simp [State.offerToCopier])

/-! ## Keys and block ticks -/

theorem State.serves_offerCue (s : State) (f : CueFrame) : State.Serves s (s.offerCue f) := by
  unfold State.offerCue
  split
  next room => exact State.serves_ownJoins room.1 _ rfl
  next => exact .of_eq (by simp) (by simp) (by simp) (by simp) (by simp)

theorem State.serves_buildCue (s : State) (d : Address) (k : CueCode) (p : BitVec 4) :
    State.Serves s (s.buildCue d k p) :=
  State.Serves.trans (t := s.withPos { s.pos with cueTag := s.pos.cueTag + 1 }) (.of_eq rfl rfl rfl rfl rfl)
    (State.serves_offerCue _ _)

theorem State.serves_keyEvent (s : State) (g : Image) (i : Fin 16) (press : Bool) :
    State.Serves s (s.keyEvent g i press) := by
  have set := fun (p : Fin 4) (f : Position → Position) =>
    State.Serves.of_eq (s := s) (t := s.setPosition p f) rfl rfl rfl rfl rfl
  unfold State.keyEvent State.venueKey State.galleryKey
  split
  · split
    · unfold State.pressTalk
      split
      · exact (set _ _).trans (State.serves_buildCue _ _ _ _)
      · exact .refl s
    · unfold State.releaseTalk
      dsimp only
      split
      · exact (set _ _).trans (State.serves_buildCue _ _ _ _)
      · exact set _ _
    · exact .of_eq (by simp) (by simp) (by simp) (by simp) (by simp)
    · exact .refl s
  · split
    · split
      · exact s.serves_buildCue _ _ _
      · exact .refl s
    · exact .refl s

theorem State.serves_judgeInput (g : Image) (raw : BitVec 16) (s : State) (i : Fin 16) :
    State.Serves s (s.judgeInput g raw i) := by
  have set := fun p : Pos => State.Serves.of_eq (s := s) (t := s.withPos p) rfl rfl rfl rfl rfl
  unfold State.judgeInput
  dsimp only
  split
  · exact set _
  split
  · exact set _
  · exact (set _).trans (State.serves_keyEvent _ g i _)

theorem State.serves_keyScan (s : State) (raw : BitVec 16) : State.Serves s (s.keyScan raw) := by
  unfold State.keyScan
  split
  · exact .refl s
  next g _ =>
    have judged := State.Serves.foldl (State.serves_judgeInput g raw) (List.finRange 16)
      (s.withPos { s.pos with scanAt := s.now })
    have scanned : State.Serves s (s.withPos { s.pos with scanAt := s.now }) := .of_eq rfl rfl rfl rfl rfl
    exact (scanned.trans judged).trans (State.serves_decideStart _)

theorem State.serves_offerAudio {s : State} (active : s.atc.state = .active) (f : AudioFrame) :
    State.Serves s (s.offerAudio f) := by
  unfold State.offerAudio
  split
  · exact State.serves_ownJoins active _ rfl
  · have dropped : State.Serves s ((s.countOne .audioDropped).raise .audioDropped) := .of_eq rfl rfl rfl rfl rfl
    exact dropped.trans (State.serves_ownJoins (dropped.active active) _ rfl)

theorem State.serves_assembleOne (g : Image) (gates : Vector (Vector Bool 4) 4) (statuses : Vector BlockStatus 2)
    (s : State) (i : Fin 4) : State.Serves s (s.assembleOne g gates statuses i) := by
  unfold State.assembleOne
  split
  · dsimp only
    split
    next active =>
      exact State.Serves.trans (t := s.withCap { s.cap with seqs := modifyAt s.cap.seqs i (· + 1) })
        (.of_eq rfl rfl rfl rfl rfl) (State.serves_offerAudio active _)
    next => exact .of_eq rfl rfl rfl rfl rfl
  · exact .refl s

theorem State.serves_fixStatus (b : Nat) (s : State) (q : Fin 2) : State.Serves s (s.fixStatus b q) := by
  unfold State.fixStatus
  dsimp only
  split <;> exact .of_eq rfl rfl rfl rfl rfl

theorem State.serves_buildingTick (s : State) (g : Image) : State.Serves s (s.buildingTick g) := by
  have fixed := State.Serves.foldl (State.serves_fixStatus g.block.samples) (List.finRange 2) s
  have built := fun u statuses =>
    State.Serves.foldl (State.serves_assembleOne g (s.gatesNow g) statuses) (List.finRange 4) u
  have begun := fun (u : State) (c : Cap) => State.Serves.of_eq (s := u) (t := u.withCap c) rfl rfl rfl rfl rfl
  unfold State.buildingTick
  dsimp only
  refine State.Serves.trans ?_ (State.serves_decideStart _)
  refine State.Serves.trans ?_ (begun _ _)
  exact fixed.trans (built _ _)

theorem State.serves_blockTick (s : State) : State.Serves s s.blockTick := by
  unfold State.blockTick
  split
  · exact .refl s
  next g _ =>
    have switched := fun u : State => State.Serves.of_eq (s := u) (t := u.switchHeadphones)
      (by simp) (by simp) (by simp) (by simp) (by simp)
    refine State.Serves.trans ?_ (switched _)
    split
    · exact .of_eq rfl rfl rfl rfl rfl
    split
    · exact .of_eq rfl rfl rfl rfl rfl
    · exact s.serves_buildingTick g

end Sys2Proof.Machine

/-! SUPPORT. The arbiter's acting on an event, and what an entry to LEAVING and a release of ATTACH leave of the ring's
items (02 R27 to R31, 03 R42 to R44). -/

namespace Sys2Proof.Machine

/-! ## The arbiter acts -/

/-- What is there to start depends on the queues, the transit list and the attachment state alone. -/
theorem State.hasFrame_congr {s t : State} (repeats : t.rfw.repeats = s.rfw.repeats)
    (transit : t.trm.transit = s.trm.transit) (state : t.atc.state = s.atc.state) (inq : t.inq = s.inq)
    (k : FrameChoice) : t.hasFrame k ↔ s.hasFrame k := by
  simp only [State.hasFrame, State.inService, repeats, transit, state, inq]

theorem State.startable_congr {s t : State} (repeats : t.rfw.repeats = s.rfw.repeats)
    (transit : t.trm.transit = s.trm.transit) (state : t.atc.state = s.atc.state) (inq : t.inq = s.inq) :
    t.startable = s.startable :=
  List.filter_congr fun k _ => decide_eq_decide.mpr (State.hasFrame_congr repeats transit state inq k)

/-- Acting on an event, the arbiter holds its choice while that is there, and else takes the first there is. -/
theorem State.decideStart_acts (s : State) : State.arbiterActs s.rfw s.decideStart := by
  rcases s.decideStart_eq with ⟨since, c, ready, eq⟩ | ⟨idle, eq⟩
  · refine ⟨by rw [eq], fun none => by simp [ready, Arbiter.chosen] at none, fun since' c' ready' => ?_⟩
    obtain ⟨rfl, rfl⟩ : since = since' ∧ c = c' := by simpa [ready] using ready'
    have frame : ∀ k, s.decideStart.hasFrame k ↔ s.hasFrame k :=
      State.hasFrame_congr (by rw [eq]) (by simp) (by simp) (by simp)
    have heads : s.decideStart.startable = s.startable :=
      State.startable_congr (by rw [eq]) (by simp) (by simp) (by simp)
    refine ⟨s.nextStart, by rw [eq], fun k held there => ?_, fun gone => ?_⟩
    · rw [frame, ← State.mayStart_iff] at there
      simp [State.nextStart, ready, held, there]
    · rw [heads, ← State.choice_eq, State.nextStart, ready]
      have dropped : c.filter s.mayStart = none := by
        refine Option.filter_eq_none_iff.mpr fun k held => ?_
        rw [State.mayStart_iff, ← frame]
        exact gone k held
      simp [dropped]
  · refine ⟨by rw [eq], fun _ => by rw [eq], fun since c ready => ?_⟩
    simp [ready, Arbiter.chosen] at idle

/-- An arbiter that has acted has acted in every state that gives it the same to look at. -/
theorem State.arbiterActs.congr {r : Rfw} {s t : State} (h : State.arbiterActs r s) (rfw : t.rfw = s.rfw)
    (transit : t.trm.transit = s.trm.transit) (state : t.atc.state = s.atc.state) (inq : t.inq = s.inq) :
    State.arbiterActs r t := by
  have frame := State.hasFrame_congr (s := s) (by rw [rfw]) transit state inq
  rw [State.arbiterActs, rfw, State.startable_congr (s := s) (by rw [rfw]) transit state inq]
  obtain ⟨others, idle, acts⟩ := h
  refine ⟨others, idle, fun since c ready => ?_⟩
  obtain ⟨d, eq, holds, takes⟩ := acts since c ready
  exact ⟨d, eq, fun k held there => holds k held ((frame k).mp there),
    fun gone => takes fun k held there => gone k held ((frame k).mpr there)⟩

/-- A frame is startable exactly when it is there to start. -/
theorem State.mem_startable {s : State} {k : FrameChoice} : k ∈ s.startable ↔ s.hasFrame k := by
  simp only [State.startable, List.mem_filter, decide_eq_true_eq, and_iff_right_iff_imp]
  cases k <;> simp

/-- An arbiter that has acted holds a sound choice. -/
theorem State.arbiterActs.choiceSound {r : Rfw} {t : State} (h : State.arbiterActs r t) : t.choiceSound := by
  obtain ⟨-, idle, acts⟩ := h
  intro d chosen
  cases arbiter : r.arbiter with
  | ready since c =>
    obtain ⟨d', ready, holds, takes⟩ := acts since c arbiter
    obtain rfl : d' = d := by simpa [ready, Arbiter.chosen] using chosen
    by_cases held : ∃ k, c = some k ∧ t.hasFrame k
    · obtain ⟨k, rfl, there⟩ := held
      rw [holds k rfl there]
      exact ⟨fun k' mem => by simp at mem; exact mem ▸ State.mem_startable.mpr there, nofun⟩
    · rw [takes fun k some there => held ⟨k, some, there⟩]
      exact ⟨fun k first => List.mem_of_mem_head? first, fun none => List.head?_eq_none_iff.mp none⟩
  | disabled | gap | sending =>
    have none := idle (by rw [arbiter]; rfl)
    rw [none, arbiter] at chosen
    cases chosen

theorem State.decideStart_choiceSound (s : State) : s.decideStart.choiceSound := s.decideStart_acts.choiceSound

/-- An arbiter out of READY holds no choice. -/
theorem State.choiceSound_of_idle {s : State} (idle : s.rfw.arbiter.chosen = none) : s.choiceSound := by
  intro c chosen
  rw [idle] at chosen
  cases chosen

/-- A choice stands sound while the arbiter and what it looks at stand. -/
theorem State.choiceSound_congr {s t : State} (sound : s.choiceSound) (arbiter : t.rfw.arbiter = s.rfw.arbiter)
    (repeats : t.rfw.repeats = s.rfw.repeats) (transit : t.trm.transit = s.trm.transit)
    (state : t.atc.state = s.atc.state) (inq : t.inq = s.inq) : t.choiceSound := by
  rw [State.choiceSound, State.startable_congr repeats transit state inq, arbiter]
  exact sound

/-! ## Entry to LEAVING -/

/-- The cues and audio that wait are discarded, and the announce in the slot stands (R50). -/
@[simp] theorem State.discardOwn_inq (s : State) : s.discardOwn.inq = ⟨[], s.inq.slot, []⟩ := by
  unfold State.discardOwn
  exact (foldl_keeps (p := State.inq) _ (fun b a => by simp) _ _).trans (by simp)

/-- The entry to LEAVING (R27). -/
@[simp] theorem State.enterLeaving_atc (s : State) (c : LeaveCause) :
    (s.enterLeaving c).atc
      = { s.atc with state := .leaving, leaveTimer := some s.now, leaveCause := some c, finalSent := false } := by
  simp [State.enterLeaving]

theorem State.enterLeaving_stc (s : State) (c : LeaveCause) : (s.enterLeaving c).stc = s.stc := by simp

/-- The announce timer stops, and with an image the final announce takes the next sequence (R69, R71). -/
theorem State.enterLeaving_pru (s : State) (c : LeaveCause) :
    (s.enterLeaving c).pru = { s.pru with
      timer := none, seq := if s.stc.image.isSome then s.pru.seq + 1 else s.pru.seq } := by
  simp only [State.enterLeaving, State.decideStart_frame]
  cases image : s.stc.image with
  | none => simp [State.announce, image]
  | some g =>
    rw [(State.announce_eq (g := g) (by simp [image]) true).1]
    simp

/-- The final announce takes the slot, and nothing else waits (R27, R50, R71). -/
theorem State.enterLeaving_inq {s : State} {g : Image} (image : s.stc.image = some g) (c : LeaveCause) :
    (s.enterLeaving c).inq = ⟨[], some (s.announceNow g true), []⟩ := by
  simp only [State.enterLeaving, State.decideStart_frame]
  rw [(State.announce_eq (g := g) (by simp [image]) true).2]
  simp [State.announceNow, State.address]

/-- Without an image no final announce is built. -/
theorem State.enterLeaving_inq_unloaded {s : State} (image : s.stc.image = none) (c : LeaveCause) :
    (s.enterLeaving c).inq = ⟨[], s.inq.slot, []⟩ := by
  simp [State.enterLeaving, State.announce, image]

/-- The arbiter acts on the change (R44). -/
theorem State.enterLeaving_acts (s : State) (c : LeaveCause) : State.arbiterActs s.rfw (s.enterLeaving c) := by
  have acts := ((((s.withAtc { s.atc with
    state := .leaving, leaveTimer := some s.now, leaveCause := some c, finalSent := false }).discardOwn.withPru
      { s.pru with timer := none }).announce true)).decideStart_acts
  simpa [State.enterLeaving] using acts

/-! ## The release -/

/-- The lists are emptied, and every heard state is UNKNOWN (R53, R65). -/
@[simp] theorem State.abandonTransit_trm (s : State) :
    s.abandonTransit.trm = { s.trm with transit := [], expired := [], heard := Vector.replicate 4 .unknown } := by
  simp [State.abandonTransit, foldl_keeps (p := State.trm) State.abandon (fun b a => by simp)]

/-- The station as ATTACH is released, before the cause of the leave decides where it goes (R30). -/
def State.letGo (s : State) : State :=
  (((s.abandonTransit.discardSlot.withRfw Rfw.reset).withRx Receiver.reset).withAtc s.atc.released)

/-- A release lets the ring go and then goes where its cause takes it (R30, R31, R33). -/
theorem State.release_eq (s : State) : s.release =
    if s.atc.leaveCause = some .conflict then s.letGo.withAtc s.letGo.atc.halt
    else s.letGo.restartClearing.withAtc { s.letGo.atc.startHoldoff s.now with state := .joining } := by
  have line : (((s.abandonTransit.discardSlot.withRfw Rfw.reset).withRx Receiver.reset).withAtc
      ((s.abandonTransit.discardSlot.withRfw Rfw.reset).withRx Receiver.reset).atc.released) = s.letGo := by
    simp [State.letGo]
  have now : s.letGo.restartClearing.now = s.now := by simp [State.letGo]
  have atc : s.letGo.restartClearing.atc = s.letGo.atc := by simp
  unfold State.release
  dsimp only
  rw [line]
  split
  next conflict => rw [if_pos conflict]
  next restart => rw [if_neg (by rw [restart]; decide), now, atc]
  next none => rw [if_neg (by rw [none]; decide), now, atc]

/-- The items of the ring, let go (R29, R30, R50, R53). -/
theorem State.letGo_items (s : State) :
    s.letGo.rfw = Rfw.reset ∧ s.letGo.rx = Receiver.reset ∧ s.letGo.inq = Inq.reset
      ∧ s.letGo.trm = { s.trm with transit := [], expired := [], heard := Vector.replicate 4 .unknown }
      ∧ s.letGo.stc = s.stc ∧ s.letGo.pru = s.pru ∧ s.letGo.atc = s.atc.released ∧ s.letGo.now = s.now
      ∧ s.letGo.cap = s.cap ∧ s.letGo.srx = s.srx ∧ s.letGo.ply = s.ply := by
  have slot : s.abandonTransit.discardSlot.inq = Inq.reset := rfl
  simp [State.letGo, slot]

/-- The clearing of a restart leaves the announce timer and the sequence (R33, R72, R85). -/
theorem State.restartClearing_pru (s : State) : s.restartClearing.pru = { s.pru with
    peers := Vector.replicate 30 Peer.reset, claims := Vector.replicate 4 .held
    reported := Vector.replicate 16 none } := by
  simp only [State.restartClearing, State.clearPositions_frame]
  exact foldl_keeps (p := State.pru) (fun (s : State) n => s.toUnlocked n .waiting none) (fun b a => by simp) _ _

/-- What a release leaves of the ring's items (R29 to R31). -/
theorem State.release_items (s : State) :
    s.release.rfw = Rfw.reset ∧ s.release.rx = Receiver.reset ∧ s.release.inq = Inq.reset
      ∧ s.release.trm = { s.trm with transit := [], expired := [], heard := Vector.replicate 4 .unknown }
      ∧ s.release.stc = s.stc ∧ s.release.pru.timer = s.pru.timer
      ∧ s.release.atc = if s.atc.leaveCause = some .conflict then s.atc.released.halt
          else { s.atc.released.startHoldoff s.now with state := .joining } := by
  obtain ⟨rfw, rx, inq, trm, stc, pru, atc, -⟩ := s.letGo_items
  rw [State.release_eq]
  split
  next => exact ⟨rfw, rx, inq, trm, stc, by rw [State.withAtc_pru, pru], by rw [State.withAtc_atc, atc]⟩
  next => simp [rfw, rx, inq, trm, stc, pru, atc, State.restartClearing_pru]

end Sys2Proof.Machine

/-! SUPPORT. Every step keeps the attachment sound, and a station that is not attached empty of the ring (02, 03). -/

namespace Sys2Proof.Machine

/-! ## What leaves the ring's items -/

/-- The load, the attachment, the arbiter and what is held of a ring stand. -/
structure State.RingStands (s t : State) : Prop where
  held : t.stc.held = s.stc.held
  load : t.stc.load = s.stc.load
  cause : t.stc.cause = s.stc.cause
  image : t.stc.image = s.stc.image
  atc : t.atc = s.atc
  rx : t.rx = s.rx
  rfw : t.rfw = s.rfw
  inq : t.inq = s.inq
  trm : t.trm = s.trm
  timer : t.pru.timer = s.pru.timer

section
variable {s t : State}

theorem State.RingStands.attached (h : State.RingStands s t) : t.attached = s.attached := by
  rw [State.attached, h.atc, State.attached]

theorem State.RingStands.inService (h : State.RingStands s t) : t.inService = s.inService := by
  rw [State.inService, h.atc, State.inService]

theorem State.RingStands.attachmentSound (h : State.RingStands s t) (sound : s.attachmentSound) :
    t.attachmentSound := by
  obtain ⟨load, line, timers, choice⟩ := sound
  refine ⟨?_, ?_, ?_, ?_⟩
  · simpa only [State.loadSound, h.held, h.load, h.cause, h.image, h.atc] using load
  · simpa only [State.lineSound, State.resetCutting, h.attached, h.atc, h.rfw] using line
  · simpa only [State.timersSound, h.inService, h.timer, h.atc, h.rfw] using timers
  · exact State.choiceSound_congr choice (by rw [h.rfw]) (by rw [h.rfw]) (by rw [h.trm]) (by rw [h.atc]) h.inq

theorem State.RingStands.emptySound (h : State.RingStands s t) (sound : s.emptySound) : t.emptySound := by
  simpa only [State.emptySound, h.attached, h.atc, h.rx, h.rfw, h.inq, h.trm] using sound

end

/-! ## What serves -/

theorem Arbiter.Chooses.sending {a b : Arbiter} (h : a.Chooses b) {l m : List (List Octet)} {c d : Option Cut} :
    Rfw.sending ⟨m, b, d⟩ = Rfw.sending ⟨l, a, c⟩ := by
  cases h with
  | stands => cases a <;> rfl
  | chooses => rfl

section
variable {s t : State}

theorem State.Serves.detached_iff (h : State.Serves s t) : t.atc.state = .detached ↔ s.atc.state = .detached := by
  rcases h.state with same | ⟨proving, active⟩
  · rw [same]
  · simp [proving, active]

theorem State.Serves.joining_iff (h : State.Serves s t) : t.atc.state = .joining ↔ s.atc.state = .joining := by
  rcases h.state with same | ⟨proving, active⟩
  · rw [same]
  · simp [proving, active]

theorem State.Serves.leaving_iff (h : State.Serves s t) : t.atc.state = .leaving ↔ s.atc.state = .leaving := by
  rcases h.state with same | ⟨proving, active⟩
  · rw [same]
  · simp [proving, active]

theorem State.Serves.halted_iff (h : State.Serves s t) : t.atc.state = .halted ↔ s.atc.state = .halted := by
  rcases h.state with same | ⟨proving, active⟩
  · rw [same]
  · simp [proving, active]

theorem State.Serves.loadSound (h : State.Serves s t) (sound : s.loadSound) : t.loadSound := by
  rw [State.loadSound, h.stc, h.detached_iff, h.halted_iff]
  exact sound

theorem State.Serves.lineSound (h : State.Serves s t) (sound : s.lineSound) : t.lineSound := by
  have attach : t.atc.attach = s.atc.attach := by rw [h.atc]
  have timer : t.atc.leaveTimer = s.atc.leaveTimer := by rw [h.atc]
  have sending : t.rfw.sending = s.rfw.sending := h.arbiter.sending
  rw [State.lineSound, State.resetCutting, h.stays, h.cut, h.arbiter.disabled_iff, sending, attach, timer, h.leaving_iff]
  exact sound

theorem State.Serves.timersSound (h : State.Serves s t) (sound : s.timersSound) : t.timersSound := by
  have holdoff : t.atc.holdoff = s.atc.holdoff := by rw [h.atc]
  have idle : t.atc.awaitIdle = s.atc.awaitIdle := by rw [h.atc]
  have due : t.atc.attachDue = s.atc.attachDue := by rw [h.atc]
  have timer : t.atc.leaveTimer = s.atc.leaveTimer := by rw [h.atc]
  have cause : t.atc.leaveCause = s.atc.leaveCause := by rw [h.atc]
  have final : t.atc.finalSent = s.atc.finalSent := by rw [h.atc]
  rw [State.timersSound, h.timer, h.inService, h.cut, holdoff, idle, due, timer, cause, final, ne_eq, ne_eq,
    h.joining_iff, h.leaving_iff]
  exact sound

/-- A station in service keeps the attachment sound once its arbiter has acted. -/
theorem State.Serves.attachmentSound (h : State.Serves s t) (sound : s.attachmentSound) (choice : t.choiceSound) :
    t.attachmentSound := by
  obtain ⟨load, line, timers, -⟩ := sound
  exact ⟨h.loadSound load, h.lineSound line, h.timersSound timers, choice⟩

theorem State.Serves.emptySound (h : State.Serves s t) (sound : s.emptySound)
    (idle : s.attached = false → t.rfw.repeats = s.rfw.repeats ∧ t.rx = s.rx ∧ t.trm = s.trm) : t.emptySound := by
  obtain ⟨empty, own, final, proving⟩ := sound
  refine ⟨fun out => ?_, fun notActive => ?_, fun f mem => ?_, fun now => ?_⟩
  · rw [h.stays] at out
    obtain ⟨repeats, rx, trm⟩ := idle out
    obtain ⟨noRepeats, noFrame, inq, transit, expired, heard, opened⟩ := empty out
    have notActive : t.atc.state ≠ .active := fun active => by
      have attached : t.attached = true := by rw [State.attached, active]
      rw [h.stays, out] at attached
      cases attached
    have noService : s.inService = false := by
      revert out
      rw [State.attached, State.inService]
      cases s.atc.state <;> simp
    obtain ⟨cues, audio⟩ := h.own notActive
    have slot : t.inq.slot = none := by
      refine Option.eq_none_iff_forall_not_mem.mpr fun f mem => ?_
      rcases h.slot f mem with old | ⟨-, service⟩
      · rw [inq] at old
        cases old
      · rw [noService] at service
        cases service
    have queues : t.inq = ⟨t.inq.cues, t.inq.slot, t.inq.audio⟩ := rfl
    rw [repeats, rx, trm, queues, cues, audio, slot, h.attached out, inq]
    exact ⟨noRepeats, noFrame, rfl, transit, expired, heard, opened⟩
  · have before : s.atc.state ≠ .active := fun active => notActive (h.active active)
    obtain ⟨cues, audio⟩ := h.own notActive
    rw [cues, audio]
    exact own before
  · rw [h.leaving_iff]
    rcases h.slot f mem with old | ⟨noFinal, service⟩
    · exact final f old
    · have notLeaving : s.atc.state ≠ .leaving := fun leaving => by simp [State.inService, leaving] at service
      simp [noFinal, notLeaving]
  · rw [h.closure now]
    rcases h.state with same | ⟨before, -⟩
    · exact proving (same.symm.trans now)
    · exact proving before

end

/-! ## What the soundness of the attachment gives -/

section
variable {s : State}

/-- A station neither detached nor halted has its configuration loaded. -/
theorem State.loaded_of_loadSound (sound : s.loadSound) (detached : s.atc.state ≠ .detached)
    (halted : s.atc.state ≠ .halted) : s.stc.load = .loaded := by
  obtain ⟨-, -, -, out, faulted⟩ := sound
  cases load : s.stc.load with
  | loading => exact absurd (out.mpr (.inl load)) detached
  | maintenance => exact absurd (out.mpr (.inr load)) detached
  | faulted => exact absurd (faulted load) halted
  | loaded => rfl

theorem State.notDetached_of_attached (attached : s.attached = true) :
    s.atc.state ≠ .detached ∧ s.atc.state ≠ .halted ∧ s.atc.state ≠ .joining := by
  revert attached
  rw [State.attached]
  cases s.atc.state <;> simp

theorem State.attached_of_inService (service : s.inService = true) : s.attached = true := by
  revert service
  rw [State.attached, State.inService]
  cases s.atc.state <;> simp

theorem State.inService_iff : s.inService = true ↔ s.atc.state = .proving ∨ s.atc.state = .active := by
  rw [State.inService]
  cases s.atc.state <;> simp

/-- Between frames no frame is being cut off. -/
theorem State.uncut_of_lineSound (sound : s.lineSound) (idle : s.rfw.sending = false) : s.rfw.cut = none := by
  obtain ⟨-, -, cutting, -⟩ := sound
  cases cut : s.rfw.cut with
  | none => rfl
  | some _ =>
    rw [cutting (by simp [cut])] at idle
    cases idle

/-- An arbiter at work on an uncut line is that of a station attached. -/
theorem State.attached_of_lineSound (sound : s.lineSound) (works : s.rfw.arbiter ≠ .disabled) (uncut : s.rfw.cut = none) :
    s.attached = true := by
  obtain ⟨attach, disabled, -⟩ := sound
  have asserted : s.atc.attach = true := by
    cases released : s.atc.attach with
    | true => rfl
    | false => exact absurd (disabled.mpr released) works
  rcases attach.mp asserted with attached | ⟨t, mem, -⟩
  · exact attached
  · rw [uncut] at mem
    cases mem

end

/-! ## Reset and start-up -/

theorem State.assertReset_attachmentSound (s : State) : s.assertReset.attachmentSound := by
  unfold State.assertReset
  split
  next cut =>
    have sending : s.rfw.sending = true := ((Bool.and_eq_true ..).mp cut).2
    have busy : Rfw.sending ⟨[], s.rfw.arbiter, some s.resetCut⟩ = true := sending
    have works : s.rfw.arbiter ≠ .disabled := fun disabled => by simp [Rfw.sending, disabled] at sending
    have byReset : s.resetCut.byReset = true := by unfold State.resetCut; split <;> rfl
    have idle : s.rfw.arbiter.chosen = none := by
      cases arbiter : s.rfw.arbiter with
      | ready => simp [Rfw.sending, arbiter] at sending
      | disabled | gap | sending => rfl
    refine ⟨?_, ⟨?_, ?_, fun _ => busy, fun _ => rfl, fun t mem uncut => ?_⟩, ?_, State.choiceSound_of_idle idle⟩
    · simp [State.loadSound, State.resetItems, Stc.reset, Atc.reset]
    · exact ⟨fun _ => .inr ⟨s.resetCut, rfl, byReset⟩, fun _ => rfl⟩
    · exact ⟨fun disabled => absurd disabled works, nofun⟩
    · obtain rfl := Option.some.inj mem
      rw [byReset] at uncut
      cases uncut
    · simp [State.timersSound, State.resetItems, State.reset, Atc.reset, Pru.reset, State.inService]
  next =>
    refine ⟨?_, ?_, ?_, State.choiceSound_of_idle rfl⟩
    · simp [State.loadSound, State.resetItems, Stc.reset, Atc.reset]
    · simp [State.lineSound, State.resetItems, State.reset, Atc.reset, Rfw.reset, State.attached, State.resetCutting]
    · simp [State.timersSound, State.resetItems, State.reset, Atc.reset, Pru.reset, State.inService]

theorem State.resetAbortDone_attachmentSound {s : State} (sound : s.attachmentSound) {since : Nat}
    (cut : s.rfw.cut = some ⟨since, true⟩) : s.resetAbortDone.attachmentSound := by
  obtain ⟨load, ⟨-, -, -, out, -⟩, timers, -⟩ := sound
  have unattached : s.attached = false := out ⟨_, cut, rfl⟩
  have notLeaving : s.atc.state ≠ .leaving := fun leaving => by simp [State.attached, leaving] at unattached
  obtain ⟨announce, joining, idle, -, stops⟩ := timers
  refine ⟨load, ?_, ⟨announce, joining, idle, fun leaving => absurd leaving notLeaving, stops⟩,
    State.choiceSound_of_idle rfl⟩
  have same : s.resetAbortDone.attached = false := unattached
  have released : s.resetAbortDone.atc.attach = false := rfl
  have disabled : s.resetAbortDone.rfw.arbiter = .disabled := rfl
  have uncut : s.resetAbortDone.rfw.cut = none := rfl
  simp [State.lineSound, State.resetCutting, same, released, disabled, uncut]

theorem State.releaseReset_attachmentSound {s : State} (sound : s.attachmentSound) (held : s.stc.held = true)
    (straps : Straps) : (s.releaseReset straps).attachmentSound := by
  obtain ⟨⟨loading, image, cause, detached, faulted⟩, line, timers, choice⟩ := sound
  have after : (s.releaseReset straps).stc.load = if straps.maint then .maintenance else .loading := rfl
  have before := loading held
  refine ⟨⟨nofun, image.trans ?_, cause.trans ?_, detached.trans ?_, ?_⟩, line, timers, choice⟩
  all_goals
    rw [after]
    cases straps.maint <;> simp [before]

/-- The arbiter of a station that is not attached has no frame to choose: it is DISABLED, or a reset cuts its frame off. -/
theorem State.idle_of_unattached {s : State} (sound : s.lineSound) (unattached : s.attached = false) :
    s.rfw.arbiter.chosen = none := by
  obtain ⟨attach, disabled, busy, -⟩ := sound
  cases asserted : s.atc.attach with
  | false => rw [disabled.mpr asserted]; rfl
  | true =>
    rcases attach.mp asserted with attached | ⟨t, mem, -⟩
    · rw [unattached] at attached
      cases attached
    · have sending := busy (by rw [Option.mem_def.mp mem]; rfl)
      cases arbiter : s.rfw.arbiter with
      | ready => simp [Rfw.sending, arbiter] at sending
      | disabled | gap | sending => rfl

/-- What a good load hands on (R22, R182). -/
theorem State.goodLoad_items (s : State) (g : Image) :
    (s.goodLoad g).stc = { s.stc with load := .loaded, image := some g }
      ∧ (s.goodLoad g).atc = { s.atc.startHoldoff s.now with state := .joining }
      ∧ (s.goodLoad g).rfw = s.rfw ∧ (s.goodLoad g).pru = s.pru ∧ (s.goodLoad g).rx = s.rx
      ∧ (s.goodLoad g).inq = s.inq ∧ (s.goodLoad g).trm = s.trm := by
  unfold State.goodLoad
  dsimp only
  split <;> simp

/-- The station enters HALTED or JOINING from DETACHED, with nothing of the line changed. -/
theorem State.endLoad_attachmentSound {s : State} (sound : s.attachmentSound) (released : s.stc.held = false)
    (loading : s.stc.load = .loading) : s.endLoad.attachmentSound := by
  obtain ⟨⟨-, image, cause, detached, -⟩, lineSound, ⟨announce, -, -, -, stops⟩, -⟩ := sound
  have out : s.atc.state = .detached := detached.mpr (.inl loading)
  have unattached : s.attached = false := by rw [State.attached, out]
  have idle := State.idle_of_unattached lineSound unattached
  have noImage : s.stc.image = none := by
    rw [← Option.not_isSome_iff_eq_none, image, loading]
    decide
  have noCause : s.stc.cause = none := by
    rw [← Option.not_isSome_iff_eq_none, cause, loading]
    decide
  have noTimer : s.pru.timer = none := by
    rw [← Option.not_isSome_iff_eq_none, announce, State.inService, out]
    decide
  obtain ⟨leaveTimer, leaveCause, finalSent⟩ := stops (by simp [out])
  obtain ⟨attach, disabled, busy, -, cut⟩ := lineSound
  have uncut : ∀ t ∈ s.rfw.cut, t.byReset ≠ false := fun t mem ended => by
    have leaving := (cut t mem ended).1
    rw [out] at leaving
    cases leaving
  have line : ∀ u : State, u.attached = false → u.atc.attach = s.atc.attach → u.rfw = s.rfw → u.lineSound := by
    intro u outside same rfw
    rw [State.lineSound, State.resetCutting, outside, same, rfw]
    rw [unattached] at attach
    exact ⟨attach, disabled, busy, fun _ => rfl, fun t mem ended => absurd ended (uncut t mem)⟩
  unfold State.endLoad
  split
  next fault _ =>
    refine ⟨?_, line _ rfl rfl rfl, ?_, State.choiceSound_of_idle idle⟩
    · simp [State.loadSound, State.loadFaulted, Atc.halt, noImage, released]
    · simp [State.timersSound, State.loadFaulted, Atc.halt, State.inService, noTimer, leaveTimer, leaveCause, finalSent]
  next =>
    obtain ⟨stc, atc, rfw, -⟩ := s.goodLoad_items (readImage s.stc.memory.record)
    refine ⟨?_, line _ ?_ ?_ rfw, ?_, State.choiceSound_of_idle (by rw [rfw]; exact idle)⟩
    · simp [State.loadSound, stc, atc, noCause, released]
    · simp [State.attached, atc]
    · simp [atc, Atc.startHoldoff]
    · simp [State.timersSound, State.inService, atc, Atc.startHoldoff, noTimer, leaveTimer, leaveCause, finalSent]

/-- A station that holds nothing of a ring. -/
theorem State.emptySound_of_empty {t : State} (repeats : t.rfw.repeats = []) (rx : t.rx = Receiver.reset)
    (inq : t.inq = Inq.reset) (transit : t.trm.transit = []) (expired : t.trm.expired = [])
    (heard : ∀ i : Fin 4, t.trm.heard[i] = .unknown) (closure : t.atc.closure = .opened) : t.emptySound := by
  refine ⟨fun _ => ⟨repeats, rx, inq, transit, expired, heard, closure⟩, fun _ => ?_, fun f mem => ?_, fun _ => closure⟩
  · rw [inq]
    exact ⟨rfl, rfl⟩
  · rw [inq] at mem
    cases mem

theorem State.endLoad_emptySound {s : State} (sound : s.emptySound) (loadSound : s.loadSound)
    (loading : s.stc.load = .loading) : s.endLoad.emptySound := by
  obtain ⟨-, -, -, detached, -⟩ := loadSound
  have out : s.atc.state = .detached := detached.mpr (.inl loading)
  obtain ⟨empty, -⟩ := sound
  obtain ⟨repeats, rx, inq, transit, expired, heard, closure⟩ := empty (by rw [State.attached, out])
  unfold State.endLoad
  split
  next => exact State.emptySound_of_empty repeats rx inq transit expired heard closure
  next =>
    obtain ⟨-, atc, rfw, -, rx', inq', trm⟩ := s.goodLoad_items (readImage s.stc.memory.record)
    exact State.emptySound_of_empty (by rw [rfw, repeats]) (by rw [rx', rx]) (by rw [inq', inq]) (by rw [trm, transit])
      (by rw [trm, expired]) (by rw [trm]; exact heard) (by rw [atc]; exact closure)

/-! ## The receive line and joining -/

/-- A change of the line's watch alone. -/
theorem State.attachmentSound_withAtc {s : State} (sound : s.attachmentSound) (a : Atc) (state : a.state = s.atc.state)
    (attach : a.attach = s.atc.attach) (leave : a.leaveTimer = s.atc.leaveTimer) (cause : a.leaveCause = s.atc.leaveCause)
    (final : a.finalSent = s.atc.finalSent)
    (joins : a.state = .joining → (a.holdoff.isSome ↔ a.awaitIdle = false ∧ a.attachDue = false))
    (away : a.state ≠ .joining → a.holdoff = none ∧ a.awaitIdle = false ∧ a.attachDue = false) :
    (s.withAtc a).attachmentSound := by
  obtain ⟨load, line, timers, choice⟩ := sound
  have stays : (s.withAtc a).attached = s.attached := by simp [State.attached, state]
  have service : (s.withAtc a).inService = s.inService := by simp [State.inService, state]
  refine ⟨?_, ?_, ?_, State.choiceSound_congr choice rfl rfl rfl state rfl⟩
  · simpa only [State.loadSound, State.withAtc_atc, State.withAtc_stc, state] using load
  · simpa only [State.lineSound, State.resetCutting, stays, State.withAtc_atc, State.withAtc_rfw, attach, state, leave]
      using line
  · obtain ⟨announce, -, -, leaving, stops⟩ := timers
    refine ⟨by rw [service]; exact announce, joins, away, ?_, ?_⟩
    · simpa only [State.withAtc_atc, State.withAtc_rfw, state, leave, cause] using leaving
    · simpa only [State.withAtc_atc, state, leave, cause, final] using stops

theorem State.emptySound_withAtc {s : State} (sound : s.emptySound) (a : Atc) (state : a.state = s.atc.state)
    (closure : a.closure = s.atc.closure) : (s.withAtc a).emptySound := by
  have stays : (s.withAtc a).attached = s.attached := by simp [State.attached, state]
  simpa only [State.emptySound, stays, State.withAtc_atc, State.withAtc_rfw, State.withAtc_rx, State.withAtc_inq,
    State.withAtc_trm, state, closure] using sound

/-- The receiver, the panel and the flags are no matter of the attachment. -/
theorem State.attachmentSound_congr {s t : State} (sound : s.attachmentSound) (stc : t.stc = s.stc) (atc : t.atc = s.atc)
    (rfw : t.rfw = s.rfw) (inq : t.inq = s.inq) (transit : t.trm.transit = s.trm.transit)
    (timer : t.pru.timer = s.pru.timer) : t.attachmentSound :=
  (State.Serves.of_eq stc atc timer rfw inq).attachmentSound sound
    (State.choiceSound_congr sound.2.2.2 (by rw [rfw]) (by rw [rfw]) transit (by rw [atc]) inq)

/-- An attached station's receiver, panel and flags are no matter of what waits. -/
theorem State.emptySound_congr {s t : State} (sound : s.emptySound) (attached : s.attached = true) (atc : t.atc = s.atc)
    (inq : t.inq = s.inq) : t.emptySound := by
  obtain ⟨-, own, final, proving⟩ := sound
  refine ⟨fun out => ?_, by rw [atc, inq]; exact own, by rw [atc, inq]; exact final, by rw [atc]; exact proving⟩
  rw [State.attached, atc, ← State.attached, attached] at out
  cases out

/-! Units of the line. -/

theorem State.watching_withAtc (s : State) (a : Atc) (state : a.state = s.atc.state) :
    (s.withAtc a).watching = s.watching := by
  simp [State.watching, state]

/-- The ATC takes the unit time while it watches the line. -/
theorem State.takeUnit_atc (s : State) (e : LineEvent) :
    (s.takeUnit e).atc = if s.watching then Atc.takeUnit { s.atc with unitEnd := s.now } e
      else { s.atc with unitEnd := s.now } := by
  simp only [State.takeUnit, State.assemble_frame]
  rw [State.watching_withAtc s { s.atc with unitEnd := s.now } rfl]
  split <;> simp

/-- The frame receiver takes the unit time in the attached states (R5). -/
theorem State.takeUnit_rx (s : State) (e : LineEvent) :
    (s.takeUnit e).rx = if s.attached then (s.rx.takeUnit e).1 else s.rx := by
  have watched : ∀ u : State, u.rx = s.rx → u.atc.state = s.atc.state →
      (u.assemble e).rx = if s.attached then (s.rx.takeUnit e).1 else s.rx := by
    intro u rx state
    have stays : u.attached = s.attached := by simp [State.attached, state]
    unfold State.assemble
    rw [stays, rx]
    split
    · dsimp only
      split <;> rfl
    · exact rx
  refine watched _ ?_ ?_
  · split <;> rfl
  · split <;> rfl

theorem State.takeUnit_state (s : State) (e : LineEvent) : (s.takeUnit e).atc.state = s.atc.state := by
  rw [State.takeUnit_atc]
  split <;> rfl

theorem State.takeUnit_attachmentSound {s : State} (sound : s.attachmentSound) (e : LineEvent) :
    (s.takeUnit e).attachmentSound := by
  have ⟨_, _, ⟨_, joins, away, _⟩, _⟩ := sound
  refine State.attachmentSound_congr (s := s.withAtc (s.takeUnit e).atc) ?_ (by simp) rfl (by simp) (by simp) (by simp)
    (by simp)
  rw [State.takeUnit_atc]
  split
  · refine State.attachmentSound_withAtc sound _ rfl rfl rfl rfl rfl (fun joining => ?_) (fun other => ?_)
    · refine (joins joining).trans ?_
      cases idle : s.atc.awaitIdle <;> simp [Atc.takeUnit, idle]
    · obtain ⟨holdoff, idle, due⟩ := away other
      simp [Atc.takeUnit, holdoff, idle, due]
  · exact State.attachmentSound_withAtc sound _ rfl rfl rfl rfl rfl joins away

theorem State.takeUnit_emptySound {s : State} (sound : s.emptySound) (e : LineEvent) : (s.takeUnit e).emptySound := by
  have watched : (s.withAtc (s.takeUnit e).atc).emptySound :=
    State.emptySound_withAtc sound _ (s.takeUnit_state e)
      (by rw [State.takeUnit_atc]; split <;> rfl)
  cases attached : s.attached with
  | true =>
    refine State.emptySound_congr watched ?_ rfl (by simp)
    simpa [State.attached, s.takeUnit_state e] using attached
  | false =>
    have rx : (s.takeUnit e).rx = s.rx := by rw [State.takeUnit_rx, attached]; rfl
    simpa [State.emptySound, State.attached, rx] using watched

/-- Upstream loss changes the watch, and of a joining station that waits for an idle run the holdoff (R21, R23). -/
theorem State.declareLoss_attachmentSound {s : State} (sound : s.attachmentSound) : s.declareLoss.attachmentSound := by
  have ⟨_, _, ⟨_, joins, away, _⟩, _⟩ := sound
  have lost := State.attachmentSound_withAtc sound { s.atc with upstream := .loss, quietUnits := 0, validRun := 0 }
    rfl rfl rfl rfl rfl joins away
  unfold State.declareLoss
  dsimp only
  split
  · exact State.attachmentSound_congr lost (by simp) (by simp) (by simp) (by simp) (by simp) (by simp)
  split
  next waits =>
    exact State.attachmentSound_withAtc lost _ rfl rfl rfl rfl rfl (fun _ => by simp [Atc.startHoldoff])
      (fun other => absurd waits.1 other)
  next => exact lost

theorem State.declareLoss_emptySound {s : State} (sound : s.emptySound) : s.declareLoss.emptySound := by
  have lost := State.emptySound_withAtc sound { s.atc with upstream := .loss, quietUnits := 0, validRun := 0 } rfl rfl
  unfold State.declareLoss
  dsimp only
  split
  next attached => exact State.emptySound_congr lost attached (by simp) (by simp)
  next =>
    split
    · exact State.emptySound_withAtc lost _ rfl rfl
    · exact lost

theorem State.declareRestoral_attachmentSound {s : State} (sound : s.attachmentSound) :
    s.declareRestoral.attachmentSound := by
  have ⟨_, _, ⟨_, joins, away, _⟩, _⟩ := sound
  have restored := State.attachmentSound_withAtc sound { s.atc with upstream := .present, quietUnits := 0, validRun := 0 }
    rfl rfl rfl rfl rfl joins away
  exact State.attachmentSound_congr restored (by simp [State.declareRestoral]) (by simp [State.declareRestoral])
    (by simp [State.declareRestoral]) (by simp [State.declareRestoral]) (by simp [State.declareRestoral])
    (by simp [State.declareRestoral])

/-- The outcome of the holdoff leaves the station one of the attach, the wait for an idle run, and the holdoff (R23). -/
theorem State.holdoffExpired_attachmentSound {s : State} (sound : s.attachmentSound) (joining : s.atc.state = .joining)
    {start : Nat} (holdoff : s.atc.holdoff = some start) : s.holdoffExpired.attachmentSound := by
  have ⟨_, _, ⟨_, joins, _⟩, _⟩ := sound
  obtain ⟨idle, due⟩ := (joins joining).mp (by rw [holdoff]; rfl)
  unfold State.holdoffExpired
  dsimp only
  split
  · exact State.attachmentSound_withAtc sound _ rfl rfl rfl rfl rfl (fun _ => by simp) (fun other => absurd joining other)
  split
  · exact State.attachmentSound_withAtc sound _ rfl rfl rfl rfl rfl (fun _ => by simp) (fun other => absurd joining other)
  · exact State.attachmentSound_withAtc sound _ rfl rfl rfl rfl rfl (fun _ => by simp [Atc.startHoldoff])
      (fun other => absurd joining other)

theorem State.holdoffExpired_emptySound {s : State} (sound : s.emptySound) : s.holdoffExpired.emptySound := by
  unfold State.holdoffExpired
  dsimp only
  split
  · exact State.emptySound_withAtc sound _ rfl rfl
  split <;> exact State.emptySound_withAtc sound _ rfl rfl

/-! ## The attach -/

/-- What an attach gives (R24, R41, R67, R69). -/
theorem State.attachNow_items {s : State} {g : Image} (image : s.stc.image = some g) :
    s.attachNow.atc = { s.atc with
        attach := true, state := .proving, closure := .opened, holdoff := none, awaitIdle := false, attachDue := false }
      ∧ s.attachNow.pru = { s.pru with timer := some s.now, seq := s.pru.seq + 1 }
      ∧ s.attachNow.inq = { s.inq with slot := some ({ s.announceNow g false with
          flags := ⟨false, s.atc.upstream == .loss, false⟩ } : AnnounceFrame) }
      ∧ s.attachNow.rfw = ⟨[], .gap s.now, none⟩ ∧ s.attachNow.stc = s.stc ∧ s.attachNow.trm = Trm.reset
      ∧ s.attachNow.rx = Receiver.reset := by
  unfold State.attachNow
  dsimp only
  have loaded : (((((s.withAtc { s.atc with
      attach := true, state := .proving, closure := .opened, holdoff := none, awaitIdle := false,
      attachDue := false }).withTrm Trm.reset).withRx Receiver.reset).withRfw
        { Rfw.reset with arbiter := .gap s.now }).withPru { s.pru with timer := some s.now }).stc.image = some g := image
  obtain ⟨pru, inq⟩ := State.announce_eq loaded false
  refine ⟨by simp, pru, inq, by simp [Rfw.reset], by simp, by simp, by simp⟩

theorem State.attachNow_attachmentSound {s : State} (sound : s.attachmentSound) (joining : s.atc.state = .joining) :
    s.attachNow.attachmentSound := by
  obtain ⟨loadSound, -, ⟨-, -, -, -, stops⟩, -⟩ := sound
  have loaded := State.loaded_of_loadSound loadSound (by simp [joining]) (by simp [joining])
  obtain ⟨held, image, cause, -⟩ := loadSound
  obtain ⟨g, some⟩ := Option.isSome_iff_exists.mp (image.mpr loaded)
  obtain ⟨atc, pru, -, rfw, stc, -⟩ := State.attachNow_items some
  obtain ⟨leaveTimer, leaveCause, finalSent⟩ := stops (by simp [joining])
  refine ⟨?_, ?_, ?_, State.choiceSound_of_idle (by rw [rfw]; rfl)⟩
  · rw [State.loadSound, stc, atc]
    exact ⟨held, image, cause, by simp [loaded], by simp [loaded]⟩
  · simp [State.lineSound, State.resetCutting, State.attached, atc, rfw]
  · simp [State.timersSound, State.inService, atc, pru, leaveTimer, leaveCause, finalSent]

theorem State.attachNow_emptySound {s : State} (sound : s.emptySound) (loadSound : s.loadSound)
    (joining : s.atc.state = .joining) : s.attachNow.emptySound := by
  have loaded := State.loaded_of_loadSound loadSound (by simp [joining]) (by simp [joining])
  obtain ⟨-, image, -⟩ := loadSound
  obtain ⟨g, some⟩ := Option.isSome_iff_exists.mp (image.mpr loaded)
  obtain ⟨atc, -, inq, -⟩ := State.attachNow_items some
  obtain ⟨-, own, -⟩ := sound
  obtain ⟨cues, audio⟩ := own (by simp [joining])
  refine ⟨fun out => ?_, fun _ => ?_, fun f mem => ?_, fun _ => by rw [atc]⟩
  · rw [State.attached, atc] at out
    cases out
  · rw [inq]
    exact ⟨cues, audio⟩
  · rw [inq] at mem
    obtain rfl := Option.some.inj mem
    simp [atc]

/-! ## The arbiter's own events -/

/-- The arbiter at work changes its state, and the frame on the line with it. -/
theorem State.attachmentSound_withRfw {s : State} (sound : s.attachmentSound) (r : Rfw) (works : s.rfw.arbiter ≠ .disabled)
    (goesOn : r.arbiter ≠ .disabled) (uncut : s.rfw.cut = none) (stays : r.cut = none)
    (choice : (s.withRfw r).choiceSound) : (s.withRfw r).attachmentSound := by
  obtain ⟨load, ⟨attach, disabled, -⟩, ⟨announce, joins, away, leaving, stops⟩, -⟩ := sound
  have asserted : s.atc.attach ≠ false := fun released => works (disabled.mpr released)
  refine ⟨load, ⟨?_, ⟨fun off => absurd off goesOn, fun off => absurd off asserted⟩, ?_, ?_, ?_⟩,
    ⟨announce, joins, away, ?_, stops⟩, choice⟩
  · simpa [State.resetCutting, uncut, stays, State.attached] using attach
  · simp [stays]
  · simp [State.resetCutting, stays]
  · simp [stays]
  · simpa [uncut, stays] using leaving

theorem State.txReady_attachmentSound {s : State} (sound : s.attachmentSound) {since : Nat}
    (gap : s.rfw.arbiter = .gap since) : s.txReady.attachmentSound := by
  have ⟨_, line, _, _⟩ := sound
  have uncut := State.uncut_of_lineSound line (by simp [Rfw.sending, gap])
  have ready : s.txReady = (s.withRfw { s.rfw with arbiter := .ready since none }).decideStart := by
    rw [State.txReady, gap]
  have acts : s.txReady = s.withRfw s.txReady.rfw := by
    rw [ready]
    rcases State.decideStart_eq (s.withRfw { s.rfw with arbiter := .ready since none }) with ⟨_, _, -, eq⟩ | ⟨-, eq⟩ <;>
      rw [eq] <;> rfl
  have serves := State.serves_decideStart (s.withRfw { s.rfw with arbiter := .ready since none })
  rw [acts]
  refine State.attachmentSound_withRfw sound _ (by simp [gap]) ?_ uncut ?_ ?_
  · rw [ready, ne_eq, serves.arbiter.disabled_iff]
    exact nofun
  · rw [ready, serves.cut]
    exact uncut
  · rw [← acts, ready]
    exact State.decideStart_choiceSound _

/-- With a frame to start the arbiter is in READY, and no frame is being cut off. -/
theorem State.ready_of_nextStart {s : State} (sound : s.lineSound) {k : FrameChoice} (next : s.nextStart = some k) :
    s.rfw.arbiter ≠ .disabled ∧ s.rfw.cut = none := by
  cases arbiter : s.rfw.arbiter with
  | ready since c => exact ⟨nofun, State.uncut_of_lineSound sound (by simp [Rfw.sending, arbiter])⟩
  | disabled | gap | sending => simp [State.nextStart, arbiter] at next

theorem State.startRepeat_attachmentSound {s : State} (sound : s.attachmentSound)
    (next : s.nextStart = some .repeatHead) : s.startRepeat.attachmentSound := by
  have ⟨_, line, _, _⟩ := sound
  obtain ⟨works, uncut⟩ := State.ready_of_nextStart line next
  have counted : (s.countOne .framesForwarded).attachmentSound :=
    State.attachmentSound_congr sound rfl rfl rfl rfl rfl rfl
  unfold State.startRepeat
  split
  · exact sound
  · exact State.attachmentSound_withRfw counted _ works nofun uncut uncut (State.choiceSound_of_idle rfl)

theorem State.startOwn_attachmentSound {s : State} (sound : s.attachmentSound) {f : Frame}
    (own : s.chosenOwn = some f) : (s.startOwn f).attachmentSound := by
  have ⟨load, line, timers, _⟩ := sound
  obtain ⟨k, next, -⟩ := Option.bind_eq_some_iff.mp own
  obtain ⟨works, uncut⟩ := State.ready_of_nextStart line next
  have sent : (s.withRfw { s.rfw with arbiter := .sending ⟨f.octets, f.isFinal⟩ s.now }).attachmentSound :=
    State.attachmentSound_withRfw sound _ works nofun uncut uncut (State.choiceSound_of_idle rfl)
  obtain ⟨load, line, timers, -⟩ := sent
  exact ⟨load, line, timers, State.choiceSound_of_idle rfl⟩

/-- With an own frame to start the station is attached. -/
theorem State.startOwn_emptySound {s : State} (sound : s.emptySound) (lineSound : s.lineSound) {f : Frame}
    (own : s.chosenOwn = some f) : (s.startOwn f).emptySound := by
  obtain ⟨k, next, -⟩ := Option.bind_eq_some_iff.mp own
  obtain ⟨works, uncut⟩ := State.ready_of_nextStart lineSound next
  have attached := State.attached_of_lineSound lineSound works uncut
  obtain ⟨-, owns, final, proving⟩ := sound
  refine ⟨fun out => ?_, fun idle => ?_, fun a mem => ?_, proving⟩
  · change s.attached = false at out
    rw [attached] at out
    cases out
  · obtain ⟨cues, audio⟩ := owns idle
    cases f <;> simp [State.startOwn, Inq.without, cues, audio]
  · refine final a ?_
    cases f with
    | announce _ => cases mem
    | cue _ | audio _ => exact mem

theorem State.startRepeat_emptySound {s : State} (sound : s.emptySound) (lineSound : s.lineSound)
    (next : s.nextStart = some .repeatHead) : s.startRepeat.emptySound := by
  obtain ⟨works, uncut⟩ := State.ready_of_nextStart lineSound next
  have attached := State.attached_of_lineSound lineSound works uncut
  exact State.emptySound_congr sound attached (by simp) (by simp)

/-- The END of a frame brings GAP, and in LEAVING the note of the final announce (R28, R41). -/
theorem State.endFrame_attachmentSound {s : State} (sound : s.attachmentSound) {f : LineFrame} {since : Nat}
    (sending : s.rfw.arbiter = .sending f since) (uncut : s.rfw.cut = none) : s.endFrame.attachmentSound := by
  have ended : (s.withRfw { s.rfw with arbiter := .gap (s.frameEndSentAt.getD s.now) }).attachmentSound :=
    State.attachmentSound_withRfw sound _ (by simp [sending]) nofun uncut uncut (State.choiceSound_of_idle rfl)
  obtain ⟨load, line, ⟨announce, joins, away, leaving, stops⟩, choice⟩ := ended
  refine ⟨load, line, ⟨announce, joins, away, leaving, fun other => ?_⟩, State.choiceSound_of_idle rfl⟩
  obtain ⟨timer, cause, final⟩ := stops other
  refine ⟨timer, cause, ?_⟩
  have final : s.atc.finalSent = false := final
  have other : s.atc.state ≠ .leaving := other
  simp [State.endFrame, final, other]

/-! ## Leaving -/

theorem State.enterLeaving_attachmentSound {s : State} (sound : s.attachmentSound) (service : s.inService = true)
    (c : LeaveCause) : (s.enterLeaving c).attachmentSound := by
  have attached := State.attached_of_inService service
  obtain ⟨detached, halted, notJoining⟩ := State.notDetached_of_attached attached
  obtain ⟨loadSound, ⟨attach, disabled, busy, out, cut⟩, ⟨-, -, away, -⟩, -⟩ := sound
  have loaded := State.loaded_of_loadSound loadSound detached halted
  obtain ⟨held, image, cause, -⟩ := loadSound
  have acts := s.enterLeaving_acts c
  obtain ⟨rfw, idle, ready⟩ := acts
  have cutStays : (s.enterLeaving c).rfw.cut = s.rfw.cut := by rw [rfw]
  have uncut : s.rfw.cut = none := by
    cases now : s.rfw.cut with
    | none => rfl
    | some t =>
      cases byReset : t.byReset with
      | true =>
        rw [out ⟨t, now, byReset⟩] at attached
        cases attached
      | false =>
        have leaving := (cut t now byReset).1
        simp [State.inService, leaving] at service
  have after : (s.enterLeaving c).attached = true := by simp [State.attached]
  have works : s.rfw.arbiter ≠ .disabled := fun off => by
    have released := disabled.mp off
    rw [attach.mpr (.inl attached)] at released
    cases released
  have goesOn : (s.enterLeaving c).rfw.arbiter ≠ .disabled := by
    cases arbiter : s.rfw.arbiter with
    | ready since k =>
      obtain ⟨d, eq, -⟩ := ready since k arbiter
      simp [eq]
    | disabled => exact absurd arbiter works
    | gap | sending => simp [idle (by rw [arbiter]; rfl), arbiter]
  obtain ⟨holdoff, awaitIdle, due⟩ := away notJoining
  refine ⟨?_, ?_, ?_, (s.enterLeaving_acts c).choiceSound⟩
  · rw [State.loadSound, State.enterLeaving_atc, State.enterLeaving_stc]
    exact ⟨held, image, cause, by simp [loaded], by simp [loaded]⟩
  · simp [State.lineSound, State.resetCutting, after, goesOn, cutStays, uncut, attach.mpr (.inl attached)]
  · simp [State.timersSound, State.inService, State.enterLeaving_pru, cutStays, uncut, holdoff, awaitIdle, due]

theorem State.enterLeaving_emptySound {s : State} (loadSound : s.loadSound) (service : s.inService = true)
    (c : LeaveCause) : (s.enterLeaving c).emptySound := by
  obtain ⟨detached, halted, -⟩ := State.notDetached_of_attached (State.attached_of_inService service)
  have loaded := State.loaded_of_loadSound loadSound detached halted
  obtain ⟨-, image, -⟩ := loadSound
  obtain ⟨g, some⟩ := Option.isSome_iff_exists.mp (image.mpr loaded)
  refine ⟨fun out => ?_, fun _ => ?_, fun f mem => ?_, fun proving => ?_⟩
  · simp [State.attached] at out
  · rw [State.enterLeaving_inq some]
    exact ⟨rfl, rfl⟩
  · rw [State.enterLeaving_inq some] at mem
    obtain rfl := Option.some.inj mem
    simp [State.announceNow]
  · simp at proving

theorem State.release_attachmentSound {s : State} (sound : s.attachmentSound) (leaving : s.atc.state = .leaving) :
    s.release.attachmentSound := by
  obtain ⟨loadSound, -, ⟨announce, -, away, -⟩, -⟩ := sound
  have loaded := State.loaded_of_loadSound loadSound (by simp [leaving]) (by simp [leaving])
  obtain ⟨held, image, cause, -⟩ := loadSound
  obtain ⟨rfw, -, -, -, stc, timer, atc⟩ := s.release_items
  obtain ⟨holdoff, awaitIdle, due⟩ := away (by simp [leaving])
  have noTimer : s.pru.timer = none := by
    rw [← Option.not_isSome_iff_eq_none, announce, State.inService, leaving]
    decide
  have idle : s.release.rfw.arbiter.chosen = none := by rw [rfw]; rfl
  by_cases conflict : s.atc.leaveCause = some .conflict
  · rw [if_pos conflict] at atc
    refine ⟨?_, ?_, ?_, State.choiceSound_of_idle idle⟩
    · rw [State.loadSound, stc, atc]
      exact ⟨held, image, cause, by simp [Atc.halt, loaded], by simp [loaded]⟩
    · simp [State.lineSound, State.resetCutting, State.attached, atc, rfw, Atc.halt, Atc.released, Rfw.reset]
    · simp [State.timersSound, State.inService, atc, timer, noTimer, Atc.halt, Atc.released]
  · rw [if_neg conflict] at atc
    refine ⟨?_, ?_, ?_, State.choiceSound_of_idle idle⟩
    · rw [State.loadSound, stc, atc]
      exact ⟨held, image, cause, by simp [loaded], by simp [loaded]⟩
    · simp [State.lineSound, State.resetCutting, State.attached, atc, rfw, Atc.startHoldoff, Atc.released, Rfw.reset]
    · simp [State.timersSound, State.inService, atc, timer, noTimer, Atc.startHoldoff, Atc.released]

theorem State.release_emptySound (s : State) : s.release.emptySound := by
  obtain ⟨rfw, rx, inq, trm, -, -, atc⟩ := s.release_items
  refine State.emptySound_of_empty (by rw [rfw]; rfl) rx inq (by rw [trm]) (by rw [trm]) (fun i => ?_) ?_
  · rw [trm]
    exact replicate_get ..
  · rw [atc]
    split <;> rfl

/-- At the leave limit a frame going out is cut off, and between frames ATTACH is released (R29). -/
theorem State.leaveLimit_attachmentSound {s : State} (sound : s.attachmentSound) (leaving : s.atc.state = .leaving)
    {start : Nat} (timer : s.atc.leaveTimer = some start) : s.leaveLimit.attachmentSound := by
  unfold State.leaveLimit
  split
  next sending =>
    obtain ⟨load, ⟨attach, disabled, busy, out, -⟩, ⟨announce, joins, away, leaves, -⟩, choice⟩ := sound
    obtain ⟨cause, uncut⟩ := leaves leaving
    have uncut : s.rfw.cut = none := uncut.mp (by rw [timer]; rfl)
    have asserted : s.atc.attach = true := attach.mpr (.inl (by rw [State.attached, leaving]))
    refine ⟨load, ⟨?_, disabled, fun _ => sending, ?_, ?_⟩, ⟨announce, joins, away, fun _ => ?_, ?_⟩, choice⟩
    · simp [State.attached, leaving, asserted]
    · simp [State.resetCutting]
    · simp [leaving]
    · simp [cause]
    · simp [leaving]
  next => exact State.release_attachmentSound sound leaving

theorem State.leaveLimit_emptySound {s : State} (sound : s.emptySound) : s.leaveLimit.emptySound := by
  unfold State.leaveLimit
  split
  · exact State.emptySound_withAtc sound _ rfl rfl
  · exact s.release_emptySound

/-! ## Frames taken -/

/-- The attachment is sound, and, where it was so before, a station that is not attached is empty of the ring. -/
abbrev State.ringSound (before : Prop) (s : State) : Prop := s.attachmentSound ∧ (before → s.emptySound)

section
variable {before : Prop} {s t : State}

/-- What an attached station does in service keeps both, once its arbiter has acted. -/
theorem State.Serves.ringSound (h : State.Serves s t) (sound : s.ringSound before) (attached : s.attached = true)
    (choice : t.choiceSound) : t.ringSound before :=
  ⟨h.attachmentSound sound.1 choice, fun was => h.emptySound (sound.2 was) fun out => by rw [attached] at out; cases out⟩

theorem State.ringSound_congr (sound : s.ringSound before) (attached : s.attached = true) (stc : t.stc = s.stc)
    (atc : t.atc = s.atc) (rfw : t.rfw = s.rfw) (inq : t.inq = s.inq) (transit : t.trm.transit = s.trm.transit)
    (timer : t.pru.timer = s.pru.timer) : t.ringSound before :=
  ⟨State.attachmentSound_congr sound.1 stc atc rfw inq transit timer,
    fun was => State.emptySound_congr (sound.2 was) attached atc inq⟩

theorem State.enterLeaving_ringSound (sound : s.ringSound before) (service : s.inService = true) (c : LeaveCause) :
    (s.enterLeaving c).ringSound before :=
  ⟨State.enterLeaving_attachmentSound sound.1 service c, fun _ => State.enterLeaving_emptySound sound.1.1 service c⟩

/-- An address conflict takes a station in service to LEAVING, and changes the cause of a leave begun (R27, R61). -/
theorem State.conflictHalt_ringSound (sound : s.ringSound before) : s.conflictHalt.ringSound before := by
  unfold State.conflictHalt
  split
  next proving => exact State.enterLeaving_ringSound sound (State.inService_iff.mpr (.inl proving)) .conflict
  next active => exact State.enterLeaving_ringSound sound (State.inService_iff.mpr (.inr active)) .conflict
  next leaving =>
    obtain ⟨⟨load, line, ⟨announce, joins, away, leaves, -⟩, choice⟩, empty⟩ := sound
    refine ⟨⟨load, line, ⟨announce, joins, away, fun now => ⟨rfl, (leaves now).2⟩, ?_⟩, choice⟩, empty⟩
    exact fun other => absurd leaving other
  all_goals exact sound

theorem State.foreignFrame_ringSound (sound : s.ringSound before) (attached : s.attached = true) :
    s.foreignFrame.ringSound before := by
  have counted := fun n => State.ringSound_congr (t := (s.countOne .foreignFrames).withTrm { s.trm with conflicts := n })
    sound attached rfl rfl rfl rfl rfl rfl
  unfold State.foreignFrame
  dsimp only
  split
  · exact State.conflictHalt_ringSound (State.ringSound_congr (counted _) attached rfl rfl rfl rfl rfl rfl)
  · exact counted _

theorem State.stripped_ringSound (sound : s.ringSound before) (attached : s.attached = true) (i : Identity) (copied : Bool) :
    (s.stripped i copied).ringSound before := by
  unfold State.stripped
  dsimp only
  split
  next e _ _ =>
    have skips := State.Serves.foldl State.serves_skipHead (s.trm.transit.takeWhile (·.identity ≠ i)) s
    exact ((skips.trans (State.serves_headMatch _ e copied)).trans (State.serves_decideStart _)).ringSound sound attached
      (State.decideStart_choiceSound _)
  · split
    · exact State.ringSound_congr sound attached rfl rfl rfl rfl rfl rfl
    · exact State.foreignFrame_ringSound sound attached

theorem State.judgeFrame_ringSound (sound : s.ringSound before) (attached : s.attached = true) (r : RxFrame) :
    (s.judgeFrame r).ringSound before := by
  have counted := fun c => State.ringSound_congr (t := s.countOne c) sound attached rfl rfl rfl rfl rfl rfl
  unfold State.judgeFrame
  split
  · unfold State.takeFrame
    split
    · exact sound
    next f _ =>
      split
      · exact State.stripped_ringSound sound attached _ _
      split
      · exact counted _
      · dsimp only
        exact (((s.serves_offerToCopier f).trans (State.serves_appendRepeat _ _)).trans
          (State.serves_decideStart _)).ringSound sound attached (State.decideStart_choiceSound _)
  all_goals exact counted _

/-- The announce timer goes on, and its announce takes the slot (R69). -/
theorem State.announceTimer_ringSound {g : Image} {last : Nat} (sound : s.ringSound before) (service : s.inService = true)
    (timer : s.pru.timer = some last) (image : s.stc.image = some g) : s.announceTimer.ringSound before := by
  have runs : (s.withPru { s.pru with timer := some (last + g.periodTime) }).ringSound before := by
    obtain ⟨⟨load, line, ⟨-, others⟩, choice⟩, empty⟩ := sound
    exact ⟨⟨load, line, ⟨⟨fun _ => service, fun _ => rfl⟩, others⟩, choice⟩, empty⟩
  have announces := State.serves_announce (s := s.withPru { s.pru with timer := some (last + g.periodTime) }) service
  simp only [State.announceTimer, timer, image]
  exact (announces.trans (State.serves_decideStart _)).ringSound runs (State.attached_of_inService service)
    (State.decideStart_choiceSound _)

/-! ## Keys and ticks -/

/-- The arbiter acts on the cues that a scan makes (R44). -/
theorem State.keyScan_acts {g : Image} (image : s.stc.image = some g) (raw : BitVec 16) :
    State.arbiterActs s.rfw (s.keyScan raw) := by
  have acts := ((s.withPos { s.pos with scanAt := s.now }).judgeScan g raw).decideStart_acts
  simpa [State.keyScan, image] using acts

/-- The arbiter acts on the audio that a tick builds (R44). -/
theorem State.buildingTick_acts (s : State) (g : Image) : State.arbiterActs s.rfw (s.buildingTick g) := by
  have fixed : ∀ b, ((List.finRange 2).foldl (State.fixStatus b) s).rfw = s.rfw := fun b =>
    foldl_keeps (p := State.rfw) (State.fixStatus b) (fun u q => by simp) _ _
  have built : ∀ gates statuses (u : State),
      ((List.finRange 4).foldl (State.assembleOne g gates statuses) u).rfw = u.rfw := fun gates statuses u =>
    foldl_keeps (p := State.rfw) (State.assembleOne g gates statuses) (fun u i => by simp) _ _
  unfold State.buildingTick
  dsimp only
  have acts := fun u : State => u.decideStart_acts
  rw [← fixed g.block.samples, ← built (s.gatesNow g)]
  exact acts _

/-- Of a tick the arbiter acts on what it builds, and one that builds nothing leaves what the arbiter looks at. -/
theorem State.blockTick_acts (s : State) :
    State.arbiterActs s.rfw s.blockTick ∨ s.blockTick.rfw = s.rfw ∧ s.blockTick.inq = s.inq := by
  unfold State.blockTick
  split
  · exact .inr ⟨rfl, rfl⟩
  next g _ =>
    split
    · exact .inr ⟨by simp [State.openingTick], by simp [State.openingTick]⟩
    split
    · exact .inr ⟨by simp [State.wrapTick], by simp [State.wrapTick]⟩
    · exact .inl ((s.buildingTick_acts g).congr (by simp) (by simp) (by simp) (by simp))

/-- What acts leaves the rest of the forwarder. -/
theorem State.arbiterActs.repeats {r : Rfw} {t : State} (h : State.arbiterActs r t) : t.rfw.repeats = r.repeats := by
  rw [h.1]

/-- A scan of the keys, in whatever state. -/
theorem State.keyScan_ringSound {g : Image} (sound : s.ringSound before) (image : s.stc.image = some g) (raw : BitVec 16) :
    (s.keyScan raw).ringSound before := by
  have serves := s.serves_keyScan raw
  have acts := State.keyScan_acts image raw
  exact ⟨serves.attachmentSound sound.1 acts.choiceSound,
    fun was => serves.emptySound (sound.2 was) fun _ => ⟨acts.repeats, by simp, by simp⟩⟩

theorem State.blockTick_ringSound (sound : s.ringSound before) : s.blockTick.ringSound before := by
  have serves := s.serves_blockTick
  have ⟨⟨_, _, _, choice⟩, _⟩ := sound
  rcases s.blockTick_acts with acts | ⟨rfw, inq⟩
  · exact ⟨serves.attachmentSound sound.1 acts.choiceSound,
      fun was => serves.emptySound (sound.2 was) fun _ => ⟨acts.repeats, by simp, by simp⟩⟩
  · refine ⟨serves.attachmentSound sound.1 ?_, fun was => serves.emptySound (sound.2 was) fun _ => ⟨by rw [rfw], by simp, by simp⟩⟩
    exact State.choiceSound_congr choice (by rw [rfw]) (by rw [rfw]) (by simp) (by simp) inq

end

/-! ## Every step -/

/-- An effect that touches nothing of the ring. -/
theorem State.RingStands.ringSound {before : Prop} {s t : State} (h : State.RingStands s t) (sound : s.ringSound before) : t.ringSound before :=
  ⟨h.attachmentSound sound.1, fun was => h.emptySound (sound.2 was)⟩

/-- A write in progress changes the memory and its own progress alone (R186). -/
theorem State.pageReady_stc (s : State) :
    s.pageReady.stc = { s.stc with memory := s.pageReady.stc.memory, write := s.pageReady.stc.write } := by
  unfold State.pageReady
  split
  · split
    · split <;> rfl
    · rfl
  · rfl

theorem State.endWrite_stc (s : State) (ok : Bool) : (s.endWrite ok).stc = { s.stc with write := none } := by
  unfold State.endWrite
  dsimp only
  split <;> rfl

/-- Every effect keeps both. -/
theorem Effect.ringSound {before : Prop} {c : Instr} {s t : State} (h : Effect c s t) (sound : s.ringSound before) : t.ringSound before := by
  have ⟨attachment, empty⟩ := sound
  have ⟨load, line, _, _⟩ := attachment
  have stands : ∀ {u : State}, u.stc = s.stc → u.atc = s.atc → u.rx = s.rx → u.rfw = s.rfw → u.inq = s.inq →
      u.trm = s.trm → u.pru.timer = s.pru.timer → u.ringSound before := fun stc atc rx rfw inq trm timer =>
    State.RingStands.ringSound ⟨by rw [stc], by rw [stc], by rw [stc], by rw [stc], atc, rx, rfw, inq, trm, timer⟩ sound
  cases h with
  | stands => exact sound
  | resetAsserted =>
    obtain ⟨repeats, rx, inq, trm, -⟩ := s.assertReset_items
    refine ⟨s.assertReset_attachmentSound, fun _ => State.emptySound_of_empty repeats rx inq ?_ ?_ (fun i => ?_) ?_⟩
    · rw [trm]; rfl
    · rw [trm]; rfl
    · rw [trm]; exact replicate_get ..
    · rw [State.assertReset_atc]; rfl
  | resetAbortComplete _ since cut => exact ⟨State.resetAbortDone_attachmentSound attachment cut, empty⟩
  | resetReleased _ straps held => exact ⟨State.releaseReset_attachmentSound attachment held straps, empty⟩
  | loadEnd _ released loading =>
    exact ⟨State.endLoad_attachmentSound attachment released loading, fun was => State.endLoad_emptySound (empty was) load loading⟩
  | lineUnit _ e => exact ⟨State.takeUnit_attachmentSound attachment e, fun was => State.takeUnit_emptySound (empty was) e⟩
  | upstreamLoss => exact ⟨State.declareLoss_attachmentSound attachment, fun was => State.declareLoss_emptySound (empty was)⟩
  | upstreamRestoral =>
    refine ⟨State.declareRestoral_attachmentSound attachment, fun was => ?_⟩
    have restored := State.emptySound_withAtc (empty was) { s.atc with upstream := .present, quietUnits := 0, validRun := 0 }
      rfl rfl
    simpa [State.declareRestoral, State.emptySound, State.attached] using restored
  | joinHoldoff _ start joining holdoff =>
    exact ⟨State.holdoffExpired_attachmentSound attachment joining holdoff, fun was => State.holdoffExpired_emptySound (empty was)⟩
  | attach _ joining =>
    exact ⟨State.attachNow_attachmentSound attachment joining, fun was => State.attachNow_emptySound (empty was) load joining⟩
  | arrival _ f rest attached closed =>
    exact State.judgeFrame_ringSound (s := s.withRx { s.rx with closed := rest })
      (State.ringSound_congr sound attached rfl rfl rfl rfl rfl rfl) attached f
  | gapComplete _ since gap =>
    refine ⟨State.txReady_attachmentSound attachment gap, fun was => ?_⟩
    have uncut := State.uncut_of_lineSound line (by simp [Rfw.sending, gap])
    exact State.emptySound_congr (empty was) (State.attached_of_lineSound line (by simp [gap]) uncut) (by simp) (by simp)
  | repeatStart _ next =>
    exact ⟨State.startRepeat_attachmentSound attachment next, fun was => State.startRepeat_emptySound (empty was) line next⟩
  | ownStart _ f own => exact ⟨State.startOwn_attachmentSound attachment own, fun was => State.startOwn_emptySound (empty was) line own⟩
  | frameEnd _ f since sending uncut => exact ⟨State.endFrame_attachmentSound attachment sending uncut, empty⟩
  | leaveDrain _ leaving => exact ⟨State.release_attachmentSound attachment leaving, fun _ => s.release_emptySound⟩
  | leaveLimit _ start leaving timer =>
    exact ⟨State.leaveLimit_attachmentSound attachment leaving timer, fun was => State.leaveLimit_emptySound (empty was)⟩
  | leaveAbort _ since cut =>
    obtain ⟨-, -, -, -, cutting⟩ := line
    exact ⟨State.release_attachmentSound attachment (cutting _ cut rfl).1, fun _ => s.release_emptySound⟩
  | returnTimeout _ attached =>
    exact ((State.serves_timeoutHeads _ s).trans (State.serves_decideStart _)).ringSound sound attached
      (State.decideStart_choiceSound _)
  | announceTimer _ g last service timer image => exact State.announceTimer_ringSound sound service timer image
  | peerExpiry _ a i attached =>
    exact (s.serves_expirePeer i).ringSound sound attached (State.decideStart_choiceSound _)
  | blockTick => exact State.blockTick_ringSound sound
  | keyScan _ g raw image => exact State.keyScan_ringSound sound image raw
  | restartRing _ a service =>
    have entered := State.enterLeaving_ringSound sound service .restart
    exact State.RingStands.ringSound ⟨rfl, rfl, rfl, rfl, rfl, rfl, rfl, rfl, rfl, rfl⟩ entered
  | wclkEdge | wordClockLoss | divider | qualificationSilence | clockingFrame | captureFrame | blockBoundary
  | runOutEnd | frameSync | fallbackTimer | flashTimer | answered | readEvents | clearSeen | zeroCounters
  | unanswered => exact stands (by simp) (by simp) (by simp) (by simp) (by simp) (by simp) (by simp)
  | writeBegins =>
    exact State.RingStands.ringSound ⟨rfl, rfl, rfl, rfl, rfl, rfl, rfl, rfl, rfl, rfl⟩ sound
  | pageReady =>
    refine State.RingStands.ringSound ⟨?_, ?_, ?_, ?_, by simp, by simp, by simp, by simp, by simp, by simp⟩ sound
    all_goals rw [State.pageReady_stc]
  | writeEnds _ _ ok =>
    refine State.RingStands.ringSound ⟨?_, ?_, ?_, ?_, by simp, by simp, by simp, by simp, by simp, by simp⟩ sound
    all_goals rw [State.endWrite_stc]

/-- Settles O55: every effect keeps the load, the line, the timers and the arbiter's choice in agreement, an operation in
service through what it leaves of them, and each of the others by its own case. -/
theorem attachmentStaysSound : Obligations.AttachmentStaysSound := by
  intro s t attachment next
  obtain ⟨c, now, ties, pending, effect⟩ := step_effect next
  exact (effect.ringSound (before := False) ⟨attachment, False.elim⟩).1

/-- Settles O56: a station that is not attached takes no frame and starts none, and a release empties it. -/
theorem unattachedHoldsNothing : Obligations.UnattachedHoldsNothing := by
  intro s t attachment empty next
  obtain ⟨c, now, ties, pending, effect⟩ := step_effect next
  exact (effect.ringSound (before := True) ⟨attachment, fun _ => empty⟩).2 trivial

end Sys2Proof.Machine

/-! SUPPORT. What a change of the peer table brings about: the claims and claimants it then gives, one entry of each table
after another (05 R79 to R83, 07 R108 to R111); and that every step keeps them so. -/

namespace Sys2Proof.Machine

/-! ## Sweeps of a table -/

/-- An operation on the entries of a table, each by its own rule, with what it looks at standing meanwhile. -/
structure Sweep {σ α : Type} {k : Nat} (f : σ → Fin k → σ) (Q : σ → Prop) (get : σ → Fin k → α)
    (next : Fin k → α → α) : Prop where
  keeps : ∀ s i, Q s → Q (f s i)
  own : ∀ s i, Q s → get (f s i) i = next i (get s i)
  other : ∀ s i j, Q s → j ≠ i → get (f s i) j = get s j

section
variable {σ α : Type} {k : Nat} {f : σ → Fin k → σ} {Q : σ → Prop} {get : σ → Fin k → α} {next : Fin k → α → α}

theorem Sweep.keeps_list (h : Sweep f Q get next) (l : List (Fin k)) {s : σ} (q : Q s) : Q (l.foldl f s) := by
  induction l generalizing s with
  | nil => exact q
  | cons a l ih => exact ih (h.keeps s a q)

theorem Sweep.get_list (h : Sweep f Q get next) {l : List (Fin k)} (once : l.Nodup) {s : σ} (q : Q s) (i : Fin k) :
    get (l.foldl f s) i = if i ∈ l then next i (get s i) else get s i := by
  induction l generalizing s with
  | nil => rfl
  | cons a l ih =>
    obtain ⟨new, once⟩ := List.nodup_cons.mp once
    rw [List.foldl_cons, ih once (h.keeps s a q)]
    by_cases same : i = a
    · subst same
      rw [if_neg new, if_pos List.mem_cons_self, h.own s i q]
    · rw [h.other s a i q same]
      simp [same]

/-- After the sweep every entry is as its rule makes it. -/
theorem Sweep.get_all (h : Sweep f Q get next) {s : σ} (q : Q s) (i : Fin k) :
    get ((List.finRange k).foldl f s) i = next i (get s i) := by
  rw [h.get_list (List.nodup_finRange k) q, if_pos (List.mem_finRange i)]

theorem Sweep.keeps_all (h : Sweep f Q get next) {s : σ} (q : Q s) : Q ((List.finRange k).foldl f s) :=
  h.keeps_list _ q

theorem Sweep.told_list (h : Sweep f Q get next) {told : σ → Prop} {tells : Fin k → α → Prop}
    (one : ∀ s i, Q s → (told (f s i) ↔ told s ∨ tells i (get s i))) {l : List (Fin k)} (once : l.Nodup) {s : σ}
    (q : Q s) : told (l.foldl f s) ↔ told s ∨ ∃ i ∈ l, tells i (get s i) := by
  induction l generalizing s with
  | nil => simp
  | cons a l ih =>
    obtain ⟨new, once⟩ := List.nodup_cons.mp once
    rw [List.foldl_cons, ih once (h.keeps s a q), one s a q]
    have others : ∀ i ∈ l, get (f s a) i = get s i := fun i mem =>
      h.other s a i q fun same => new (same ▸ mem)
    have later : (∃ i ∈ l, tells i (get (f s a) i)) ↔ ∃ i ∈ l, tells i (get s i) :=
      exists_congr fun i => and_congr_right fun mem => by rw [others i mem]
    rw [later, List.exists_mem_cons_iff, or_assoc]

/-- What no entry of the sweep touches stands. -/
theorem Sweep.field_all {γ : Type} (h : Sweep f Q get next) (p : σ → γ) (one : ∀ s i, Q s → p (f s i) = p s) {s : σ}
    (q : Q s) : p ((List.finRange k).foldl f s) = p s := by
  suffices key : ∀ (l : List (Fin k)) {s : σ}, Q s → p (l.foldl f s) = p s from key _ q
  intro l
  induction l with
  | nil => exact fun _ => rfl
  | cons a l ih => exact fun q => (ih (h.keeps _ a q)).trans (one _ a q)

/-- What an entry tells as it is swept is told after the sweep. -/
theorem Sweep.told_all (h : Sweep f Q get next) {told : σ → Prop} {tells : Fin k → α → Prop}
    (one : ∀ s i, Q s → (told (f s i) ↔ told s ∨ tells i (get s i))) {s : σ} (q : Q s) :
    told ((List.finRange k).foldl f s) ↔ told s ∨ ∃ i, tells i (get s i) := by
  rw [h.told_list one (List.nodup_finRange k) q]
  simp

end

/-- Two changes of an entry that agree on it. -/
theorem modifyAt_congr {α : Type} {n : Nat} (v : Vector α n) (i : Fin n) {f g : α → α} (h : f v[i] = g v[i]) :
    modifyAt v i f = modifyAt v i g := by
  rw [modifyAt, modifyAt, h]

/-- A change that leaves its entry leaves the table. -/
theorem modifyAt_stands {α : Type} {n : Nat} (v : Vector α n) (i : Fin n) {f : α → α} (h : f v[i] = v[i]) :
    modifyAt v i f = v := by
  rw [modifyAt, h]
  exact Vector.set_getElem_self i.isLt

/-! ## A context takes another origin -/

/-- A context with a state other than LOCKED and an origin, leaving LOCKED if it was (R108 to R111). -/
def Context.turnedTo (x : Context) (state : StreamState) (origin : Option Address) : Context :=
  if x.state = .locked then x.unlocked state origin else { x with state := state, origin := origin }

/-- What starts the fallback timers depends on the panel, the role and the instant. -/
theorem State.startFallback_pos_congr {s t : State} (pos : t.pos = s.pos) (stc : t.stc = s.stc) (now : t.now = s.now) :
    t.startFallback.pos = s.startFallback.pos := by
  unfold State.startFallback State.venue
  rw [stc, now]
  split
  · simp [State.setPositions, pos]
  · exact pos

section
variable (s : State) (n : Fin 16) (state : StreamState) (origin : Option Address)

theorem Context.turnedTo_items (x : Context) :
    (x.turnedTo state origin).state = state ∧ (x.turnedTo state origin).origin = origin := by
  unfold Context.turnedTo
  split <;> exact ⟨rfl, rfl⟩

/-- Leaving LOCKED, as the statements say it (R111, R151, R152). -/
theorem Context.unlocked_hasLeft (x : Context) : x.hasLeft (x.unlocked state origin) state origin := by
  unfold Context.hasLeft Context.unlocked Context.runningOut Context.newRunOut
  congr 1
  cases x.runOut <;> rfl

/-- The context of subscription n alone changes. -/
theorem State.toUnlocked_srx :
    (s.toUnlocked n state origin).srx = modifyAt s.srx n (·.turnedTo state origin) := by
  unfold State.toUnlocked
  split
  next locked =>
    have unlocked : modifyAt s.srx n (·.unlocked state origin) = modifyAt s.srx n (·.turnedTo state origin) :=
      modifyAt_congr _ _ (if_pos locked).symm
    rw [← unlocked]
    dsimp only
    split <;> simp [State.setContext]
  next other =>
    have turned : modifyAt s.srx n (fun x => { x with state := state, origin := origin })
        = modifyAt s.srx n (·.turnedTo state origin) := modifyAt_congr _ _ (if_neg other).symm
    exact turned

/-- Leaving LOCKED raises STREAM_UNLOCKED, and nothing else is told (R111). -/
theorem State.toUnlocked_svp :
    (s.toUnlocked n state origin).svp = if (s.srx[n]).state = .locked then (s.raise .streamUnlocked).svp else s.svp := by
  unfold State.toUnlocked
  split
  · dsimp only
    split <;> simp [State.raise]
  · rfl

/-- Where the return programme leaves LOCKED its fallback timers start (R170). -/
theorem State.toUnlocked_pos :
    (s.toUnlocked n state origin).pos
      = if (s.srx[n]).state = .locked ∧ s.returnStream = some n then s.startFallback.pos else s.pos := by
  unfold State.toUnlocked
  split
  next locked =>
    dsimp only
    have same : ((s.setContext n (·.unlocked state origin)).raise .streamUnlocked).returnStream = s.returnStream := rfl
    rw [same, (State.refreshStream_frame ..).2.2.2.2.2.2.2.2.2.2.1]
    split
    next hears =>
      rw [if_pos ⟨locked, hears⟩]
      exact State.startFallback_pos_congr rfl rfl rfl
    next deaf => rw [if_neg fun both => deaf both.2]; rfl
  next other => rw [if_neg fun both => other both.1]; rfl

end

/-! ## Claims -/

/-- The heard state of a stream whose claim has moved: a yield makes it UNKNOWN (R65, R80). -/
def Heard.afterClaim (h : Heard) (old new : Claim) : Heard := if old = .held ∧ new = .yielded then .unknown else h

theorem Heard.afterClaim_same (h : Heard) (c : Claim) : h.afterClaim c c = h := if_neg (by cases c <;> decide)

theorem Heard.afterClaim_held (h : Heard) (c : Claim) : h.afterClaim c .held = h := if_neg (by cases c <;> decide)

/-- The claim and the heard state of a sourced stream. -/
def State.sourceItems (s : State) (i : Fin 4) : Claim × Heard := (s.pru.claims[i], s.trm.heard[i])

/-- What one sourced stream's claim resolved changes (R80). -/
theorem State.resolveSource_items (g : Image) (s : State) (i : Fin 4) :
    (s.resolveSource g i).pru = { s.pru with claims := modifyAt s.pru.claims i fun _ => s.claimNow g i }
      ∧ (s.resolveSource g i).trm
          = { s.trm with heard := modifyAt s.trm.heard i (·.afterClaim s.pru.claims[i] (s.claimNow g i)) }
      ∧ ((s.resolveSource g i).flag .claimYielded = true ↔
          s.flag .claimYielded = true ∨ s.pru.claims[i] = .held ∧ s.claimNow g i = .yielded)
      ∧ ((s.resolveSource g i).flag .claimResumed = true ↔
          s.flag .claimResumed = true ∨ s.pru.claims[i] = .yielded ∧ s.claimNow g i = .held) := by
  have quiet : ∀ p f, (s.withPru p).flag f = s.flag f := fun _ _ => rfl
  unfold State.resolveSource
  dsimp only
  split
  next same =>
    have kept : ¬ (s.pru.claims[i] = .held ∧ s.pru.claims[i] = .yielded) := by
      cases s.pru.claims[i] <;> decide
    have kept' : ¬ (s.pru.claims[i] = .yielded ∧ s.pru.claims[i] = .held) := fun both => kept both.symm
    have heard : modifyAt s.trm.heard i (·.afterClaim s.pru.claims[i] s.pru.claims[i]) = s.trm.heard :=
      modifyAt_stands _ _ (Heard.afterClaim_same ..)
    rw [← same, modifyAt_stands s.pru.claims i rfl, heard]
    simp only [kept, kept', or_false, and_self]
  next moved =>
    cases now : s.claimNow g i with
    | yielded =>
      have old : s.pru.claims[i] = .held := by
        cases before : s.pru.claims[i] with
        | held => rfl
        | yielded => exact absurd (before.trans now.symm) moved
      have unknown : (fun h : Heard => h.afterClaim s.pru.claims[i] .yielded) = fun _ => .unknown :=
        funext fun h => if_pos ⟨old, rfl⟩
      rw [unknown]
      refine ⟨rfl, rfl, ?_, ?_⟩
      · change (State.raise _ .claimYielded).flag .claimYielded = true ↔ _
        simp [State.flag_raise, quiet, old]
      · change (State.raise _ .claimYielded).flag .claimResumed = true ↔ _
        simp [State.flag_raise, quiet]
    | held =>
      have old : s.pru.claims[i] = .yielded := by
        cases before : s.pru.claims[i] with
        | yielded => rfl
        | held => exact absurd (before.trans now.symm) moved
      refine ⟨rfl, ?_, ?_, ?_⟩
      · have heard : modifyAt s.trm.heard i (·.afterClaim s.pru.claims[i] .held) = s.trm.heard :=
          modifyAt_stands _ _ (Heard.afterClaim_held ..)
        rw [heard]
        rfl
      · change (State.raise _ .claimResumed).flag .claimYielded = true ↔ _
        simp [State.flag_raise, quiet]
      · change (State.raise _ .claimResumed).flag .claimResumed = true ↔ _
        simp [State.flag_raise, quiet, old]

/-- What the peer table gives a sourced stream depends on the table and the address alone. -/
theorem State.claimNow_congr {s t : State} (g : Image) (i : Fin 4) (peers : t.pru.peers = s.pru.peers)
    (address : t.address = s.address) : t.claimNow g i = s.claimNow g i := by
  have lists : ∀ id, t.pru.lowerLists t.address id = s.pru.lowerLists s.address id := fun id => by
    simp only [Pru.lowerLists, Pru.listedAt, peers, address]
  unfold State.claimNow
  cases g.source i <;> simp [lists]

/-- The claims are resolved one after another, each as the table gives it. -/
theorem State.sweep_sources (g : Image) (s : State) :
    Sweep (State.resolveSource g) (fun u => u.pru.peers = s.pru.peers ∧ u.address = s.address) State.sourceItems
      fun i a => (s.claimNow g i, a.2.afterClaim a.1 (s.claimNow g i)) where
  keeps u i q := by
    obtain ⟨pru, -⟩ := u.resolveSource_items g i
    refine ⟨by rw [pru]; exact q.1, ?_⟩
    rw [State.address, (by simp : (u.resolveSource g i).stc = u.stc)]
    exact q.2
  own u i q := by
    obtain ⟨pru, trm, -⟩ := u.resolveSource_items g i
    rw [← State.claimNow_congr g i q.1 q.2, State.sourceItems, pru, trm]
    exact Prod.ext (modifyAt_self ..) (modifyAt_self ..)
  other u i j q ne := by
    obtain ⟨pru, trm, -⟩ := u.resolveSource_items g i
    rw [State.sourceItems, pru, trm]
    exact Prod.ext (modifyAt_other _ ne _) (modifyAt_other _ ne _)

/-! ## Claimants -/

/-- The state of a context with a claimant or without (R108 to R110). -/
def stateFor (claimant : Option Address) : StreamState := if claimant.isSome then .acquiring else .waiting

theorem State.claimantEvent_eq (s : State) (n : Fin 16) (a : Option Address) :
    s.claimantEvent n a = s.toUnlocked n (stateFor a) a := by cases a <;> rfl

/-- The claimant last reported for a subscription, and its context. -/
def State.subscriptionItems (s : State) (n : Fin 16) : Option Address × Context := (s.pru.reported[n], s.srx[n])

/-- What a claimant makes of them (R82, R108 to R111). -/
def claimantMoves (a : Option Address) (x : Option Address × Context) : Option Address × Context :=
  if x.1 = a then x else (a, x.2.turnedTo (stateFor a) a)

theorem claimantMoves_same {a : Option Address} {x : Option Address × Context} (h : x.1 = a) : claimantMoves a x = x :=
  if_pos h

theorem claimantMoves_moved {a : Option Address} {x : Option Address × Context} (h : x.1 ≠ a) :
    claimantMoves a x = (a, x.2.turnedTo (stateFor a) a) := if_neg h

theorem claimantMoves_fst (a : Option Address) (x : Option Address × Context) : (claimantMoves a x).1 = a := by
  unfold claimantMoves
  split
  · assumption
  · rfl

/-- What one subscription's claimant compared changes (R82). -/
theorem State.resolveSubscription_items {g : Image} {n : Fin 16} {u : Subscription} (configured : g.subscription n = some u)
    (s : State) :
    let a := s.pru.claimant u.id
    let moved := s.pru.reported[n] ≠ a
    let r := s.resolveSubscription g n
    r.pru = { s.pru with reported := modifyAt s.pru.reported n fun _ => a }
      ∧ r.srx = modifyAt s.srx n (fun x => (claimantMoves a (s.pru.reported[n], x)).2)
      ∧ r.svp = (if moved ∧ (s.srx[n]).state = .locked then (s.raise .streamUnlocked).svp else s.svp)
      ∧ r.pos = (if moved ∧ (s.srx[n]).state = .locked ∧ s.returnStream = some n then s.startFallback.pos else s.pos) := by
  intro a moved r
  have whole : r = if s.pru.reported[n] = a then s else
      (s.withPru { s.pru with reported := modifyAt s.pru.reported n fun _ => a }).toUnlocked n (stateFor a) a := by
    simp only [r, State.resolveSubscription, configured, State.claimantEvent_eq]
    rfl
  rw [whole]
  by_cases same : s.pru.reported[n] = a
  · have quiet : ¬ moved := fun m => m same
    have stands : (claimantMoves a (s.pru.reported[n], s.srx[n])).2 = s.srx[n] := by rw [claimantMoves_same same]
    rw [if_pos same, if_neg fun both => quiet both.1, if_neg fun both => quiet both.1,
      modifyAt_stands s.pru.reported n same.symm, modifyAt_stands s.srx n stands]
    exact ⟨rfl, rfl, rfl, rfl⟩
  · rw [if_neg same]
    refine ⟨by simp, ?_, ?_, ?_⟩
    · rw [State.toUnlocked_srx]
      refine modifyAt_congr s.srx n ?_
      rw [claimantMoves_moved same]
    · rw [State.toUnlocked_svp]
      simp only [ne_eq, moved, same, not_false_eq_true, true_and]
      rfl
    · rw [State.toUnlocked_pos]
      simp only [ne_eq, moved, same, not_false_eq_true, true_and]
      exact ite_congr rfl (fun _ => State.startFallback_pos_congr rfl rfl rfl) fun _ => rfl

theorem State.resolveSubscription_none {g : Image} {n : Fin 16} (unused : g.subscription n = none) (s : State) :
    s.resolveSubscription g n = s := by
  rw [State.resolveSubscription, unused]

/-- What a subscription's entries become, used or not. -/
def Image.claimantMoves (g : Image) (p : Pru) (n : Fin 16) (x : Option Address × Context) : Option Address × Context :=
  match g.subscription n with
  | some u => Machine.claimantMoves (p.claimant u.id) x
  | none => x

theorem Pru.claimant_congr {p q : Pru} (peers : p.peers = q.peers) (id : StreamId) : p.claimant id = q.claimant id := by
  unfold Pru.claimant Pru.listedAt
  rw [peers]

/-- The claimants are compared one after another, each with the one the table gives. -/
theorem State.sweep_subscriptions (g : Image) (s : State) :
    Sweep (State.resolveSubscription g)
      (fun u => u.pru.peers = s.pru.peers ∧ u.stc = s.stc ∧ u.now = s.now) State.subscriptionItems
      (g.claimantMoves s.pru) where
  keeps u n q := by
    obtain ⟨peers, stc, now⟩ := q
    refine ⟨?_, by simpa using stc, by simpa using now⟩
    cases used : g.subscription n with
    | none => rw [State.resolveSubscription_none used, peers]
    | some v =>
      obtain ⟨pru, -⟩ := State.resolveSubscription_items used u
      rw [pru]
      exact peers
  own u n q := by
    unfold Image.claimantMoves
    cases used : g.subscription n with
    | none => rw [State.resolveSubscription_none used]
    | some v =>
      obtain ⟨pru, srx, -⟩ := State.resolveSubscription_items used u
      change ((u.resolveSubscription g n).pru.reported[n], (u.resolveSubscription g n).srx[n])
        = Machine.claimantMoves (s.pru.claimant v.id) (u.subscriptionItems n)
      rw [pru, srx, ← Pru.claimant_congr q.1 v.id]
      exact Prod.ext ((modifyAt_self ..).trans (claimantMoves_fst ..).symm) (modifyAt_self ..)
  other u n m q ne := by
    cases used : g.subscription n with
    | none => rw [State.resolveSubscription_none used]
    | some v =>
      obtain ⟨pru, srx, -⟩ := State.resolveSubscription_items used u
      rw [State.subscriptionItems, pru, srx]
      exact Prod.ext (modifyAt_other _ ne _) (modifyAt_other _ ne _)

/-! ## Claims resolved -/

/-- The claims of the sourced streams resolved one after another (R80). -/
@[irreducible] def State.sourcesSwept (g : Image) (s : State) : State := (List.finRange 4).foldl (State.resolveSource g) s

/-- The claimants of the subscriptions compared one after another (R82). -/
@[irreducible] def State.claimantsSwept (g : Image) (s : State) : State :=
  (List.finRange 16).foldl (State.resolveSubscription g) s

/-- The claims of the sourced streams, and one announce where they moved in service (R70, R80). -/
def State.claimsResolved (g : Image) (s : State) : State :=
  if (s.sourcesSwept g).pru.claims ≠ s.pru.claims ∧ (s.sourcesSwept g).inService then (s.sourcesSwept g).announce false
  else s.sourcesSwept g

theorem State.resolveClaims_eq {s : State} {g : Image} (image : s.stc.image = some g) :
    s.resolveClaims = (s.claimsResolved g).claimantsSwept g := by
  rw [State.resolveClaims, image, State.claimantsSwept, State.claimsResolved, State.sourcesSwept]

/-- The claims swept, before the announce (R80). -/
theorem State.sourcesSwept_items (g : Image) (s : State) :
    let u := s.sourcesSwept g
    (∀ i : Fin 4, u.pru.claims[i] = s.claimNow g i
        ∧ u.trm.heard[i] = (s.trm.heard[i]).afterClaim s.pru.claims[i] (s.claimNow g i))
      ∧ (u.flag .claimYielded = true ↔
          s.flag .claimYielded = true ∨ ∃ i : Fin 4, s.pru.claims[i] = .held ∧ s.claimNow g i = .yielded)
      ∧ (u.flag .claimResumed = true ↔
          s.flag .claimResumed = true ∨ ∃ i : Fin 4, s.pru.claims[i] = .yielded ∧ s.claimNow g i = .held)
      ∧ u.pru = { s.pru with claims := u.pru.claims } ∧ u.trm = { s.trm with heard := u.trm.heard }
      ∧ u.stc = s.stc ∧ u.now = s.now ∧ u.srx = s.srx ∧ u.pos = s.pos ∧ u.atc = s.atc ∧ u.inq = s.inq := by
  have sweep := s.sweep_sources g
  have start : s.pru.peers = s.pru.peers ∧ s.address = s.address := ⟨rfl, rfl⟩
  have now : ∀ (u : State) i, u.pru.peers = s.pru.peers ∧ u.address = s.address → u.claimNow g i = s.claimNow g i :=
    fun u i q => State.claimNow_congr g i q.1 q.2
  have swept : s.sourcesSwept g = (List.finRange 4).foldl (State.resolveSource g) s := by rw [State.sourcesSwept]
  generalize s.sourcesSwept g = u at swept
  have fields : ∀ {γ : Type} (p : State → γ) (_ : ∀ u i, p (State.resolveSource g u i) = p u), p u = p s :=
    fun p h => by rw [swept]; exact foldl_keeps (p := p) _ h _ _
  have items : ∀ i, u.sourceItems i = (s.claimNow g i, (s.trm.heard[i]).afterClaim s.pru.claims[i] (s.claimNow g i)) := by
    rw [swept]
    exact sweep.get_all start
  have yields : u.flag .claimYielded = true ↔
      s.flag .claimYielded = true ∨ ∃ i : Fin 4, s.pru.claims[i] = .held ∧ s.claimNow g i = .yielded := by
    rw [swept]
    refine sweep.told_all (told := fun u => u.flag .claimYielded = true)
      (tells := fun i a => a.1 = .held ∧ s.claimNow g i = .yielded) (fun u i q => ?_) start
    obtain ⟨-, -, yields, -⟩ := u.resolveSource_items g i
    rw [yields, now u i q]
    rfl
  have resumes : u.flag .claimResumed = true ↔
      s.flag .claimResumed = true ∨ ∃ i : Fin 4, s.pru.claims[i] = .yielded ∧ s.claimNow g i = .held := by
    rw [swept]
    refine sweep.told_all (told := fun u => u.flag .claimResumed = true)
      (tells := fun i a => a.1 = .yielded ∧ s.claimNow g i = .held) (fun u i q => ?_) start
    obtain ⟨-, -, -, resumes⟩ := u.resolveSource_items g i
    rw [resumes, now u i q]
    rfl
  have pru := fields (fun u => { u.pru with claims := s.pru.claims }) fun u i => by
    obtain ⟨pru, -⟩ := u.resolveSource_items g i
    rw [pru]
  have trm := fields (fun u => { u.trm with heard := s.trm.heard }) fun u i => by
    obtain ⟨-, trm, -⟩ := u.resolveSource_items g i
    rw [trm]
  have others : u.stc = s.stc ∧ u.now = s.now ∧ u.srx = s.srx ∧ u.pos = s.pos ∧ u.atc = s.atc ∧ u.inq = s.inq :=
    ⟨fields State.stc (by simp), fields State.now (by simp), fields State.srx (by simp), fields State.pos (by simp),
      fields State.atc (by simp), fields State.inq (by simp)⟩
  exact ⟨fun i => Prod.mk.inj (items i), yields, resumes, congrArg (fun p : Pru => { p with claims := u.pru.claims }) pru,
    congrArg (fun p : Trm => { p with heard := u.trm.heard }) trm, others⟩

/-- What the claims resolved change: the claims and the heard states, and by an announce its slot and sequence. -/
theorem State.claimsResolved_items {s : State} {g : Image} (image : s.stc.image = some g) :
    let t := s.claimsResolved g
    (∀ i : Fin 4, t.pru.claims[i] = s.claimNow g i
        ∧ t.trm.heard[i] = (s.trm.heard[i]).afterClaim s.pru.claims[i] (s.claimNow g i))
      ∧ (t.flag .claimYielded = true ↔
          s.flag .claimYielded = true ∨ ∃ i : Fin 4, s.pru.claims[i] = .held ∧ s.claimNow g i = .yielded)
      ∧ (t.flag .claimResumed = true ↔
          s.flag .claimResumed = true ∨ ∃ i : Fin 4, s.pru.claims[i] = .yielded ∧ s.claimNow g i = .held)
      ∧ t.trm = { s.trm with heard := t.trm.heard }
      ∧ t.stc = s.stc ∧ t.now = s.now ∧ t.srx = s.srx ∧ t.pos = s.pos ∧ t.atc = s.atc
      ∧ t.pru = { s.pru with claims := t.pru.claims, seq := t.pru.seq }
      ∧ (if t.pru.claims ≠ s.pru.claims ∧ s.inService = true then
          t.pru.seq = s.pru.seq + 1 ∧ ∃ a, t.inq = { s.inq with slot := some a } ∧ a.origin = s.address
            ∧ a.seq = s.pru.seq ∧ a.flags.leaving = false ∧ a.streams = streamList g t.pru.claims
        else t.pru.seq = s.pru.seq ∧ t.inq = s.inq) := by
  obtain ⟨claims, yields, resumes, pru, trm, stc, now, srx, pos, atc, inq⟩ := s.sourcesSwept_items g
  have whole : s.claimsResolved g = if (s.sourcesSwept g).pru.claims ≠ s.pru.claims ∧ (s.sourcesSwept g).inService then
      (s.sourcesSwept g).announce false else s.sourcesSwept g := rfl
  generalize s.sourcesSwept g = u at *
  have service : u.inService = s.inService := by rw [State.inService, atc, State.inService]
  rw [service] at whole
  split at whole
  next changed =>
    have loaded : u.stc.image = some g := by rw [stc]; exact image
    obtain ⟨announced, slot⟩ := State.announce_eq loaded false
    have flags : ∀ f, (u.announce false).flag f = u.flag f := fun f =>
      ((u.tells_announce false).flag_stands (Set.notMem_empty f)).1
    have seq : u.pru.seq = s.pru.seq := by rw [pru]
    have frame := u.announce_frame false
    have seqs : (u.announce false).pru.seq = s.pru.seq + 1 := by rw [announced, seq]
    have kept : (u.announce false).pru.claims = u.pru.claims := by rw [announced]
    have waits : (u.announce false).inq = { s.inq with slot := some (u.announceNow g false) } := by rw [slot, inq]
    have rest : (u.announce false).pru = { s.pru with claims := u.pru.claims, seq := s.pru.seq + 1 } := by
      rw [announced, pru]
    simp only [whole, flags, kept, seqs, State.announce_frame, waits]
    refine ⟨claims, yields, resumes, trm, stc, now, srx, pos, atc, rest, ?_⟩
    rw [if_pos changed]
    exact ⟨trivial, _, rfl, by rw [State.announceNow, State.address, stc, State.address], seq, rfl, rfl⟩
  next quiet =>
    simp only [whole]
    rw [if_neg quiet]
    exact ⟨claims, yields, resumes, trm, stc, now, srx, pos, atc, by rw [pru], by rw [pru], inq⟩

/-- A position whose fallback timer alone may have moved. -/
theorem State.startFallback_stands (s : State) (p : Fin 4) :
    (s.pos.positions[p]).stands s.startFallback.pos.positions[p] := by
  unfold State.startFallback
  split
  · simp only [State.setPositions, State.withPos_pos, mapAll_get]
    exact ⟨rfl, rfl, rfl, rfl, rfl⟩
  · exact ⟨rfl, rfl, rfl, rfl, rfl⟩

/-- At a venue every fallback timer starts from 0 (R170). -/
theorem State.startFallback_timer {s : State} (venue : s.stc.straps.role = .venue) (p : Fin 4) :
    (s.startFallback.pos.positions[p]).timer = .running s.now := by
  have venue : s.venue = true := by rw [State.venue, venue]; rfl
  simp only [State.startFallback, venue, if_true, State.setPositions, State.withPos_pos, mapAll_get]
  rfl

/-- The start of the fallback timers is the positions' alone. -/
theorem State.startFallback_pos (s : State) :
    s.startFallback.pos = { s.pos with positions := s.startFallback.pos.positions } := by
  unfold State.startFallback
  split <;> rfl

/-- A subscription whose claimant has moved while its context was LOCKED: it leaves LOCKED (R111). -/
abbrev Image.leavesLocked (g : Image) (p : Pru) (n : Fin 16) (x : Option Address × Context) : Prop :=
  ∃ v, g.subscription n = some v ∧ x.1 ≠ p.claimant v.id ∧ x.2.state = .locked

section
variable {g : Image} {s u : State}

/-- STREAM_UNLOCKED is raised where a context leaves LOCKED (R111). -/
theorem State.resolveSubscription_unlocks (peers : u.pru.peers = s.pru.peers) (n : Fin 16) :
    (u.resolveSubscription g n).flag .streamUnlocked = true ↔
      u.flag .streamUnlocked = true ∨ g.leavesLocked s.pru n (u.subscriptionItems n) := by
  cases used : g.subscription n with
  | none => simp [State.resolveSubscription_none used, Image.leavesLocked, used]
  | some v =>
    obtain ⟨-, -, svp, -⟩ := State.resolveSubscription_items used u
    have leaves : g.leavesLocked s.pru n (u.subscriptionItems n)
        ↔ u.pru.reported[n] ≠ u.pru.claimant v.id ∧ (u.srx[n]).state = .locked := by
      rw [Pru.claimant_congr peers v.id]
      simp only [Image.leavesLocked, used, Option.some.injEq, exists_eq_left']
      rfl
    rw [leaves, State.flag, svp]
    split
    next both => exact iff_of_true (by rw [← State.flag, State.flag_raise]; simp) (.inr both)
    next stays => exact ⟨.inl, fun told => told.resolve_right stays⟩

/-- The fallback timers start where that context is the return programme's (R170). -/
theorem State.resolveSubscription_restarts (same : u.pru.peers = s.pru.peers ∧ u.stc = s.stc ∧ u.now = s.now)
    (venue : s.stc.straps.role = .venue) (n : Fin 16) :
    (∀ p : Fin 4, ((u.resolveSubscription g n).pos.positions[p]).timer = .running s.now) ↔
      (∀ p : Fin 4, (u.pos.positions[p]).timer = .running s.now)
        ∨ s.returnStream = some n ∧ g.leavesLocked s.pru n (u.subscriptionItems n) := by
  obtain ⟨peers, stc, now⟩ := same
  cases used : g.subscription n with
  | none => simp [State.resolveSubscription_none used, Image.leavesLocked, used]
  | some v =>
    obtain ⟨-, -, -, pos⟩ := State.resolveSubscription_items used u
    have leaves : s.returnStream = some n ∧ g.leavesLocked s.pru n (u.subscriptionItems n)
        ↔ u.pru.reported[n] ≠ u.pru.claimant v.id ∧ (u.srx[n]).state = .locked ∧ u.returnStream = some n := by
      have returns : u.returnStream = s.returnStream := by rw [State.returnStream, stc, State.returnStream]
      rw [Pru.claimant_congr peers v.id, returns]
      simp only [Image.leavesLocked, used, Option.some.injEq, exists_eq_left']
      exact ⟨fun ⟨hears, moved, locked⟩ => ⟨moved, locked, hears⟩, fun ⟨moved, locked, hears⟩ => ⟨hears, moved, locked⟩⟩
    rw [leaves, pos]
    split
    next all =>
      refine iff_of_true (fun p => ?_) (.inr all)
      rw [State.startFallback_timer (by rw [stc]; exact venue), now]
    next stays => exact ⟨.inl, fun told => told.resolve_right stays⟩

theorem Position.stands_refl (p : Position) : p.stands p := ⟨rfl, rfl, rfl, rfl, rfl⟩

theorem Position.stands.trans {p q r : Position} (h : p.stands q) (k : q.stands r) : p.stands r := by
  obtain ⟨onAir, talk, tag, talkback, latch⟩ := h
  obtain ⟨onAir', talk', tag', talkback', latch'⟩ := k
  exact ⟨onAir'.trans onAir, talk'.trans talk, tag'.trans tag, talkback'.trans talkback, latch'.trans latch⟩

/-- The lamps, talk requests, talkbacks and latches stand. -/
theorem State.resolveSubscription_stands (g : Image) (u : State) (n : Fin 16) (p : Fin 4) :
    (u.pos.positions[p]).stands (u.resolveSubscription g n).pos.positions[p] := by
  cases used : g.subscription n with
  | none => rw [State.resolveSubscription_none used]; exact Position.stands_refl _
  | some v =>
    obtain ⟨-, -, -, pos⟩ := State.resolveSubscription_items used u
    rw [pos]
    split
    · exact u.startFallback_stands p
    · exact Position.stands_refl _

theorem State.resolveSubscription_pos (g : Image) (u : State) (n : Fin 16) :
    (u.resolveSubscription g n).pos = { u.pos with positions := (u.resolveSubscription g n).pos.positions } := by
  cases used : g.subscription n with
  | none => rw [State.resolveSubscription_none used]
  | some v =>
    obtain ⟨-, -, -, pos⟩ := State.resolveSubscription_items used u
    rw [pos]
    split
    · exact u.startFallback_pos
    · rfl

theorem State.resolveSubscription_quiet (none : ∀ n, u.returnStream ≠ some n) (n : Fin 16) :
    (u.resolveSubscription g n).pos = u.pos := by
  cases used : g.subscription n with
  | none => rw [State.resolveSubscription_none used]
  | some v =>
    obtain ⟨-, -, -, pos⟩ := State.resolveSubscription_items used u
    rw [pos, if_neg fun all => none n all.2.2]

end

/-- A relation that each step of a fold is in, and that chains, holds of the whole. -/
theorem foldl_relates {α β : Type} {R : β → β → Prop} (refl : ∀ b, R b b) (trans : ∀ {b c d}, R b c → R c d → R b d)
    {f : β → α → β} (one : ∀ b a, R b (f b a)) (l : List α) (b : β) : R b (l.foldl f b) := by
  induction l generalizing b with
  | nil => exact refl b
  | cons a l ih => exact trans (one b a) (ih (f b a))

/-- The claimants swept (R82, R108 to R111, R170). -/
theorem State.claimantsSwept_items (g : Image) (s : State) :
    let u := s.claimantsSwept g
    (∀ n, u.subscriptionItems n = g.claimantMoves s.pru n (s.subscriptionItems n))
      ∧ (u.flag .streamUnlocked = true ↔
          s.flag .streamUnlocked = true ∨ ∃ n, g.leavesLocked s.pru n (s.subscriptionItems n))
      ∧ ((∃ n, s.returnStream = some n ∧ g.leavesLocked s.pru n (s.subscriptionItems n)) →
          s.stc.straps.role = .venue → ∀ p : Fin 4, (u.pos.positions[p]).timer = .running s.now)
      ∧ (∀ p : Fin 4, (s.pos.positions[p]).stands u.pos.positions[p])
      ∧ ((∀ n, s.returnStream ≠ some n) → u.pos = s.pos)
      ∧ u.pos = { s.pos with positions := u.pos.positions }
      ∧ (∀ f, f ≠ .streamUnlocked → u.flag f = s.flag f)
      ∧ (∀ c, u.counter c = s.counter c)
      ∧ u.pru = { s.pru with reported := u.pru.reported }
      ∧ u.stc = s.stc ∧ u.now = s.now ∧ u.trm = s.trm ∧ u.inq = s.inq := by
  have sweep := s.sweep_subscriptions g
  have start : s.pru.peers = s.pru.peers ∧ s.stc = s.stc ∧ s.now = s.now := ⟨rfl, rfl, rfl⟩
  have swept : s.claimantsSwept g = (List.finRange 16).foldl (State.resolveSubscription g) s := by
    rw [State.claimantsSwept]
  generalize s.claimantsSwept g = u at swept
  have fields : ∀ {γ : Type} (p : State → γ) (_ : ∀ u n, p (State.resolveSubscription g u n) = p u), p u = p s :=
    fun p h => by rw [swept]; exact foldl_keeps (p := p) _ h _ _
  have tells : State.Tells {.streamUnlocked} ∅ s u := by
    rw [swept]
    exact State.Tells.foldl (State.tells_resolveSubscription g) _ _
  have items : ∀ n, u.subscriptionItems n = g.claimantMoves s.pru n (s.subscriptionItems n) := by
    rw [swept]
    exact sweep.get_all start
  have unlocks : u.flag .streamUnlocked = true ↔
      s.flag .streamUnlocked = true ∨ ∃ n, g.leavesLocked s.pru n (s.subscriptionItems n) := by
    rw [swept]
    exact sweep.told_all (told := fun u => u.flag .streamUnlocked = true)
      (tells := fun n a => g.leavesLocked s.pru n a) (fun u n q => State.resolveSubscription_unlocks q.1 n) start
  have restarts : s.stc.straps.role = .venue → ((∀ p : Fin 4, (u.pos.positions[p]).timer = .running s.now) ↔
      (∀ p : Fin 4, (s.pos.positions[p]).timer = .running s.now)
        ∨ ∃ n, s.returnStream = some n ∧ g.leavesLocked s.pru n (s.subscriptionItems n)) := by
    rw [swept]
    exact fun venue => sweep.told_all
      (told := fun u => ∀ p : Fin 4, (u.pos.positions[p]).timer = .running s.now)
      (tells := fun n a => s.returnStream = some n ∧ g.leavesLocked s.pru n a)
      (fun u n q => State.resolveSubscription_restarts q venue n) start
  have stands : ∀ p : Fin 4, (s.pos.positions[p]).stands u.pos.positions[p] := by
    rw [swept]
    exact fun p => foldl_relates (R := fun u v : State => (u.pos.positions[p]).stands v.pos.positions[p])
      (fun u => Position.stands_refl _) (fun h k => h.trans k) (fun (u : State) n => u.resolveSubscription_stands g n p) _ _
  have quiet : (∀ n, s.returnStream ≠ some n) → u.pos = s.pos := by
    rw [swept]
    exact fun none => sweep.field_all State.pos (fun u n q => State.resolveSubscription_quiet (g := g) (fun n => by
      rw [State.returnStream, q.2.1]; exact none n) n) start
  have positions := fields (fun u => { u.pos with positions := s.pos.positions }) fun u n =>
    congrArg (fun x : Pos => { x with positions := s.pos.positions }) (u.resolveSubscription_pos g n)
  have pru := fields (fun u => { u.pru with reported := s.pru.reported }) fun u n => by
    cases used : g.subscription n with
    | none => rw [State.resolveSubscription_none used]
    | some v => rw [(State.resolveSubscription_items used u).1]
  have others : u.stc = s.stc ∧ u.now = s.now ∧ u.trm = s.trm ∧ u.inq = s.inq :=
    ⟨fields State.stc (by simp), fields State.now (by simp), fields State.trm (by simp), fields State.inq (by simp)⟩
  exact ⟨items, unlocks, fun ⟨n, hears, leaves⟩ venue => (restarts venue).mpr (.inr ⟨n, hears, leaves⟩), stands, quiet,
    congrArg (fun x : Pos => { x with positions := u.pos.positions }) positions,
    fun f other => (tells.flag_stands other).1, fun c => tells.counter_stands (Set.notMem_empty c),
    congrArg (fun x : Pru => { x with reported := u.pru.reported }) pru, others⟩

/-! ## The resolution as the statements say it -/

section
variable {g : Image} {s : State}

theorem State.claimNow_yielded {i : Fin 4} :
    s.claimNow g i = .yielded ↔ ∃ c ∈ g.source i, s.pru.lowerLists s.address c.id = true := by
  unfold State.claimNow
  cases g.source i with
  | none => simp
  | some c => simp

theorem State.resolveClaims_pru (image : s.stc.image = some g) :
    s.resolveClaims.pru = { s.pru with
      claims := s.resolveClaims.pru.claims, seq := s.resolveClaims.pru.seq, reported := s.resolveClaims.pru.reported } := by
  obtain ⟨-, -, -, -, -, -, -, -, -, pru, -⟩ := State.claimsResolved_items image
  obtain ⟨-, -, -, -, -, -, -, -, pru', -⟩ := (s.claimsResolved g).claimantsSwept_items g
  rw [State.resolveClaims_eq image, pru', pru]

/-- The claims become those the table gives (R70, R80, R81). -/
theorem State.resolveClaims_claimsMove (image : s.stc.image = some g) : State.claimsMove g s s.resolveClaims := by
  obtain ⟨claims, yields, resumes, -, -, -, -, -, -, pru, offers⟩ := State.claimsResolved_items image
  obtain ⟨-, -, -, -, -, -, flags, -, pru', -, -, trm, inq⟩ := (s.claimsResolved g).claimantsSwept_items g
  rw [← State.resolveClaims_eq image] at flags pru' trm inq
  have now : ∀ i : Fin 4, s.resolveClaims.pru.claims[i] = s.claimNow g i := fun i => by rw [pru']; exact (claims i).1
  have peers : s.resolveClaims.pru.peers = s.pru.peers := by rw [pru', pru]
  have table : s.resolveClaims.pru.claims = (s.claimsResolved g).pru.claims := by rw [pru']
  have seq : s.resolveClaims.pru.seq = (s.claimsResolved g).pru.seq := by rw [pru']
  refine ⟨fun i => ?_, ?_, ?_, fun i => ?_, ?_⟩
  · rw [now, State.claimNow_yielded]
    simp only [Pru.lowerLists, Pru.listedAt, peers]
  · rw [flags _ (by decide), yields]
    simp only [now]
  · rw [flags _ (by decide), resumes]
    simp only [now]
  · rw [trm, now, (claims i).2]
    rfl
  · rw [table, seq, inq]
    split
    next changed =>
      obtain ⟨next, a, slot, origin, number, final, streams⟩ := (if_pos changed).mp offers
      exact ⟨next, a, by rw [slot], origin, number, final, streams⟩
    next stays => exact (if_neg stays).mp offers

/-- The claimants become those the table gives (R82, R108 to R111, R170). -/
theorem State.resolveClaims_claimantsMove (image : s.stc.image = some g) : State.claimantsMove g s s.resolveClaims := by
  obtain ⟨-, -, -, -, stc, now, srx, -, -, pru, -⟩ := State.claimsResolved_items image
  obtain ⟨items, unlocks, restarts, -⟩ := (s.claimsResolved g).claimantsSwept_items g
  rw [← State.resolveClaims_eq image] at items unlocks restarts
  have peers : s.resolveClaims.pru.peers = s.pru.peers := by rw [State.resolveClaims_pru image]
  have before : ∀ n, (s.claimsResolved g).subscriptionItems n = s.subscriptionItems n := fun n => by
    rw [State.subscriptionItems, pru, srx]
    rfl
  have table : ∀ id, (s.claimsResolved g).pru.claimant id = s.pru.claimant id :=
    Pru.claimant_congr (by rw [pru])
  have given : ∀ id, s.resolveClaims.pru.claimant id = s.pru.claimant id := Pru.claimant_congr peers
  intro n u used
  have own : s.resolveClaims.subscriptionItems n = claimantMoves (s.pru.claimant u.id) (s.subscriptionItems n) := by
    rw [items n, before n, ← table]
    simp [Image.claimantMoves, used]
  dsimp only
  rw [given]
  have reported : s.resolveClaims.pru.reported[n] = s.pru.claimant u.id :=
    (congrArg Prod.fst own).trans (claimantMoves_fst ..)
  have context : s.resolveClaims.srx[n] = (claimantMoves (s.pru.claimant u.id) (s.subscriptionItems n)).2 :=
    congrArg Prod.snd own
  refine ⟨reported, fun same => ?_, fun moved free => ?_, fun moved locked => ?_⟩
  · rw [context, claimantMoves_same same]
    rfl
  · rw [context, claimantMoves_moved moved]
    exact if_neg free
  · have leaves : g.leavesLocked (s.claimsResolved g).pru n ((s.claimsResolved g).subscriptionItems n) := by
      rw [before]
      exact ⟨u, used, by rw [table]; exact moved, locked⟩
    refine ⟨unlocks.mpr (.inr ⟨n, leaves⟩), ?_, fun venue returns p => ?_⟩
    · have left : s.resolveClaims.srx[n] = (s.srx[n]).unlocked (stateFor (s.pru.claimant u.id)) (s.pru.claimant u.id) := by
        rw [context, claimantMoves_moved moved]
        exact if_pos locked
      rw [left]
      exact Context.unlocked_hasLeft ..
    · have hears : (s.claimsResolved g).returnStream = some n := by
        rw [State.returnStream, stc, image]
        exact returns
      rw [restarts ⟨n, hears, leaves⟩ (by rw [stc]; exact venue) p, now]
      simp

/-- What the resolution leaves at the panel: of a position its fallback timer and selection alone may move. -/
theorem State.resolveClaims_panel (image : s.stc.image = some g) :
    (∀ p : Fin 4, (s.pos.positions[p]).stands s.resolveClaims.pos.positions[p])
      ∧ ((∀ n, s.returnStream ≠ some n) → s.resolveClaims.pos = s.pos)
      ∧ s.resolveClaims.pos = { s.pos with positions := s.resolveClaims.pos.positions } := by
  obtain ⟨-, -, -, -, stc, -, -, pos, -⟩ := State.claimsResolved_items image
  obtain ⟨-, -, -, stands, quiet, positions, -⟩ := (s.claimsResolved g).claimantsSwept_items g
  rw [← State.resolveClaims_eq image] at stands quiet positions
  rw [pos] at stands quiet positions
  refine ⟨stands, fun none => quiet fun n => ?_, positions⟩
  rw [State.returnStream, stc, ← State.returnStream]
  exact none n

/-- Of the Transit Monitor the heard states alone may move. -/
theorem State.resolveClaims_trm (image : s.stc.image = some g) :
    s.resolveClaims.trm = { s.trm with heard := s.resolveClaims.trm.heard } := by
  obtain ⟨-, -, -, trm, -⟩ := State.claimsResolved_items image
  obtain ⟨-, -, -, -, -, -, -, -, -, -, -, trm', -⟩ := (s.claimsResolved g).claimantsSwept_items g
  rw [State.resolveClaims_eq image, trm', trm]

end

end Sys2Proof.Machine

/-! SUPPORT. What the clearing of a ring restart makes of the stream contexts and the panel (02 R30, R33; 07 R106, R111; 10
R170, R176). -/

namespace Sys2Proof.Machine

/-- Every context is WAITING without origin (R106, R111). -/
@[irreducible] def State.contextsCleared (s : State) : State :=
  (List.finRange 16).foldl (fun s n => s.toUnlocked n .waiting none) s

theorem State.restartClearing_eq (s : State) : s.restartClearing = s.clearPresence.contextsCleared.clearPositions := by
  unfold State.restartClearing State.contextsCleared
  rfl

theorem State.sweep_contexts (s : State) :
    Sweep (fun u n => State.toUnlocked u n .waiting none) (fun u => u.stc = s.stc ∧ u.now = s.now)
      (fun u n => u.srx[n]) fun _ x => x.turnedTo .waiting none where
  keeps u n q := by simpa using q
  own u n q := by
    rw [State.toUnlocked_srx]
    exact modifyAt_self ..
  other u n m q ne := by
    rw [State.toUnlocked_srx]
    exact modifyAt_other _ ne _

/-- In the sweep no context comes to be LOCKED. -/
theorem State.sweep_contexts_free (s : State) (n : Fin 16) :
    Sweep (fun u n => State.toUnlocked u n .waiting none)
      (fun u => (u.stc = s.stc ∧ u.now = s.now) ∧ ((u.srx[n]).state = .locked → (s.srx[n]).state = .locked))
      (fun u n => u.srx[n]) fun _ x => x.turnedTo .waiting none where
  keeps u m q := by
    obtain ⟨same, free⟩ := q
    refine ⟨s.sweep_contexts.keeps u m same, fun locked => ?_⟩
    rw [State.toUnlocked_srx, modifyAt_get] at locked
    split at locked
    · rw [(Context.turnedTo_items ..).1] at locked
      cases locked
    · exact free locked
  own u m q := s.sweep_contexts.own u m q.1
  other u m j q ne := s.sweep_contexts.other u m j q.1 ne

/-- A fallback timer after a clearing that may have started it. -/
theorem State.toUnlocked_timer (s : State) (n : Fin 16) (state : StreamState) (origin : Option Address) (p : Fin 4) :
    ((s.toUnlocked n state origin).pos.positions[p]).timer
      = if (s.srx[n]).state = .locked ∧ s.returnStream = some n ∧ s.stc.straps.role = .venue then
          FallbackTimer.running s.now
        else (s.pos.positions[p]).timer := by
  rw [State.toUnlocked_pos]
  by_cases leaves : (s.srx[n]).state = .locked ∧ s.returnStream = some n
  · rw [if_pos leaves]
    by_cases venue : s.stc.straps.role = .venue
    · rw [if_pos ⟨leaves.1, leaves.2, venue⟩, State.startFallback_timer venue]
    · have away : s.venue ≠ true := by simpa [State.venue] using venue
      rw [if_neg fun all => venue all.2.2, State.startFallback, if_neg away]
  · rw [if_neg leaves, if_neg fun all => leaves ⟨all.1, all.2.1⟩]

/-- What the clearing of the contexts changes. -/
theorem State.contextsCleared_items (s : State) :
    let u := s.contextsCleared
    (∀ n : Fin 16, u.srx[n] = (s.srx[n]).turnedTo .waiting none)
      ∧ (u.flag .streamUnlocked = true ↔ s.flag .streamUnlocked = true ∨ ∃ n : Fin 16, (s.srx[n]).state = .locked)
      ∧ (∀ p : Fin 4, (s.pos.positions[p]).stands u.pos.positions[p])
      ∧ (∀ (p : Fin 4) (n : Fin 16), s.returnStream = some n → (u.pos.positions[p]).timer
          = if (s.srx[n]).state = .locked ∧ s.stc.straps.role = .venue then FallbackTimer.running s.now
            else (s.pos.positions[p]).timer)
      ∧ u.stc = s.stc ∧ u.now = s.now := by
  have sweep := s.sweep_contexts
  have start : s.stc = s.stc ∧ s.now = s.now := ⟨rfl, rfl⟩
  have swept : s.contextsCleared = (List.finRange 16).foldl (fun s n => s.toUnlocked n .waiting none) s := by
    unfold State.contextsCleared
    rfl
  generalize s.contextsCleared = u at swept
  have keeps : u.stc = s.stc ∧ u.now = s.now := by
    rw [swept]
    exact sweep.keeps_all start
  have contexts : ∀ n : Fin 16, u.srx[n] = (s.srx[n]).turnedTo .waiting none := by
    rw [swept]
    exact sweep.get_all start
  have unlocks : u.flag .streamUnlocked = true ↔
      s.flag .streamUnlocked = true ∨ ∃ n : Fin 16, (s.srx[n]).state = .locked := by
    rw [swept]
    refine sweep.told_all (told := fun u => u.flag .streamUnlocked = true) (tells := fun _ x => x.state = .locked)
      (fun u n q => ?_) start
    rw [State.flag, State.toUnlocked_svp]
    split
    next locked => exact iff_of_true (by rw [← State.flag, State.flag_raise]; simp) (.inr locked)
    next free => exact ⟨.inl, fun told => told.resolve_right free⟩
  have stands : ∀ p : Fin 4, (s.pos.positions[p]).stands u.pos.positions[p] := by
    rw [swept]
    refine fun p => foldl_relates (R := fun u v : State => (u.pos.positions[p]).stands v.pos.positions[p])
      (fun u => Position.stands_refl _) (fun h k => h.trans k) (fun (u : State) n => ?_) _ _
    rw [State.toUnlocked_pos]
    split
    · exact u.startFallback_stands p
    · exact Position.stands_refl _
  refine ⟨contexts, unlocks, stands, fun p n returns => ?_, keeps⟩
  split
  next both =>
    have started : (u.pos.positions[p]).timer = .running s.now ↔ (s.pos.positions[p]).timer = .running s.now
        ∨ ∃ m : Fin 16, (s.srx[m]).state = .locked ∧ s.returnStream = some m := by
      rw [swept]
      refine sweep.told_all (told := fun u => (u.pos.positions[p]).timer = .running s.now)
        (tells := fun m x => x.state = .locked ∧ s.returnStream = some m) (fun u m q => ?_) start
      obtain ⟨stc, now⟩ := q
      have returned : u.returnStream = s.returnStream := by rw [State.returnStream, stc, State.returnStream]
      rw [State.toUnlocked_timer, stc, now, returned]
      split
      next starts => exact iff_of_true rfl (.inr ⟨starts.1, starts.2.1⟩)
      next stays => exact ⟨.inl, fun told => told.resolve_right fun leaves => stays ⟨leaves.1, leaves.2, both.2⟩⟩
    exact started.mpr (.inr ⟨n, both.1, returns⟩)
  next quiet =>
    rw [swept]
    refine (s.sweep_contexts_free n).field_all (fun u => (u.pos.positions[p]).timer) (fun u m q => ?_) ⟨start, id⟩
    obtain ⟨⟨stc, -⟩, free⟩ := q
    rw [State.toUnlocked_timer, if_neg]
    rintro ⟨locked, hears, venue⟩
    have same : m = n := by
      rw [State.returnStream, stc, ← State.returnStream, returns] at hears
      exact (Option.some.inj hears).symm
    exact quiet ⟨free (same ▸ locked), stc ▸ venue⟩

end Sys2Proof.Machine

/-! SUPPORT. Every step keeps claims and claimants those the peer table gives (05 R79 to R82, 07 R108 to R111). -/

namespace Sys2Proof.Machine

/-! ## What leaves the claims and claimants -/

/-- A context keeps its origin, and WAITING where it was so. -/
def Context.Holds (x y : Context) : Prop := y.origin = x.origin ∧ (y.state = .waiting ↔ x.state = .waiting)

theorem Context.Holds.refl (x : Context) : x.Holds x := ⟨rfl, Iff.rfl⟩

theorem Context.holds_of_eq {x y : Context} (origin : y.origin = x.origin) (state : y.state = x.state) : x.Holds y :=
  ⟨origin, by rw [state]⟩

/-- A context that is not WAITING is aligned (R126, R127). -/
theorem Context.holds_align {x : Context} (g : Image) (f : AudioFrame) (a : Word) (o : Option RunOut)
    (active : x.state ≠ .waiting) : x.Holds (x.align g f a o) :=
  ⟨rfl, ⟨nofun, fun waiting => absurd waiting active⟩⟩

theorem Context.holds_relock {x : Context} (g : Image) (f : AudioFrame) (a : Word) (active : x.state ≠ .waiting) :
    x.Holds (x.relock g f a) := Context.holds_align g f a x.runningOut active

theorem Context.inRange_origin (x : Context) (g : Image) (f : AudioFrame) (a : Word) :
    (x.inRange g f a).origin = x.origin := by
  unfold Context.inRange Context.holdoffStep Context.slipTest
  split
  · rfl
  split
  · split
    · rfl
    · split <;> rfl
  · rfl

theorem Context.holds_marginTest {x : Context} (g : Image) (f : AudioFrame) (a : Word) (active : x.state ≠ .waiting) :
    x.Holds (x.marginTest g f a).1 := by
  unfold Context.marginTest
  split
  · dsimp only
    split
    · exact Context.holds_relock (x := { x.countOne .late with lateRun := x.lateRun + 1, earlyRun := 0 }) g f a active
    · exact .refl x
  split
  · dsimp only
    split
    · exact Context.holds_relock (x := { x.countOne .early with earlyRun := x.earlyRun + 1, lateRun := 0 }) g f a active
    · exact .refl x
  · obtain ⟨-, -, -, -, state, -⟩ := x.inRange_frame g f a
    exact Context.holds_of_eq (x.inRange_origin g f a) state

/-- An offered block leaves the origin, and no context enters or leaves WAITING by it (R114 to R119). -/
theorem Context.holds_offer (x : Context) (g : Image) (f : AudioFrame) (a : Word) : x.Holds (x.offer g f a).1 := by
  unfold Context.offer
  split
  · exact .refl x
  split
  · exact .refl x
  split
  · exact .refl x
  next acquiring => exact Context.holds_align g f a _ (by simp [acquiring])
  next locked =>
    have active : x.state ≠ .waiting := by simp [locked]
    unfold Context.lockedTest
    dsimp only
    split
    · exact .refl x
    split
    · exact Context.holds_relock g f a active
    split
    · exact Context.holds_marginTest (x := (x.countBy .lost _).advance g.block f) g f a active
    · exact Context.holds_relock (x := x.countBy .lost _) g f a active

/-- The peer table, the claims, the claimants and what they are of stand. -/
structure State.ClaimsStand (s t : State) : Prop where
  image : t.stc.image = s.stc.image
  address : t.address = s.address
  peers : t.pru.peers = s.pru.peers
  claims : t.pru.claims = s.pru.claims
  reported : t.pru.reported = s.pru.reported
  contexts : ∀ n : Fin 16, (s.srx[n]).Holds t.srx[n]

section
variable {s t : State}

theorem State.claimsStand_of_eq (stc : t.stc = s.stc) (srx : t.srx = s.srx) (peers : t.pru.peers = s.pru.peers)
    (claims : t.pru.claims = s.pru.claims) (reported : t.pru.reported = s.pru.reported) : State.ClaimsStand s t :=
  ⟨by rw [stc], by rw [State.address, stc, State.address], peers, claims, reported, fun n => by rw [srx]; exact .refl _⟩

theorem State.ClaimsStand.claimsSound (h : State.ClaimsStand s t) (sound : s.claimsSound) : t.claimsSound := by
  obtain ⟨loaded, unloaded⟩ := sound
  refine ⟨fun g image => ?_, fun none => ?_⟩
  · obtain ⟨claims, claimants, own⟩ := loaded g (h.image ▸ image)
    have lists : ∀ id, t.pru.lowerLists t.address id = s.pru.lowerLists s.address id := fun id => by
      simp only [Pru.lowerLists, Pru.listedAt, h.peers, h.address]
    refine ⟨fun i => ?_, fun n u used => ?_, fun i same => ?_⟩
    · rw [h.claims]
      simpa only [lists] using claims i
    · obtain ⟨origin, waiting⟩ := h.contexts n
      rw [Pru.claimant_congr h.peers, h.reported, origin, waiting]
      exact claimants n u used
    · rw [h.peers]
      exact own i (h.address ▸ same)
  · rw [h.peers, h.claims, h.reported]
    exact unloaded (h.image ▸ none)

end

/-! ## The resolution -/

/-- The claims and claimants resolved are those the table gives, where the contexts held those last reported and the
station has no entry of its own (R79 to R82). -/
theorem State.resolveClaims_claimsSound {s : State} {g : Image} (image : s.stc.image = some g)
    (tracks : ∀ n : Fin 16, ∀ u ∈ g.subscription n, (s.srx[n]).origin = s.pru.reported[n]
      ∧ ((s.srx[n]).state = .waiting ↔ s.pru.reported[n] = none))
    (own : ∀ i : Fin 30, addressAt i = s.address → (s.pru.peers[i]).present = false) : s.resolveClaims.claimsSound := by
  have loaded : s.resolveClaims.stc.image = some g := by simpa using image
  have peers : s.resolveClaims.pru.peers = s.pru.peers := by rw [State.resolveClaims_pru image]
  have address : s.resolveClaims.address = s.address := by simp [State.address]
  obtain ⟨claims, -⟩ := State.resolveClaims_claimsMove image
  have moves := State.resolveClaims_claimantsMove image
  refine ⟨fun h mem => ?_, fun none => by rw [loaded] at none; cases none⟩
  obtain rfl : g = h := Option.some.inj (loaded.symm.trans mem)
  refine ⟨fun i => ?_, fun n u used => ?_, fun i same => ?_⟩
  · rw [address]
    exact claims i
  · obtain ⟨reported, same, turned, left⟩ := moves n u used
    obtain ⟨origin, waiting⟩ := tracks n u used
    refine ⟨reported, ?_⟩
    by_cases stands : s.pru.reported[n] = s.resolveClaims.pru.claimant u.id
    · rw [same stands, ← stands]
      exact ⟨origin, waiting⟩
    · have states : (if (s.resolveClaims.pru.claimant u.id).isSome = true then StreamState.acquiring else .waiting)
          = .waiting ↔ s.resolveClaims.pru.claimant u.id = none := by
        cases s.resolveClaims.pru.claimant u.id <;> simp
      by_cases locked : (s.srx[n]).state = .locked
      · obtain ⟨-, leaves, -⟩ := left stands locked
        rw [leaves]
        exact ⟨rfl, states⟩
      · rw [turned stands locked]
        exact ⟨rfl, states⟩
  · rw [peers]
    exact own i (address ▸ same)

section
variable {s : State} {g : Image}

/-- What sound claims say of the contexts and of the station's own place. -/
theorem State.claimsSound.tracks (sound : s.claimsSound) (image : s.stc.image = some g) :
    (∀ n : Fin 16, ∀ u ∈ g.subscription n, (s.srx[n]).origin = s.pru.reported[n]
      ∧ ((s.srx[n]).state = .waiting ↔ s.pru.reported[n] = none))
    ∧ ∀ i : Fin 30, addressAt i = s.address → (s.pru.peers[i]).present = false := by
  obtain ⟨loaded, -⟩ := sound
  obtain ⟨-, claimants, own⟩ := loaded g image
  refine ⟨fun n u used => ?_, own⟩
  obtain ⟨reported, origin, waiting⟩ := claimants n u used
  rw [reported]
  exact ⟨origin, waiting⟩

/-- A change of another station's entry, resolved (R75, R77, R82). -/
theorem State.setPeer_resolved {t : State} (sound : s.claimsSound) (image : s.stc.image = some g) {i : Fin 30}
    (foreign : addressAt i ≠ s.address) (p : Peer) (stc : t.stc = s.stc) (srx : t.srx = s.srx)
    (pru : t.pru = (s.setPeer i p).pru) : t.resolveClaims.claimsSound := by
  obtain ⟨tracks, own⟩ := sound.tracks image
  have address : t.address = s.address := by rw [State.address, stc, State.address]
  refine State.resolveClaims_claimsSound (g := g) (by rw [stc, image]) ?_ fun j same => ?_
  · rw [srx, pru]
    exact tracks
  · rw [address] at same
    have other : j ≠ i := fun e => foreign (e ▸ same)
    have entry : (s.setPeer i p).pru.peers[j] = s.pru.peers[j] := modifyAt_other _ other _
    rw [pru, entry]
    exact own j same

/-- A change of another station's entry that moves nothing it lists (R76). -/
theorem State.setPeer_unlisted {t : State} (sound : s.claimsSound) (image : s.stc.image = some g) {i : Fin 30}
    (foreign : addressAt i ≠ s.address) {p : Peer}
    (lists : ∀ id, (p.present && p.lists id) = ((s.pru.peers[i]).present && (s.pru.peers[i]).lists id))
    (stc : t.stc = s.stc) (srx : t.srx = s.srx) (pru : t.pru = (s.setPeer i p).pru) : t.claimsSound := by
  have ⟨loaded, _⟩ := sound
  obtain ⟨claims, claimants, own⟩ := loaded g image
  have address : t.address = s.address := by rw [State.address, stc, State.address]
  have listed : ∀ id j, t.pru.listedAt id j = s.pru.listedAt id j := by
    intro id j
    have entry : t.pru.peers[j] = if j = i then p else s.pru.peers[j] := by
      rw [pru]
      exact modifyAt_get s.pru.peers i j fun _ => p
    rw [Pru.listedAt, Pru.listedAt, entry]
    split
    next same => rw [same]; exact lists id
    next => rfl
  have lower : ∀ id, t.pru.lowerLists t.address id = s.pru.lowerLists s.address id := fun id => by
    simp only [Pru.lowerLists, listed, address]
  have claimant : ∀ id, t.pru.claimant id = s.pru.claimant id := fun id => by
    have same : t.pru.listedAt id = s.pru.listedAt id := funext (listed id)
    rw [Pru.claimant, Pru.claimant, same]
  have table : t.pru.claims = s.pru.claims ∧ t.pru.reported = s.pru.reported := by rw [pru]; exact ⟨rfl, rfl⟩
  refine ⟨fun h mem => ?_, fun none => by rw [stc, image] at none; cases none⟩
  obtain rfl : g = h := Option.some.inj ((stc ▸ image).symm.trans mem)
  refine ⟨fun k => ?_, fun n u used => ?_, fun j same => ?_⟩
  · rw [table.1]
    simpa only [lower] using claims k
  · rw [table.2, srx, claimant]
    exact claimants n u used
  · rw [address] at same
    have other : j ≠ i := fun e => foreign (e ▸ same)
    have entry : (s.setPeer i p).pru.peers[j] = s.pru.peers[j] := modifyAt_other _ other _
    rw [pru, entry]
    exact own j same

/-- A departure resolved leaves the claims sound, whatever the panel does (R76, R83). -/
theorem State.departure_claimsSound (sound : s.claimsSound) (image : s.stc.image = some g) {i : Fin 30}
    (foreign : addressAt i ≠ s.address) (p : Peer) : ((s.setPeer i p).departure i).claimsSound := by
  have resolved : ((s.setPeer i p).raise .peerExpired).resolveClaims.claimsSound :=
    State.setPeer_resolved sound image foreign p rfl rfl rfl
  have departs : State.ClaimsStand ((s.setPeer i p).raise .peerExpired).resolveClaims ((s.setPeer i p).departure i) :=
    State.claimsStand_of_eq (by simp [State.departure]) (by simp [State.departure]) (by simp [State.departure])
      (by simp [State.departure]) (by simp [State.departure])
  exact departs.claimsSound resolved

/-- An announce of another station (R74 to R76). -/
theorem State.takeAnnounce_claimsSound (sound : s.claimsSound) (image : s.stc.image = some g) {i : Fin 30}
    (foreign : addressAt i ≠ s.address) (f : AnnounceFrame) : (s.takeAnnounce f i).claimsSound := by
  unfold State.takeAnnounce
  dsimp only
  split
  next leaves =>
    split
    next => exact State.departure_claimsSound sound image foreign _
    next absent =>
      refine State.setPeer_unlisted sound image foreign (fun id => ?_) rfl rfl rfl
      rw [Bool.eq_false_iff.mpr absent]
      simp [AnnounceFrame.peer, leaves]
  next stays =>
    split
    next present =>
      split
      next same =>
        refine State.setPeer_unlisted sound image foreign
          (p := f.peer (!f.flags.leaving) s.ringTime) (fun id => ?_) rfl rfl rfl
        rw [Peer.lists, Peer.lists, present, same]
        simp [AnnounceFrame.peer, stays]
      next => exact State.setPeer_resolved sound image foreign _ rfl rfl rfl
    next => exact State.setPeer_resolved sound image foreign _ rfl rfl rfl

end

/-! ## Every step -/

section
variable {s : State}

/-- With every entry ABSENT there is no claimant, and no lower peer lists an ID. -/
theorem Pru.listed_none {p : Pru} (reset : p.peers = Vector.replicate 30 Peer.reset) (id : StreamId) (own : Address) :
    p.claimant id = none ∧ p.lowerLists own id = false := by
  have absent : ∀ i, p.listedAt id i = false := fun i => by
    rw [Pru.listedAt, reset, replicate_get]
    rfl
  constructor
  · rw [Pru.claimant, Option.map_eq_none_iff, List.find?_eq_none]
    simp [absent]
  · simp [Pru.lowerLists, absent]

/-- An empty table's claims (R72, R81, R106). -/
theorem State.claimsSound_of_reset (peers : s.pru.peers = Vector.replicate 30 Peer.reset)
    (claims : s.pru.claims = Vector.replicate 4 .held) (reported : s.pru.reported = Vector.replicate 16 none)
    (contexts : s.stc.image.isSome → ∀ n : Fin 16, (s.srx[n]).state = .waiting ∧ (s.srx[n]).origin = none) :
    s.claimsSound := by
  refine ⟨fun g image => ⟨fun i => ?_, fun n u _ => ?_, fun i _ => ?_⟩, fun _ => ⟨peers, claims, reported⟩⟩
  · have none : ∀ c, s.pru.lowerLists s.address (Source.id c) = false := fun c => (Pru.listed_none peers _ _).2
    rw [claims, replicate_get]
    simp [none]
  · obtain ⟨waiting, origin⟩ := contexts (by rw [Option.mem_def.mp image]; rfl) n
    rw [reported, replicate_get, (Pru.listed_none peers u.id 0).1]
    exact ⟨rfl, origin, fun _ => rfl, fun _ => waiting⟩
  · rw [peers, replicate_get]
    rfl

/-- The clearing of a restart (R33, R72, R106). -/
theorem State.restartClearing_claimsSound (s : State) : s.restartClearing.claimsSound := by
  have pru := s.restartClearing_pru
  refine State.claimsSound_of_reset (by rw [pru]) (by rw [pru]) (by rw [pru]) fun _ n => ?_
  obtain ⟨contexts, -⟩ := s.clearPresence.contextsCleared_items
  have cleared : s.restartClearing.srx[n] = (s.clearPresence.srx[n]).turnedTo .waiting none := by
    have stands : s.clearPresence.contextsCleared.clearPositions.srx = s.clearPresence.contextsCleared.srx := by simp
    rw [State.restartClearing_eq, stands]
    exact contexts n
  rw [cleared]
  exact Context.turnedTo_items ..

theorem State.claimsStand_withAtc (s : State) (a : Atc) : State.ClaimsStand s (s.withAtc a) :=
  State.claimsStand_of_eq rfl rfl rfl rfl rfl

/-- An announce built takes its sequence and the slot, and nothing of the claims. -/
theorem State.claimsStand_announce (s : State) (leaving : Bool) : State.ClaimsStand s (s.announce leaving) := by
  cases image : s.stc.image with
  | none =>
    rw [State.announce, image]
    exact State.claimsStand_of_eq rfl rfl rfl rfl rfl
  | some g =>
    obtain ⟨pru, -⟩ := State.announce_eq image leaving
    exact State.claimsStand_of_eq (by simp) (by simp) (by rw [pru]) (by rw [pru]) (by rw [pru])

theorem State.claimsStand_enterLeaving (s : State) (c : LeaveCause) : State.ClaimsStand s (s.enterLeaving c) :=
  State.claimsStand_of_eq (by simp) (by simp) (by rw [State.enterLeaving_pru]) (by rw [State.enterLeaving_pru])
    (by rw [State.enterLeaving_pru])

/-- A release leaves the claims as they are, or clears them with the table (R30, R31, R33). -/
theorem State.release_claimsSound (sound : s.claimsSound) : s.release.claimsSound := by
  obtain ⟨-, -, -, -, stc, pru, -, -, -, srx, -⟩ := s.letGo_items
  have letGo : State.ClaimsStand s s.letGo := State.claimsStand_of_eq stc srx (by rw [pru]) (by rw [pru]) (by rw [pru])
  rw [State.release_eq]
  split
  · exact (State.claimsStand_withAtc _ _).claimsSound (letGo.claimsSound sound)
  · exact (State.claimsStand_withAtc _ _).claimsSound s.letGo.restartClearing_claimsSound

/-- The address of a place of the table. -/
theorem addressAt_of_placeOf {a : Address} {i : Fin 30} (place : placeOf a.toNat = some i) : a = addressAt i := by
  unfold placeOf at place
  split at place
  next range =>
    obtain rfl := Option.some.inj place
    refine BitVec.eq_of_toNat_eq ?_
    rw [addressAt, BitVec.toNat_ofNat]
    have := a.isLt
    simp only
    omega
  next => cases place

/-- A context changed by itself. -/
theorem State.claimsStand_setContext {s : State} (n : Fin 16) {f : Context → Context} (holds : (s.srx[n]).Holds (f s.srx[n])) :
    State.ClaimsStand s (s.setContext n f) :=
  ⟨rfl, rfl, rfl, rfl, rfl, fun m => by
    rw [State.setContext, State.withSrx_srx, modifyAt_get]
    split
    next same => rw [same]; exact holds
    next => exact .refl _⟩

theorem State.ClaimsStand.trans {s t u : State} (h : State.ClaimsStand s t) (k : State.ClaimsStand t u) :
    State.ClaimsStand s u :=
  ⟨k.image.trans h.image, k.address.trans h.address, k.peers.trans h.peers, k.claims.trans h.claims,
    k.reported.trans h.reported, fun n => ⟨(k.contexts n).1.trans (h.contexts n).1, (k.contexts n).2.trans (h.contexts n).2⟩⟩

/-- An AUDIO frame offered (R114 to R120). -/
theorem State.claimsStand_offerToSrx (s : State) (a : AudioFrame) : State.ClaimsStand s (s.offerToSrx a).1 := by
  unfold State.offerToSrx
  split
  next g _ image =>
    split
    · exact State.claimsStand_of_eq rfl rfl rfl rfl rfl
    next n _ =>
      have context := State.claimsStand_setContext (s := s) n (f := fun _ => ((s.srx[n]).offer g a s.cap.count).1)
        ((s.srx[n]).holds_offer g a _)
      exact context.trans (State.claimsStand_of_eq (by simp) (by simp) (by simp) (by simp) (by simp))
  next => exact State.claimsStand_of_eq rfl rfl rfl rfl rfl

/-- A frame that a copier is offered (R37). -/
theorem State.offerToCopier_claimsSound (sound : s.claimsSound) (loadSound : s.loadSound) (f : Frame)
    (foreign : f.origin ≠ s.address) : (s.offerToCopier f).1.claimsSound := by
  cases f with
  | audio a =>
    exact (s.claimsStand_offerToSrx a).claimsSound sound
  | announce a =>
    simp only [State.offerToCopier]
    unfold State.offerToPru
    split
    next i service place =>
      obtain ⟨detached, halted, -⟩ := State.notDetached_of_attached (State.attached_of_inService service)
      have loaded := State.loaded_of_loadSound loadSound detached halted
      obtain ⟨-, image, -⟩ := loadSound
      obtain ⟨g, some⟩ := Option.isSome_iff_exists.mp (image.mpr loaded)
      refine State.takeAnnounce_claimsSound sound some (fun same => foreign ?_) a
      rw [← same, ← addressAt_of_placeOf place]
      rfl
    next => exact sound
  | cue a =>
    exact (State.claimsStand_of_eq (by simp [State.offerToCopier]) (by simp [State.offerToCopier])
      (by simp [State.offerToCopier]) (by simp [State.offerToCopier]) (by simp [State.offerToCopier])).claimsSound sound

theorem State.claimsStand_conflictHalt (s : State) : State.ClaimsStand s s.conflictHalt := by
  unfold State.conflictHalt
  split
  · exact s.claimsStand_enterLeaving .conflict
  · exact s.claimsStand_enterLeaving .conflict
  all_goals exact State.claimsStand_of_eq rfl rfl rfl rfl rfl

/-- A stripped frame is no matter of the claims (R54 to R61). -/
theorem State.claimsStand_stripped (s : State) (i : Identity) (copied : Bool) : State.ClaimsStand s (s.stripped i copied) := by
  unfold State.stripped
  dsimp only
  split
  · have stands : ∀ {u : State}, u.stc = s.stc → u.srx = s.srx → u.pru = s.pru → State.ClaimsStand s u :=
      fun stc srx pru => State.claimsStand_of_eq stc srx (by rw [pru]) (by rw [pru]) (by rw [pru])
    exact stands (by simp [foldl_keeps (p := State.stc) State.skipHead (fun b a => by simp)])
      (by simp [foldl_keeps (p := State.srx) State.skipHead (fun b a => by simp)])
      (by simp [foldl_keeps (p := State.pru) State.skipHead (fun b a => by simp)])
  · split
    · exact State.claimsStand_of_eq rfl rfl rfl rfl rfl
    · unfold State.foreignFrame
      dsimp only
      split
      · refine State.ClaimsStand.trans ?_ (State.claimsStand_conflictHalt _)
        exact State.claimsStand_of_eq rfl rfl rfl rfl rfl
      · exact State.claimsStand_of_eq rfl rfl rfl rfl rfl

/-- A frame taken (R33 to R38). -/
theorem State.judgeFrame_claimsSound (sound : s.claimsSound) (loadSound : s.loadSound) (r : RxFrame) :
    (s.judgeFrame r).claimsSound := by
  have stands : ∀ {u t : State}, t.stc = u.stc → t.srx = u.srx → t.pru = u.pru → u.claimsSound → t.claimsSound :=
    fun stc srx pru => (State.claimsStand_of_eq stc srx (by rw [pru]) (by rw [pru]) (by rw [pru])).claimsSound
  unfold State.judgeFrame
  split
  · unfold State.takeFrame
    split
    · exact sound
    next f _ =>
      split
      · exact (s.claimsStand_stripped _ _).claimsSound sound
      next foreign =>
        split
        · exact stands rfl rfl rfl sound
        · dsimp only
          have offered := State.offerToCopier_claimsSound sound loadSound f foreign
          exact stands (by simp) (by simp) (by simp) offered
  all_goals exact stands rfl rfl rfl sound

theorem Context.boundary_origin (x : Context) (b : Nat) (t : Word) : (x.boundary b t).origin = x.origin := by
  unfold Context.boundary Context.settle
  dsimp only
  split
  · split <;> rfl
  · rfl

/-- A count increment, a boundary and the end of a run-out leave a context's origin and state (R86, R147, R152). -/
theorem State.claimsStand_countIncrement (s : State) : State.ClaimsStand s s.countIncrement := by
  have contexts : ∀ n : Fin 16, (s.srx[n]).Holds s.countIncrement.srx[n] := by
    intro n
    unfold State.countIncrement
    dsimp only
    split
    next g _ =>
      simp only [State.countedOn, State.refreshAll, State.computeChannels_frame, State.withPly_srx, State.withSrx_srx,
        mapAll_get]
      exact .refl _
    next => exact .refl _
  exact ⟨by simp, by simp [State.address], by simp, by simp, by simp, contexts⟩

theorem State.claimsStand_withCap (s : State) (c : Cap) : State.ClaimsStand s (s.withCap c) :=
  State.claimsStand_of_eq rfl rfl rfl rfl rfl

/-- An edge of the word clock at most increments the count (R87 to R89). -/
theorem State.claimsStand_wclkEdge (s : State) : State.ClaimsStand s s.wclkEdge := by
  unfold State.wclkEdge
  split
  · exact State.claimsStand_of_eq rfl rfl rfl rfl rfl
  · dsimp only
    split
    · exact State.claimsStand_of_eq rfl rfl rfl rfl rfl
    · unfold State.edgeInWordclock
      refine State.ClaimsStand.trans (s.claimsStand_withCap { s.cap with lastEdge := some s.now }) ?_
      split
      · exact (State.claimsStand_withCap _ _).trans (State.claimsStand_countIncrement _)
      · exact State.claimsStand_of_eq rfl rfl rfl rfl rfl
    · unfold State.edgeInHoldover
      refine State.ClaimsStand.trans (s.claimsStand_withCap { s.cap with lastEdge := some s.now }) ?_
      split
      · exact State.claimsStand_withCap _ _
      · split <;> exact State.claimsStand_withCap _ _

theorem State.claimsStand_takeBoundary (s : State) (n : Fin 16) : State.ClaimsStand s (s.takeBoundary n) := by
  have holds : ∀ (x : Context) b t, x.Holds (x.boundary b t) := fun x b t =>
    Context.holds_of_eq (x.boundary_origin b t) (x.boundary_frame b t).1
  unfold State.takeBoundary
  split
  · exact State.claimsStand_of_eq rfl rfl rfl rfl rfl
  next g _ =>
    have bounded := State.claimsStand_setContext (s := s) n (holds (s.srx[n]) g.block.samples s.cap.count)
      (f := (·.boundary g.block.samples s.cap.count))
    refine (bounded.trans ?_).trans (State.claimsStand_setContext n ?_)
    · exact State.claimsStand_of_eq (by simp) (by simp) (by simp) (by simp) (by simp)
    · split <;> exact .refl _

/-- The image handed on finds every table at its reset values (R178, R182). -/
theorem State.endLoad_claimsSound (sound : s.claimsSound) (filterSound : s.filterSound) (loadSound : s.loadSound)
    (loading : s.stc.load = .loading) : s.endLoad.claimsSound := by
  obtain ⟨-, image, -⟩ := loadSound
  have none : s.stc.image = none := by
    rw [← Option.not_isSome_iff_eq_none, image, loading]
    decide
  obtain ⟨-, contexts⟩ := filterSound
  have ⟨_, unloaded⟩ := sound
  obtain ⟨peers, claims, reported⟩ := unloaded none
  unfold State.endLoad
  split
  · exact (State.claimsStand_of_eq rfl rfl rfl rfl rfl : State.ClaimsStand s _).claimsSound sound
  · obtain ⟨-, -, -, pru, -⟩ := s.goodLoad_items (readImage s.stc.memory.record)
    have srx : (s.goodLoad (readImage s.stc.memory.record)).srx = s.srx := by simp
    refine State.claimsSound_of_reset (by rw [pru, peers]) (by rw [pru, claims]) (by rw [pru, reported]) fun _ n => ?_
    rw [srx, contexts none, replicate_get]
    exact ⟨rfl, rfl⟩

/-- Zeroing the counters leaves every context's origin and state (R192). -/
theorem State.claimsStand_zeroCounters (s : State) : State.ClaimsStand s s.zeroCounters := by
  have contexts (n : Fin 16) : s.zeroCounters.srx[n] = (s.srx[n]).zeroed := mapAll_get ..
  refine ⟨rfl, ?_, rfl, rfl, rfl, fun n => ?_⟩
  · unfold State.address
    rfl
  · rw [contexts n]
    exact Context.holds_of_eq rfl rfl

/-- Every effect keeps the claims sound. -/
theorem Effect.claimsSound {c : Instr} {t : State} (h : Effect c s t) (sound : s.claimsSound) (loadSound : s.loadSound)
    (filterSound : s.filterSound) : t.claimsSound := by
  have stands : ∀ {u : State}, u.stc = s.stc → u.srx = s.srx → u.pru = s.pru → u.claimsSound :=
    fun stc srx pru => (State.claimsStand_of_eq stc srx (by rw [pru]) (by rw [pru]) (by rw [pru])).claimsSound sound
  cases h with
  | resetAsserted =>
    obtain ⟨-, -, -, -, pru, -, srx, -⟩ := s.assertReset_items
    exact State.claimsSound_of_reset (by rw [pru]; rfl) (by rw [pru]; rfl) (by rw [pru]; rfl) fun loaded => by
      simp [Stc.reset] at loaded
  | loadEnd _ released loading => exact State.endLoad_claimsSound sound filterSound loadSound loading
  | resetReleased _ straps held =>
    obtain ⟨loading, image, -⟩ := loadSound
    have none : s.stc.image = none := by
      rw [← Option.not_isSome_iff_eq_none, image, loading held]
      decide
    have ⟨_, unloaded⟩ := sound
    obtain ⟨peers, claims, reported⟩ := unloaded none
    exact State.claimsSound_of_reset peers claims reported fun loaded => by
      have loaded : s.stc.image.isSome := loaded
      rw [none] at loaded
      cases loaded
  | attach =>
    refine State.ClaimsStand.claimsSound ?_ sound
    unfold State.attachNow
    dsimp only
    refine State.ClaimsStand.trans ?_ (State.claimsStand_announce _ false)
    exact State.claimsStand_of_eq rfl rfl rfl rfl rfl
  | arrival _ f rest attached closed =>
    exact State.judgeFrame_claimsSound (s := s.withRx { s.rx with closed := rest }) (stands rfl rfl rfl) loadSound f
  | leaveDrain | leaveAbort => exact State.release_claimsSound sound
  | leaveLimit =>
    unfold State.leaveLimit
    split
    · exact stands rfl rfl rfl
    · exact State.release_claimsSound sound
  | announceTimer =>
    unfold State.announceTimer
    split
    next last g _ _ =>
      have restarted (timer : Option Nat) :
          State.ClaimsStand s ((s.withPru { s.pru with timer }).announce false) :=
        State.ClaimsStand.trans (State.claimsStand_of_eq (t := s.withPru { s.pru with timer }) rfl rfl rfl rfl rfl)
          (State.claimsStand_announce _ false)
      refine State.ClaimsStand.claimsSound (s := s) (State.ClaimsStand.trans (restarted (some (last + g.periodTime))) ?_) sound
      exact State.claimsStand_of_eq (by simp) (by simp) (by simp) (by simp) (by simp)
    · exact sound
  | peerExpiry _ a i attached present =>
    obtain ⟨detached, halted, -⟩ := State.notDetached_of_attached attached
    have loaded := State.loaded_of_loadSound loadSound detached halted
    obtain ⟨-, image, -⟩ := loadSound
    obtain ⟨g, some⟩ := Option.isSome_iff_exists.mp (image.mpr loaded)
    have foreign : addressAt i ≠ s.address := fun same => by
      rw [(sound.tracks some).2 i same] at present
      cases present
    have departed := State.departure_claimsSound sound some foreign { s.pru.peers[i] with present := false }
    exact (State.claimsStand_of_eq (by simp [State.expirePeer]) (by simp [State.expirePeer]) (by simp [State.expirePeer])
      (by simp [State.expirePeer]) (by simp [State.expirePeer])).claimsSound departed
  | wclkEdge => exact s.claimsStand_wclkEdge.claimsSound sound
  | wordClockLoss =>
    unfold State.wordClockLost State.reportHoldover
    dsimp only
    refine State.ClaimsStand.claimsSound (s := s) ?_ sound
    refine State.ClaimsStand.trans ?_ (State.claimsStand_countIncrement _)
    split <;> exact State.claimsStand_of_eq rfl rfl rfl rfl rfl
  | divider =>
    exact ((s.claimsStand_withCap _).trans (State.claimsStand_countIncrement _)).claimsSound sound
  | blockBoundary _ n => exact (s.claimsStand_takeBoundary n).claimsSound sound
  | runOutEnd _ g n => exact (State.claimsStand_setContext n (.refl _)).claimsSound sound
  | restartRing a =>
    have entered := (s.claimsStand_enterLeaving .restart).claimsSound sound
    exact (State.claimsStand_of_eq rfl rfl rfl rfl rfl).claimsSound entered
  | zeroCounters a => exact (s.claimsStand_zeroCounters.trans (State.claimsStand_of_eq rfl rfl rfl rfl rfl)).claimsSound sound
  | writeBegins => exact (State.claimsStand_of_eq (s := s) rfl (by simp) (by simp) (by simp) (by simp)).claimsSound sound
  | pageReady =>
    refine State.ClaimsStand.claimsSound (s := s) ⟨?_, ?_, by simp, by simp, by simp, fun n => ?_⟩ sound
    · rw [State.pageReady_stc]
    · rw [State.address, State.pageReady_stc, State.address]
    · rw [(by simp : s.pageReady.srx = s.srx)]
      exact .refl _
  | writeEnds _ _ ok =>
    refine State.ClaimsStand.claimsSound (s := s) ⟨?_, ?_, by simp, by simp, by simp, fun n => ?_⟩ sound
    · rw [State.endWrite_stc]
    · rw [State.address, State.endWrite_stc, State.address]
    · rw [(by simp : (s.endWrite ok).srx = s.srx)]
      exact .refl _
  | _ => exact stands (by simp) (by simp) (by simp)

end

/-- Settles O58: each event either leaves the table, the claims and the contexts' origins, or resolves them, or empties the
table and the contexts with it. -/
theorem claimsFollowThePeerTable : Obligations.ClaimsFollowThePeerTable := by
  intro s t loadSound filterSound sound next
  obtain ⟨c, now, ties, pending, effect⟩ := step_effect next
  exact effect.claimsSound sound loadSound filterSound

end Sys2Proof.Machine

/-! SUPPORT. The transit list: what its operations leave of it, and the balance of its entries and the counters that
settle them (R53 to R57). -/

namespace Sys2Proof.Machine

section
variable {s t u : State}

/-! ## The list -/

@[simp] theorem State.dropHead_transit (s : State) : s.dropHead.trm.transit = s.trm.transit.drop 1 := rfl

@[simp] theorem State.lossOutcome_transit (s : State) (e : Entry) : (s.lossOutcome e).trm.transit = s.trm.transit := by
  unfold State.lossOutcome
  split
  · simp
  · split <;> rfl
  · simp
  · rfl

@[simp] theorem State.returnOutcome_transit (s : State) (e : Entry) (copied : Bool) :
    (s.returnOutcome e copied).trm.transit = s.trm.transit := by
  unfold State.returnOutcome
  split
  · simp [State.recordTrip]
  · split
    · split <;> rfl
    · rfl
  · split <;> simp
  · rfl

@[simp] theorem State.skipHead_transit (s : State) (e : Entry) :
    (s.skipHead e).trm.transit = s.trm.transit.drop 1 := by simp [State.skipHead]

@[simp] theorem State.timeoutHead_transit (s : State) (e : Entry) :
    (s.timeoutHead e).trm.transit = s.trm.transit.drop 1 := by simp [State.timeoutHead]

/-- The entries ahead of a match leave the list (R56). -/
theorem State.skipHeads_transit (ahead rest : List Entry) (s : State) (list : s.trm.transit = ahead ++ rest) :
    (ahead.foldl State.skipHead s).trm.transit = rest := by
  induction ahead generalizing s with
  | nil => exact list
  | cons e es ih => exact ih (s.skipHead e) (by simp [list])

/-! ## The balance -/

/-- The counters of the ways an entry leaves the list. -/
abbrev settledCounters : Set Counter := {.ownReturned, .skipLosses, .timeoutLosses, .abandoned}

/-- The counters the balance is over. -/
abbrev ledgerCounters : Set Counter := insert .ownStarted settledCounters

/-- The entries settled. -/
def State.settled (s : State) : Nat :=
  s.counter .ownReturned + s.counter .skipLosses + s.counter .timeoutLosses + s.counter .abandoned

/-- Every entry listed can yet be counted below the ceiling. -/
def State.hasRoom (s : State) : Prop := ∀ c ∈ settledCounters, s.counter c + s.trm.transit.length ≤ 65535

/-- Entries leave the list only as they are counted, and none joins it. -/
def State.Settles (s t : State) : Prop :=
  s.hasRoom → t.hasRoom ∧ t.trm.transit.length + t.settled = s.trm.transit.length + s.settled
    ∧ t.counter .ownStarted = s.counter .ownStarted

theorem State.Settles.trans (h : State.Settles s t) (k : State.Settles t u) : State.Settles s u := fun room => by
  obtain ⟨roomT, sumT, startedT⟩ := h room
  obtain ⟨roomU, sumU, startedU⟩ := k roomT
  exact ⟨roomU, sumU.trans sumT, startedU.trans startedT⟩

/-- Where the list and the counters stand, so does the balance. -/
theorem State.Settles.of_stands (transit : t.trm.transit = s.trm.transit)
    (counters : ∀ c ∈ ledgerCounters, t.counter c = s.counter c) : State.Settles s t := fun room => by
  refine ⟨fun c mem => ?_, ?_, counters _ (Set.mem_insert ..)⟩
  · rw [transit, counters c (.inr mem)]
    exact room c mem
  · simp only [State.settled]
    rw [transit, counters .ownReturned (by simp), counters .skipLosses (by simp), counters .timeoutLosses (by simp),
      counters .abandoned (by simp)]

theorem State.Settles.refl (s : State) : State.Settles s s := .of_stands rfl fun _ _ => rfl

/-- What counts none of these counters leaves the balance with the list. -/
theorem State.Settles.of_tells {F : Set EventFlag} {C : Set Counter} (tells : State.Tells F C s t)
    (transit : t.trm.transit = s.trm.transit) (other : ∀ c ∈ ledgerCounters, c ∉ C := by simp) :
    State.Settles s t :=
  .of_stands transit fun c mem => tells.counter_stands (other c mem)

/-- Entries counted as they leave (R53, R55 to R57). -/
theorem State.Settles.counted {c : Counter} {n : Nat} (settles : c ∈ settledCounters)
    (transit : t.trm.transit.length + n = s.trm.transit.length)
    (counters : ∀ k ∈ ledgerCounters, t.counter k = if k = c then min 65535 (s.counter k + n) else s.counter k) :
    State.Settles s t := fun room => by
  have returned := counters .ownReturned (by simp)
  have skipped := counters .skipLosses (by simp)
  have timedOut := counters .timeoutLosses (by simp)
  have abandoned := counters .abandoned (by simp)
  have started := counters .ownStarted (by simp)
  have roomFor : s.counter c + s.trm.transit.length ≤ 65535 := room c settles
  refine ⟨fun k mem => ?_, ?_, ?_⟩
  · have limit := room k mem
    rw [counters k (.inr mem)]
    split <;> omega
  · simp only [State.settled, returned, skipped, timedOut, abandoned]
    obtain rfl | rfl | rfl | rfl := settles <;> simp <;> omega
  · rw [started, if_neg]
    rintro rfl
    simp at settles

/-- The head counted as it leaves. -/
theorem State.settles_dropHead {c : Counter} {e : Entry} {es : List Entry} (settles : c ∈ settledCounters)
    (list : s.trm.transit = e :: es) : State.Settles s (s.dropHead.countOne c) :=
  .counted (n := 1) settles (by simp [list]) fun k _ => s.dropHead.counter_countOne c k

theorem State.settles_lossOutcome (s : State) (e : Entry) : State.Settles s (s.lossOutcome e) :=
  .of_tells (s.tells_lossOutcome e) (by simp)

theorem State.settles_decideStart (s : State) : State.Settles s s.decideStart :=
  .of_tells (F := ∅) (C := ∅) s.tells_decideStart (by simp)

theorem State.settles_skipHeads (ahead rest : List Entry) (s : State) (list : s.trm.transit = ahead ++ rest) :
    State.Settles s (ahead.foldl State.skipHead s) := by
  induction ahead generalizing s with
  | nil => exact .refl s
  | cons e es ih =>
    have skipped : State.Settles s (s.skipHead e) :=
      (State.settles_dropHead (c := .skipLosses) (by simp) list).trans (State.settles_lossOutcome _ e)
    exact skipped.trans (ih (s.skipHead e) (by simp [list]))

theorem State.settles_timeoutHeads (es : List Entry) (s : State) (list : s.trm.transit = es) :
    State.Settles s (State.timeoutHeads es s) := by
  induction es generalizing s with
  | nil => exact .refl s
  | cons e es ih =>
    rw [State.timeoutHeads]
    split
    · have lost : State.Settles s (s.timeoutHead e) :=
        ((State.settles_dropHead (c := .timeoutLosses) (by simp) list).trans (State.settles_lossOutcome _ e)).trans
          (.of_stands rfl fun _ _ => rfl)
      exact lost.trans (ih (s.timeoutHead e) (by simp [list]))
    · exact .refl s

theorem State.settles_headMatch {e : Entry} {es : List Entry} (list : s.trm.transit = e :: es) (copied : Bool) :
    State.Settles s (s.headMatch e copied) := by
  have returned : State.Settles (s.dropHead.countOne .ownReturned)
      ((s.dropHead.countOne .ownReturned).returnOutcome e copied) :=
    .of_tells (State.tells_returnOutcome _ e copied) (by simp)
  exact ((State.settles_dropHead (by simp) list).trans returned).trans (State.settles_timeoutHeads _ _ rfl)

theorem State.settles_stripped (s : State) (i : Identity) (copied : Bool) :
    State.Settles s (s.stripped i copied) := by
  unfold State.stripped
  dsimp only
  split
  next e rest found =>
    have list : s.trm.transit = s.trm.transit.takeWhile (·.identity ≠ i) ++ e :: rest := by
      rw [← found, List.takeWhile_append_dropWhile]
    refine ((State.settles_skipHeads _ _ s list).trans (State.settles_headMatch (es := rest) ?_ copied)).trans
      (State.settles_decideStart _)
    exact State.skipHeads_transit _ _ s list
  next =>
    split
    · exact .of_tells (s.tells_lateReturn i) rfl
    · refine .of_tells s.tells_foreignFrame ?_
      unfold State.foreignFrame
      dsimp only
      split <;> simp

/-- The entries abandoned are counted (R53). -/
theorem State.counter_abandon (s : State) (e : Entry) (k : Counter) :
    (s.abandon e).counter k = if k = .abandoned then min 65535 (s.counter k + 1) else s.counter k := by
  rw [← State.counter_countOne]
  unfold State.abandon
  dsimp only
  split
  · exact (State.tells_cueUndelivered (F := {.cueUndelivered}) (C := ∅) _ _ rfl).counter_stands (Set.notMem_empty k)
  · rfl

theorem State.counter_abandons (es : List Entry) (s : State) (rests : s.counter .abandoned ≤ 65535) (k : Counter) :
    (es.foldl State.abandon s).counter k
      = if k = .abandoned then min 65535 (s.counter k + es.length) else s.counter k := by
  induction es generalizing s with
  | nil => split <;> simp_all
  | cons e es ih =>
    have step := s.counter_abandon e
    rw [List.foldl_cons, ih (s.abandon e) (by rw [step, if_pos rfl]; omega), step]
    split
    · simp only [List.length_cons]
      omega
    · rfl

theorem State.settles_abandonTransit (s : State) : State.Settles s s.abandonTransit := fun room => by
  refine State.Settles.counted (c := .abandoned) (n := s.trm.transit.length) (by simp) (by simp) (fun k _ => ?_) room
  have rests : s.counter .abandoned + s.trm.transit.length ≤ 65535 := room _ (by simp)
  exact State.counter_abandons s.trm.transit s (by omega) k

theorem State.settles_release (s : State) : State.Settles s s.release := by
  have slot : State.Settles s.abandonTransit s.abandonTransit.discardSlot :=
    .of_tells (State.tells_discardSlot _) (by simp)
  have clearing (u : State) : State.Settles u u.restartClearing := .of_tells u.tells_restartClearing (by simp)
  have letGo : State.Settles s s.letGo :=
    (s.settles_abandonTransit.trans slot).trans (.of_stands rfl fun _ _ => rfl)
  rw [State.release_eq]
  split
  · exact letGo.trans (.of_tells (State.tells_withAtc (F := ∅) (C := ∅) _ _) (by simp))
  · exact (letGo.trans (clearing _)).trans (.of_tells (State.tells_withAtc (F := ∅) (C := ∅) _ _) (by simp))

/-! ## The other operations -/

/-- A resolution of claims moves the heard states alone, with an image or without (R80). -/
theorem State.resolveClaims_heard (s : State) :
    s.resolveClaims.trm = { s.trm with heard := s.resolveClaims.trm.heard } := by
  cases image : s.stc.image with
  | none => simp [State.resolveClaims, image]
  | some g => exact State.resolveClaims_trm image

theorem State.departure_heard (s : State) (i : Fin 30) :
    (s.departure i).trm = { s.trm with heard := (s.departure i).trm.heard } := by
  have last : (s.departure i).trm = (s.raise .peerExpired).resolveClaims.trm := by simp [State.departure]
  rw [last, State.resolveClaims_heard]
  rfl

theorem State.departure_transit (s : State) (i : Fin 30) : (s.departure i).trm.transit = s.trm.transit := by
  rw [State.departure_heard]

theorem State.takeAnnounce_heard (s : State) (f : AnnounceFrame) (i : Fin 30) :
    (s.takeAnnounce f i).trm = { s.trm with heard := (s.takeAnnounce f i).trm.heard } := by
  unfold State.takeAnnounce
  dsimp only
  split
  · split
    · rw [State.departure_heard]
      simp
    · simp
  · split
    · split
      · simp
      · rw [State.resolveClaims_heard]
        simp
    · rw [State.resolveClaims_heard]
      simp

/-- Of the transit monitor a copier moves the heard states alone (R80). -/
theorem State.offerToCopier_trm (s : State) (f : Frame) :
    (s.offerToCopier f).1.trm = { s.trm with heard := (s.offerToCopier f).1.trm.heard } := by
  cases f with
  | audio f => simp [State.offerToCopier]
  | announce f =>
    simp only [State.offerToCopier]
    unfold State.offerToPru
    split
    · exact s.takeAnnounce_heard f _
    · rfl
  | cue f => simp [State.offerToCopier]

theorem State.offerToCopier_transit (s : State) (f : Frame) : (s.offerToCopier f).1.trm.transit = s.trm.transit := by
  rw [State.offerToCopier_trm]

theorem State.settles_judgeFrame (s : State) (r : RxFrame) : State.Settles s (s.judgeFrame r) := by
  have counts (c : Counter) (other : ∀ k ∈ ledgerCounters, k ∉ ({c} : Set Counter)) :
      State.Settles s (s.countOne c) := .of_tells (F := ∅) (C := {c}) (s.tells_countOne rfl) rfl other
  unfold State.judgeFrame
  split
  · unfold State.takeFrame
    split
    · exact .refl s
    split
    · exact s.settles_stripped _ _
    split
    · exact counts _ (by simp)
    next f _ _ _ =>
      dsimp only
      refine (State.Settles.of_tells (s.tells_offerToCopier f) (s.offerToCopier_transit f)).trans ?_
      exact (State.Settles.of_tells (State.tells_appendRepeat _ _) (by simp)).trans (State.settles_decideStart _)
  all_goals exact counts _ (by simp)

theorem State.tells_startRepeat (s : State) : State.Tells ∅ {.framesForwarded} s s.startRepeat := by
  unfold State.startRepeat
  split
  · exact .refl s
  · exact (s.tells_countOne (Set.mem_singleton _)).then_eq rfl

theorem State.tells_wordClockLost (s : State) :
    State.Tells {.clockHoldover} {.holdoverEntries} s s.wordClockLost := by
  have entered (u : State) : State.Tells {.clockHoldover} {.holdoverEntries} u u.reportHoldover := by
    unfold State.reportHoldover
    split
    · exact (u.tells_raise (Set.mem_singleton _)).trans (State.tells_countOne _ (Set.mem_singleton _))
    · exact .refl u
  exact (State.Tells.past (entered (s.withCap { s.cap with clock := .holdover, qualRun := 0, dividerAt := s.now }))).then_eq
    (by simp [State.wordClockLost])

theorem State.endWrite_counter (s : State) (ok : Bool) (c : Counter) : (s.endWrite ok).counter c = s.counter c := by
  unfold State.endWrite
  dsimp only
  split <;> rfl

end

/-! ## O27 -/

section
variable {s t : State}

/-- Every effect but a reset, ZERO_COUNTERS and a start settles the entries that leave. -/
theorem Effect.settles {c : Instr} (h : Effect c s t) (reset : c ≠ .resetAsserted) (zero : c ≠ .zeroCounters)
    (start : c ≠ .ownFrameStart) (empty : s.atc.state = .joining → s.trm.transit = []) : State.Settles s t := by
  cases h with
  | resetAsserted => exact absurd rfl reset
  | zeroCounters => exact absurd rfl zero
  | ownStart => exact absurd rfl start
  | lineUnit _ e => exact .of_tells (s.tells_takeUnit e) (by simp)
  | upstreamLoss => exact .of_tells s.tells_declareLoss (by simp)
  | upstreamRestoral => exact .of_tells s.tells_declareRestoral (by simp)
  | attach _ joining =>
    have tells : State.Tells ∅ {.announcesReplaced} s s.attachNow := State.Tells.past (State.tells_announce _ false)
    exact .of_tells tells (by simp [State.attachNow, empty joining, Trm.reset])
  | arrival _ f rest =>
    have taken : State.Settles s (s.withRx { s.rx with closed := rest }) := .of_stands rfl fun _ _ => rfl
    exact taken.trans (State.settles_judgeFrame _ f)
  | leaveDrain | leaveAbort => exact s.settles_release
  | leaveLimit =>
    unfold State.leaveLimit
    split
    · exact .of_stands rfl fun _ _ => rfl
    · exact s.settles_release
  | returnTimeout => exact (State.settles_timeoutHeads _ s rfl).trans (State.settles_decideStart _)
  | announceTimer => exact .of_tells s.tells_announceTimer (by simp)
  | peerExpiry _ a i =>
    exact .of_tells (s.tells_expirePeer i) (by simp [State.expirePeer, State.departure_transit])
  | repeatStart => exact .of_tells s.tells_startRepeat (by simp)
  | wordClockLoss => exact .of_tells s.tells_wordClockLost (by simp)
  | blockTick => exact .of_tells s.tells_blockTick (by simp)
  | keyScan _ g raw => exact .of_tells (s.tells_keyScan raw) (by simp)
  | fallbackTimer _ p => exact .of_tells (s.tells_latchFallback p) (by simp)
  | restartRing => exact (State.Settles.of_tells (s.tells_enterLeaving _) (by simp)).trans (.of_stands rfl fun _ _ => rfl)
  | answered | readEvents | clearSeen | unanswered => exact .of_stands rfl fun _ _ => rfl
  | writeBegins => exact .of_stands (by simp) fun _ _ => rfl
  | writeEnds _ _ ok => exact .of_stands (by simp) fun _ _ => s.endWrite_counter ok _
  | _ => exact .of_tells (F := ∅) (C := ∅) (.of_eq (by simp)) (by simp)

/-- An own frame that starts joins the list and is counted (R42, R53). -/
theorem State.startOwn_balance (s : State) (f : Frame) (room : s.counter .ownStarted < 65535) :
    (s.startOwn f).trm.transit.length = s.trm.transit.length + 1
      ∧ (s.startOwn f).counter .ownStarted = s.counter .ownStarted + 1 ∧ (s.startOwn f).settled = s.settled := by
  have counter (c : Counter) : (s.startOwn f).counter c = (s.countOne .ownStarted).counter c := rfl
  refine ⟨by simp [State.startOwn], ?_, ?_⟩
  · rw [counter, State.counter_countOne, if_pos rfl]
    omega
  · simp [State.settled, counter, State.counter_countOne]

end

/-- Settles O27: the effect is a start, which lists one entry and counts it, or one that settles each entry it takes from
the list. -/
theorem transitEntriesBalance : Obligations.TransitEntriesBalance := by
  intro c s t next reset zero _ empty within counters
  obtain ⟨d, effect⟩ := exec_effect next
  have same : (s.waitUntil d).trm = s.trm ∧ (s.waitUntil d).svp = s.svp ∧ (s.waitUntil d).atc = s.atc := by simp
  obtain ⟨trm, svp, atc⟩ := same
  have counter (k : Counter) : (s.waitUntil d).counter k = s.counter k := by rw [State.counter, svp, State.counter]
  have length : s.trm.transit.length ≤ 128 := within.2.2.2.1
  show s.trm.transit.length + t.counter .ownStarted + s.settled = t.trm.transit.length + s.counter .ownStarted + t.settled
  have settled : (s.waitUntil d).settled = s.settled := by simp only [State.settled, counter]
  rw [← trm, ← settled, ← counter]
  have starts : s.counter .ownStarted < 65535 := lt_of_le_of_lt (counters _) (by decide)
  by_cases start : c = .ownFrameStart
  · subst start
    cases effect with
    | stands => rfl
    | ownStart _ f =>
      obtain ⟨listed, counted, settled⟩ := (s.waitUntil d).startOwn_balance f (by rw [counter]; exact starts)
      omega
    | answered | unanswered => rfl
    | writeEnds _ _ ok => simp [State.settled, State.endWrite_counter]
  · have room : (s.waitUntil d).hasRoom := fun k _ => by
      have := counters k
      rw [counter, trm]
      omega
    have joining (state : (s.waitUntil d).atc.state = .joining) : (s.waitUntil d).trm.transit = [] := by
      rw [atc] at state
      rw [trm]
      exact (empty.1 (by simp [State.attached, state])).2.2.2.1
    obtain ⟨-, sum, started⟩ := effect.settles reset zero start joining room
    omega

end Sys2Proof.Machine

/-! SUPPORT. Reset, its release and the end of the load (R177 to R182). -/

namespace Sys2Proof.Machine

/-! ## The values after reset -/

/-- Nothing waits, is listed or is counted after reset. -/
theorem State.reset_bounds : State.reset.withinCapacity ∧ State.reset.withinCeilings := by
  refine ⟨?_, ?_⟩
  · refine ⟨Nat.zero_le _, Nat.zero_le _, Nat.zero_le _, Nat.zero_le _, Nat.zero_le _, fun n => ?_, ?_, ?_⟩
    · simp [State.reset, Context.reset]
    · simp [State.reset, Receiver.reset]
    · simp [State.reset, Receiver.reset]
  · refine ⟨fun i => ?_, fun n i => ?_, Nat.zero_le _, Nat.zero_le _, Nat.zero_le _, Nat.zero_le _, Nat.zero_le _,
      fun n => ?_⟩
    · simp [State.reset, Svp.reset]
    · simp [State.reset, Context.reset]
    · simp [State.reset, Context.reset]

/-- The station is DETACHED, its arbiter DISABLED and no timer runs. -/
theorem State.reset_attachmentSound : State.reset.attachmentSound := by
  refine ⟨?_, ?_, ?_, ?_⟩ <;> decide

theorem State.reset_emptySound : State.reset.emptySound := by decide

/-- Every context holds its reset values, and no image is there. -/
theorem State.reset_streamsSound : State.reset.slipSound ∧ State.reset.filterSound := by
  refine ⟨fun n => ?_, fun g none => (Option.some_ne_none g none.symm).elim, fun _ => rfl⟩
  have reset : State.reset.srx[n] = Context.reset := replicate_get ..
  rw [reset]
  decide

/-- Settles O3: each block's reset values are read off its definition, and each soundness property off them. -/
theorem resetValues : Obligations.ResetValues := by
  unfold Obligations.ResetValues
  dsimp only
  refine ⟨by decide, by decide, by decide, by decide, ?_, by decide, fun n => ?_, by decide, by decide, by decide, by decide,
    ?_⟩
  · simp [State.reset, Pru.reset, Peer.reset]
  · simp [State.reset, Context.reset]
  · obtain ⟨capacity, ceilings⟩ := State.reset_bounds
    obtain ⟨slip, filter⟩ := State.reset_streamsSound
    refine ⟨capacity, ceilings, fun g none => (Option.some_ne_none g none.symm).elim, State.reset_attachmentSound, State.reset_emptySound, slip,
      filter, ⟨fun g none => (Option.some_ne_none g none.symm).elim, fun _ => ⟨rfl, rfl, rfl⟩⟩, by decide, ?_, by decide, Memory.wf_reset⟩
    exact ⟨rfl, rfl, rfl⟩

/-! ## The release of reset -/

theorem exec_resetReleased (straps : Straps) (s : State) :
    exec (.resetReleased straps) s = .next (if s.stc.held then s.releaseReset straps else s) := rfl

/-- Settles O5: the release is one record of what it starts. -/
theorem releaseLatchesStraps : Obligations.ReleaseLatchesStraps := by
  intro s straps
  refine ⟨fun free => ?_, fun held => ⟨s.releaseReset straps, ?_, rfl, ?_⟩⟩
  · rw [exec_resetReleased, free, if_neg (by decide)]
  · rw [exec_resetReleased, if_pos held]
  · simp [State.ringTime, State.releaseReset]

/-! ## The end of the load -/

theorem exec_loadEnd {s : State} (free : s.stc.held = false) (loading : s.stc.load = .loading) :
    exec .configurationLoadEnd s = .next s.endLoad := by
  show s.takeEvent (s.nowIf s.reading) State.endLoad = _
  rw [State.takeEvent_nowIf, if_pos (by rw [State.reading, free, loading]; rfl)]

/-- A designation is had by one of the 16 subscriptions (R104). -/
theorem Image.designated_isSome (g : Image) (d : Designation) :
    (g.designated d).isSome = true ↔ ∃ u ∈ g.subscriptions.take 16, u.designation = d := by
  simp only [Image.designated, List.find?_isSome, Image.subscription, Option.any_eq_true, decide_eq_true_eq,
    List.mem_take_iff_getElem]
  constructor
  · rintro ⟨n, -, u, used, same⟩
    obtain ⟨inside, rfl⟩ := List.getElem?_eq_some_iff.mp used
    exact ⟨_, ⟨n.val, by omega, rfl⟩, same⟩
  · rintro ⟨u, ⟨n, inside, rfl⟩, same⟩
    exact ⟨⟨n, by omega⟩, List.mem_finRange _, _, List.getElem?_eq_getElem (inside.trans_le (min_le_right ..)), same⟩

/-- The station with the image handed on, before the fallback timers are seen to (R22, R158, R182). -/
def State.handedOn (s : State) (g : Image) : State := { s with
  stc := { s.stc with load := .loaded, image := some g }
  atc := { s.atc.startHoldoff s.now with state := .joining }
  pos := { s.pos with scanAt := s.now } }

theorem State.goodLoad_eq (s : State) (g : Image) :
    s.goodLoad g = if (g.designated .programme).isSome then (s.handedOn g).startFallback else s.handedOn g := rfl

/-- Settles O6: the verdict of the record is the load's, and a good load hands on its image. -/
theorem loadEndDecides : Obligations.LoadEndDecides := by
  intro s free loading
  refine ⟨fun cause fault => ?_, fun good => ?_⟩
  · rw [exec_loadEnd free loading, State.endLoad, fault]
    rfl
  · rw [exec_loadEnd free loading, State.endLoad, good]
    dsimp only
    generalize readImage s.stc.memory.record = g
    have designated := g.designated_isSome .programme
    have venue : (s.handedOn g).venue = true ↔ s.stc.straps.role = .venue := State.venue_eq_true
    rw [State.goodLoad_eq]
    by_cases starts : s.stc.straps.role = .venue ∧ ∃ u ∈ g.subscriptions.take 16, u.designation = .programme
    · rw [if_pos (designated.mpr starts.2), State.startFallback, if_pos (venue.mpr starts.1), if_pos starts]
      rfl
    · rw [if_neg starts]
      split
      next returned =>
        rw [State.startFallback, if_neg fun isVenue => starts ⟨venue.mp isVenue, designated.mp returned⟩]
        rfl
      next => rfl

end Sys2Proof.Machine

/-! SUPPORT. The receive line and joining (R1, R5, R19 to R24). -/

namespace Sys2Proof.Machine

/-- Two states of the same items are the same. -/
theorem State.eq_of_items {s t : State} (now : t.now = s.now) (releasedAt : t.releasedAt = s.releasedAt)
    (atc : t.atc = s.atc) (rx : t.rx = s.rx) (rfw : t.rfw = s.rfw) (inq : t.inq = s.inq) (trm : t.trm = s.trm)
    (pru : t.pru = s.pru) (cap : t.cap = s.cap) (srx : t.srx = s.srx) (ply : t.ply = s.ply) (pos : t.pos = s.pos)
    (stc : t.stc = s.stc) (svp : t.svp = s.svp) (ties : t.ties = s.ties) (pending : t.pending = s.pending) : t = s := by
  cases s
  cases t
  simp_all

/-- An event that comes about lets time pass up to its instant. -/
theorem State.takeEvent_due {s : State} {due : Option Nat} {d : Nat} (effect : State → State) (h : due = some d) :
    s.takeEvent due effect = .next (effect { s with now := max s.now d }) := State.takeEvent_some effect h

/-! ## Units of the receive line -/

/-- The station as a unit time of its receive line ends. -/
abbrev State.unitPassed (s : State) : State := { s with now := max s.now (s.atc.unitEnd + Config.unitTime) }

theorem exec_lineUnit (e : LineEvent) (s : State) :
    exec (.lineUnitReceived e) s = .next (s.unitPassed.takeUnit e) := rfl

theorem LineEvent.valid_iff (e : LineEvent) : LineEvent.valid e = true ↔ ∃ u, e = .unit u := by cases e <;> simp [LineEvent.valid]

theorem LineEvent.idle_iff (e : LineEvent) : LineEvent.idle e = true ↔ e = .unit .idle := beq_iff_eq

/-- What the watch makes of a unit time (R19, R20, R23). -/
theorem Atc.takeUnit_counts (a : Atc) (e : LineEvent) :
    (e = .unit .idle → (a.takeUnit e).idleRun = min 255 (a.idleRun + 1))
      ∧ (e ≠ .unit .idle → (a.takeUnit e).idleRun = 0)
      ∧ ((a.takeUnit e).signalSeen = true ↔ a.signalSeen = true ∨ ∃ u, e = .unit u)
      ∧ (a.upstream = .present →
        ((∃ u, e = .unit u) → (a.takeUnit e).quietUnits = 0)
        ∧ ((¬ ∃ u, e = .unit u) → (a.takeUnit e).quietUnits = min 64 (a.quietUnits + 1))
        ∧ (a.takeUnit e).validRun = a.validRun)
      ∧ (a.upstream = .loss →
        ((∃ u, e = .unit u) → (a.takeUnit e).validRun = min 256 (a.validRun + 1))
        ∧ ((¬ ∃ u, e = .unit u) → (a.takeUnit e).validRun = 0) ∧ (a.takeUnit e).quietUnits = a.quietUnits)
      ∧ ((a.takeUnit e).attachDue = true ↔ a.attachDue = true
        ∨ a.state = .joining ∧ a.awaitIdle = true ∧ e = .unit .idle ∧ 32 ≤ (a.takeUnit e).idleRun) := by
  simp only [← LineEvent.valid_iff, ← LineEvent.idle_iff, ne_eq]
  refine ⟨fun idle => ?_, fun busy => ?_, by simp [Atc.takeUnit], fun present => ?_, fun loss => ?_, ?_⟩
  · simp [Atc.takeUnit, Atc.idleRunAfter, idle, addUpTo, Config.idleRunCeiling]
  · simp [Atc.takeUnit, Atc.idleRunAfter, busy]
  · refine ⟨fun valid => ?_, fun silent => ?_, ?_⟩ <;> simp [Atc.takeUnit, addUpTo, Config.lossUnits, *]
  · refine ⟨fun valid => ?_, fun silent => ?_, ?_⟩ <;> simp [Atc.takeUnit, addUpTo, Config.restoralUnits, *]
  · simp only [Atc.takeUnit, Bool.or_eq_true, Bool.and_eq_true, beq_iff_eq, decide_eq_true_eq, and_assoc]
    exact Iff.rfl

/-- Settles O9: the watch and the frame receiver take the unit time, each its own items. -/
theorem lineUnitCounts : Obligations.LineUnitCounts := by
  intro s e valid
  have frame := s.unitPassed.takeUnit_frame e
  have told := s.unitPassed.tells_takeUnit e
  have watching : s.unitPassed.watching = s.watching := rfl
  have atc := s.unitPassed.takeUnit_atc e
  obtain ⟨now, -⟩ := frame
  refine ⟨_, exec_lineUnit e s, now, fun unwatched => ?_, fun watched => ?_, told.flags_stand.1, told.flags_stand.2, ?_, ?_,
    fun c other => told.counter_stands (by simpa using other), ?_⟩
  · rw [atc, watching, unwatched, now]
    rfl
  · rw [watching, if_pos watched] at atc
    rw [atc, now]
    obtain ⟨idle, busy, seen, present, loss, attach⟩ :=
      Atc.takeUnit_counts { s.unitPassed.atc with unitEnd := s.unitPassed.now } e
    exact ⟨rfl, idle, busy, seen, present, loss, attach, rfl, rfl, rfl, rfl, rfl, rfl, rfl, rfl, rfl⟩
  · exact told.answer.1
  · exact told.answer.2
  · refine State.eq_of_items rfl ?_ rfl rfl ?_ ?_ ?_ ?_ ?_ ?_ ?_ ?_ ?_ rfl ?_ ?_ <;> simp

/-! ## Framing -/

/-- A unit that closes no frame as ABORTED leaves the Service Port (R6). -/
theorem State.takeUnit_svp {s : State} {e : LineEvent} (whole : s.attached = true → (s.rx.takeUnit e).2 = false) :
    (s.takeUnit e).svp = s.svp := by
  have framed : ∀ u : State, u.svp = s.svp → u.rx = s.rx → u.attached = s.attached → (u.assemble e).svp = s.svp := by
    intro u svp rx attached
    unfold State.assemble
    rw [attached, rx]
    split
    next assembles =>
      dsimp only
      rw [whole assembles]
      exact svp
    next => exact svp
  refine framed _ ?_ ?_ ?_ <;> split <;> rfl

/-- A unit that closes an open frame as ABORTED is counted (R6). -/
theorem State.takeUnit_aborts {s : State} {e : LineEvent} (attached : s.attached = true)
    (aborts : (s.rx.takeUnit e).2 = true) :
    (s.takeUnit e).counter .abortedFrames = min 65535 (s.counter .abortedFrames + 1) := by
  have counted : ∀ u : State, u.svp = s.svp → u.rx = s.rx → u.attached = s.attached →
      (u.assemble e).counter .abortedFrames = min 65535 (s.counter .abortedFrames + 1) := by
    intro u svp rx same
    unfold State.assemble
    rw [same, if_pos attached, rx]
    dsimp only
    rw [if_pos aborts, State.counter_countOne, if_pos rfl, State.counter, State.counter, State.withRx_svp, svp]
  refine counted _ ?_ ?_ ?_ <;> split <;> rfl

section
variable {r : Receiver} {f : RxFrame}

/-- An octet joins the open frame (R5). -/
theorem Receiver.takeUnit_data (opened : r.opened = some f) (o : Octet) :
    r.takeUnit (.unit (.data o)) = (⟨some (f.append o), r.closed⟩, false) := by
  simp [Receiver.takeUnit, opened]

/-- An END closes the open frame (R5). -/
theorem Receiver.takeUnit_finish (opened : r.opened = some f) :
    r.takeUnit (.unit .finish) = (⟨none, r.closed ++ [f]⟩, false) := by
  simp [Receiver.takeUnit, opened]

/-- With no frame open only a START has an effect (R5). -/
theorem Receiver.takeUnit_none (none : r.opened = none) (e : LineEvent) :
    r.takeUnit e = (if e = .unit .start then ⟨some ⟨[], 0⟩, r.closed⟩ else r, false) := by
  by_cases start : e = .unit .start
  · simp [Receiver.takeUnit, none, start, RxFrame.empty]
  · rw [if_neg start]
    unfold Receiver.takeUnit
    rw [none]
    split
    next => exact absurd rfl start
    next => rfl
    all_goals contradiction

/-- The other units close the open frame as ABORTED, and a START opens the next (R6). -/
theorem Receiver.takeUnit_breaks (opened : r.opened = some f) {e : LineEvent}
    (breaks : e = .unit .idle ∨ e = .unit .abort ∨ e = .violation ∨ e = .unit .start) :
    r.takeUnit e = (⟨if e = .unit .start then some ⟨[], 0⟩ else none, r.closed⟩, true) := by
  obtain rfl | rfl | rfl | rfl := breaks <;> simp [Receiver.takeUnit, opened, RxFrame.empty]

end

/-- The station after a unit that its open frame takes (R5). -/
theorem State.takeUnit_framed {s : State} {e : LineEvent} {r : Receiver} (attached : s.attached = true)
    (takes : s.rx.takeUnit e = (r, false)) :
    ∃ a : Atc, a.state = s.atc.state ∧ exec (.lineUnitReceived e) s = .next { s.unitPassed with atc := a, rx := r } := by
  refine ⟨(s.unitPassed.takeUnit e).atc, State.takeUnit_state _ e, ?_⟩
  rw [exec_lineUnit]
  have rx : (s.unitPassed.takeUnit e).rx = r := by
    have assembles : s.unitPassed.attached = true := attached
    rw [State.takeUnit_rx, if_pos assembles]
    exact congrArg Prod.fst takes
  have svp : (s.unitPassed.takeUnit e).svp = s.svp :=
    State.takeUnit_svp (s := s.unitPassed) fun _ => congrArg Prod.snd takes
  refine congrArg Host.Outcome.next (State.eq_of_items ?_ ?_ rfl rx ?_ ?_ ?_ ?_ ?_ ?_ ?_ ?_ ?_ svp ?_ ?_) <;> simp

/-- The frame open once octets have come (R5). -/
def RxFrame.of (octets : List Octet) : RxFrame := ⟨octets.take 1167, octets.length⟩

theorem RxFrame.of_append (octets : List Octet) (o : Octet) : (RxFrame.of octets).append o = RxFrame.of (octets ++ [o]) := by
  have full : (List.take 1167 octets).length < Config.maxFrame ↔ octets.length < 1167 := by
    rw [List.length_take]
    show min 1167 octets.length < 1167 ↔ _
    omega
  simp only [RxFrame.of, RxFrame.append, full, List.length_append, List.length_singleton]
  split
  next room => rw [List.take_of_length_le room.le, List.take_of_length_le (by simp; omega)]
  next short => rw [List.take_append_of_le_length (by omega)]

/-- An open frame takes its octets and its END (R5). -/
theorem State.assembles (more : List Octet) (octets : List Octet) (s : State) (attached : s.attached = true)
    (opened : s.rx.opened = some (RxFrame.of octets)) :
    ∃ t, execAll (more.map (fun o => .lineUnitReceived (.unit (.data o))) ++ [.lineUnitReceived (.unit .finish)]) s
        = .next t
      ∧ t.rx = ⟨none, s.rx.closed ++ [RxFrame.of (octets ++ more)]⟩
      ∧ t = { s with now := t.now, atc := t.atc, rx := t.rx } := by
  induction more generalizing octets s with
  | nil =>
    obtain ⟨a, -, next⟩ := State.takeUnit_framed attached (Receiver.takeUnit_finish opened)
    refine ⟨{ s.unitPassed with atc := a, rx := ⟨none, s.rx.closed ++ [RxFrame.of octets]⟩ }, ?_, ?_, rfl⟩
    · rw [List.map_nil, List.nil_append, execAll, next]
      rfl
    · rw [List.append_nil]
  | cons o more ih =>
    have takes := Receiver.takeUnit_data opened o
    rw [RxFrame.of_append] at takes
    obtain ⟨a, state, next⟩ := State.takeUnit_framed attached takes
    obtain ⟨t, runs, rx, same⟩ := ih (octets ++ [o])
      { s.unitPassed with atc := a, rx := ⟨some (RxFrame.of (octets ++ [o])), s.rx.closed⟩ }
      (by rw [State.attached, state]; exact attached) rfl
    refine ⟨t, ?_, ?_, same⟩
    · rw [List.map_cons, List.cons_append, execAll, next]
      exact runs
    · rw [rx, List.append_assoc]
      rfl

/-- Settles O10: a frame is open from its START on, takes its octets one by one and waits from its END on. -/
theorem unitsAreFramed : Obligations.UnitsAreFramed := by
  refine ⟨fun s octets attached none => ?_, fun s e => ⟨_, exec_lineUnit e s, fun out => ?_, fun attached none => ?_,
    fun attached opened breaks => ?_⟩⟩
  · obtain ⟨a, state, next⟩ := State.takeUnit_framed attached (Receiver.takeUnit_none none (.unit .start))
    obtain ⟨t, runs, rx, same⟩ := State.assembles octets []
      { s.unitPassed with atc := a, rx := ⟨some (RxFrame.of []), s.rx.closed⟩ }
      (by rw [State.attached, state]; exact attached) rfl
    refine ⟨t, ?_, rx, same⟩
    rw [List.append_assoc, List.singleton_append, execAll, next]
    exact runs
  · have out : s.unitPassed.attached = false := out
    exact ⟨by rw [State.takeUnit_rx, if_neg (by simp [out])],
      State.takeUnit_svp (s := s.unitPassed) fun attached => by simp [out] at attached⟩
  · have attached : s.unitPassed.attached = true := attached
    have takes := Receiver.takeUnit_none (r := s.unitPassed.rx) none e
    refine ⟨State.takeUnit_svp (s := s.unitPassed) fun _ => by rw [takes], ?_⟩
    rw [State.takeUnit_rx, if_pos attached, takes]
  · have attached : s.unitPassed.attached = true := attached
    obtain ⟨f, opened⟩ := Option.isSome_iff_exists.mp opened
    have takes := Receiver.takeUnit_breaks (r := s.unitPassed.rx) opened breaks
    refine ⟨?_, State.takeUnit_aborts attached (by rw [takes]), (State.tells_takeUnit _ e).flags_stand.1⟩
    rw [State.takeUnit_rx, if_pos attached, takes]

/-! ## The signal upstream -/

theorem exec_upstreamLoss {s : State} (watching : s.watching = true) (present : s.atc.upstream = .present)
    (quiet : 64 ≤ s.atc.quietUnits) : exec .upstreamLossDeclaration s = .next s.declareLoss := by
  have due : (s.watching && s.atc.upstream == .present && decide (Config.lossUnits ≤ s.atc.quietUnits)) = true := by
    rw [watching, present, decide_eq_true (show Config.lossUnits ≤ s.atc.quietUnits from quiet)]
    rfl
  show s.takeEvent (s.nowIf _) State.declareLoss = _
  rw [due]
  exact State.takeEvent_nowIf _

theorem exec_upstreamRestoral {s : State} (watching : s.watching = true) (loss : s.atc.upstream = .loss)
    (valid : 256 ≤ s.atc.validRun) : exec .upstreamRestoral s = .next s.declareRestoral := by
  have due : (s.watching && s.atc.upstream == .loss && decide (Config.restoralUnits ≤ s.atc.validRun)) = true := by
    rw [watching, loss, decide_eq_true (show Config.restoralUnits ≤ s.atc.validRun from valid)]
    rfl
  show s.takeEvent (s.nowIf _) State.declareRestoral = _
  rw [due]
  exact State.takeEvent_nowIf _

/-- The watch as a loss is declared (R20). -/
abbrev Atc.lost (a : Atc) : Atc := { a with upstream := .loss, quietUnits := 0, validRun := 0 }

theorem State.declareLoss_attached {s : State} (attached : s.attached = true) :
    s.declareLoss = ((s.withAtc s.atc.lost).raise .upstreamLoss).abortOpen := if_pos attached

theorem State.declareLoss_out {s : State} (out : s.attached = false) :
    s.declareLoss = if s.atc.state = .joining ∧ s.atc.awaitIdle = true then s.withAtc (s.atc.lost.startHoldoff s.now)
      else s.withAtc s.atc.lost := if_neg (Bool.eq_false_iff.mp out)

/-- Settles O11: by the state the declaration finds the station in. -/
theorem upstreamSignalIsDeclared : Obligations.UpstreamSignalIsDeclared := by
  refine ⟨fun s watching present quiet => ⟨_, exec_upstreamLoss watching present quiet, fun attached => ?_, fun out => ?_⟩,
    fun s watching loss valid => ?_⟩
  · rw [State.declareLoss_attached attached, State.abortOpen]
    have kept : (((s.withAtc s.atc.lost).raise .upstreamLoss).rx.opened) = s.rx.opened := rfl
    rw [kept]
    split
    next => rfl
    next none =>
      have none : s.rx.opened = Option.none := by simpa using none
      exact State.eq_of_items rfl rfl rfl (by rw [← none]; rfl) rfl rfl rfl rfl rfl rfl rfl rfl rfl rfl rfl rfl
  · rw [State.declareLoss_out out]
    split <;> rfl
  · rw [exec_upstreamRestoral watching loss valid]
    unfold State.declareRestoral State.raiseIf
    split <;> rfl

/-! ## Joining -/

/-- An announce offered to a free slot (R49, R68). -/
theorem State.announce_free {s : State} {g : Image} (image : s.stc.image = some g) (free : s.inq.slot = none)
    (leaving : Bool) : s.announce leaving = { s with
      pru := { s.pru with seq := s.pru.seq + 1 }, inq := { s.inq with slot := some (s.announceNow g leaving) } } := by
  unfold State.announce State.offerAnnounce
  simp [image, free]
  rfl

/-- The station as it attaches, before the first announce (R24, R41, R53, R69). -/
def State.attaching (s : State) : State := { s with
  atc := { s.atc with
    attach := true, state := .proving, closure := .opened, holdoff := none, awaitIdle := false, attachDue := false }
  trm := Trm.reset
  rx := Receiver.reset
  rfw := { Rfw.reset with arbiter := .gap s.now }
  pru := { s.pru with timer := some s.now } }

theorem State.attachNow_eq (s : State) : s.attachNow = s.attaching.announce false := rfl

/-- Settles O12: by the note and the line as the holdoff expires; the attach is one record of what it sets. -/
theorem joiningEndsInProving : Obligations.JoiningEndsInProving := by
  refine ⟨fun s start joining running => ?_, fun s g joining due whole image slot => ?_⟩
  · have due : s.joinHoldoffExpiryAt = some (start + 800 * Config.millisecond) := by
      rw [State.joinHoldoffExpiryAt, joining, running]
      rfl
    refine (State.takeEvent_due State.holdoffExpired due).trans (congrArg Host.Outcome.next ?_)
    unfold State.holdoffExpired
    cases seen : s.atc.signalSeen <;> cases upstream : s.atc.upstream <;> simp [seen, upstream, State.withAtc] <;> rfl
  · have comes : (s.atc.state == .joining && s.atc.attachDue && s.rfw.cut.isNone) = true := by simp [joining, due, whole]
    show s.takeEvent (s.nowIf _) State.attachNow = _
    rw [comes, State.takeEvent_nowIf, if_pos rfl]
    have free : s.attaching.inq.slot = none := slot
    rw [State.attachNow_eq, State.announce_free (s := s.attaching) image free]
    rfl

end Sys2Proof.Machine

/-! SUPPORT. The service port's requests (R184 to R192). -/

namespace Sys2Proof.Machine

section
variable {s : State}

/-! ## Monitoring and maintenance -/

theorem State.monitored_iff : s.monitored = true ↔ s.stc.load = .loaded ∨ s.stc.load = .faulted := by
  unfold State.monitored
  split <;> simp [*]

theorem State.monitor_taken (monitored : s.stc.load = .loaded ∨ s.stc.load = .faulted) (effect : State → State) :
    s.monitor effect = .next (effect s) := by
  rw [State.monitor, if_pos (State.monitored_iff.mpr monitored)]

theorem State.monitor_refused (out : s.stc.load = .loading ∨ s.stc.load = .maintenance) (effect : State → State) :
    s.monitor effect = .next (s.reply .nak) := by
  rw [State.monitor, if_neg fun taken => ?_]
  obtain taken | taken := State.monitored_iff.mp taken <;> simp [taken] at out

theorem State.maintained_iff : s.maintained = true ↔ s.stc.load = .maintenance ∧ s.stc.write = none := by
  simp [State.maintained]

theorem State.maintain_taken (maintenance : s.stc.load = .maintenance) (free : s.stc.write = none)
    (effect : State → State) : s.maintain effect = .next (effect s) := by
  rw [State.maintain, if_pos (State.maintained_iff.mpr ⟨maintenance, free⟩)]

theorem State.maintain_refused (out : s.stc.load ≠ .maintenance ∨ s.stc.write ≠ none) (effect : State → State) :
    s.maintain effect = .next (s.reply .nak) := by
  rw [State.maintain, if_neg fun taken => ?_]
  obtain ⟨maintenance, free⟩ := State.maintained_iff.mp taken
  exact out.elim (· maintenance) (· free)

/-- A request of too few octets is not received (R186, R187). -/
theorem State.received_short {octets : List Octet} (short : octets.length < 271) (request : List Octet → Result) :
    s.received octets request = .next (s.withSvp { s.svp with answer := none, writeOpen := false }) := if_pos short

/-- A request with a record is taken with its first 271 octets (R186, R187). -/
theorem State.received_whole {octets : List Octet} (whole : 271 ≤ octets.length) (request : List Octet → Result) :
    s.received octets request = request (octets.take 271) := if_neg (Nat.not_lt.mpr whole)

end

/-! ## O48 -/

/-- The counters of every subscription, in their order (R192). -/
theorem State.allCounters_eq (s : State) : s.allCounters
    = s.svp.counters.toList ++ (List.finRange 16).flatMap fun n => (s.srx[n]).counters.toList := by
  have contexts : s.srx.toList = (List.finRange 16).map fun n => s.srx[n] := by
    apply List.ext_getElem <;> simp
  rw [State.allCounters, contexts, List.map_map, List.flatMap]
  rfl

/-- Settles O48: each read is answered with the snapshot its request names. -/
theorem readsAnswerSnapshots : Obligations.ReadsAnswerSnapshots := by
  intro s monitored answered
  have taken := State.monitor_taken monitored
  refine ⟨⟨s.stationAnswer, taken _, rfl, rfl, rfl, rfl, rfl, rfl, rfl, rfl, rfl, rfl, rfl, rfl, fun q => ?_⟩, taken _,
    fun n above => ?_, fun n inside => ⟨s.streamAnswer ⟨n.toNat, inside⟩, ?_, fun none => ?_, fun g image u used => ?_⟩,
    fun n above => ?_, fun n inside => ⟨s.sourceAnswer ⟨n.toNat, inside⟩, ?_, fun none => ?_, fun g image c used => ?_⟩,
    ?_, ?_⟩
  · exact mapAll_get ..
  · show execReadStream n s = _
    rw [execReadStream, taken, dif_neg (Nat.not_lt.mpr above)]
    rfl
  · show execReadStream n s = _
    rw [execReadStream, taken, dif_pos inside]
    rfl
  · cases image : s.stc.image with
    | none => rw [State.streamAnswer, image]; rfl
    | some g => rw [State.streamAnswer, image, Option.bind_some, none g image]; rfl
  · refine ⟨(s.srx[(⟨n.toNat, inside⟩ : Fin 16)]).answer u, ?_, rfl, rfl, rfl, rfl, rfl, rfl, rfl, rfl, rfl, rfl, rfl, rfl,
      rfl, rfl⟩
    rw [State.streamAnswer, image, Option.bind_some, used]
    rfl
  · show execReadSource n s = _
    rw [execReadSource, taken, dif_neg (Nat.not_lt.mpr above)]
    rfl
  · show execReadSource n s = _
    rw [execReadSource, taken, dif_pos inside]
    rfl
  · cases image : s.stc.image with
    | none => rw [State.sourceAnswer, image]; rfl
    | some g => rw [State.sourceAnswer, image, Option.bind_some, none g image]; rfl
  · rw [State.sourceAnswer, image, Option.bind_some, used]
    rfl
  · rw [← State.allCounters_eq]
    exact taken _
  · show execReadEvents s = _
    rw [execReadEvents, taken]
    rfl

/-! ## O49 -/

theorem EventFlag.number_lt (f : EventFlag) : f.number < 18 := by cases f <;> decide

/-- Every bit of a flag set is a flag's (R190). -/
theorem EventFlag.exists_number {i : Nat} (h : i < 18) : ∃ f : EventFlag, f.number = i := by
  have all : ∀ i : Fin 18, ∃ f ∈ [EventFlag.ringClosed, .ringOpened, .upstreamLoss, .upstreamRestored, .peerArrived,
      .peerExpired, .claimYielded, .claimResumed, .addressConflict, .streamLocked, .streamUnlocked, .streamRelocked,
      .captureFault, .clockHoldover, .cueUndelivered, .fallbackLatched, .audioDropped, .repeatOverflow],
      f.number = i.val := by decide
  obtain ⟨f, -, number⟩ := all ⟨i, h⟩
  exact ⟨f, number⟩

/-- The set that holds one flag holds no other. -/
theorem EventFlag.getLsbD_bit (f g : EventFlag) : f.bit.getLsbD g.number = decide (g = f) := by
  have inside := g.number_lt
  by_cases same : g = f
  · subst same
    simp [EventFlag.bit, inside]
  · have other : g.number ≠ f.number := fun e => same (EventFlag.number_inj e)
    simp only [EventFlag.bit, BitVec.getLsbD_shiftLeft, BitVec.getLsbD_one, same]
    simp
    omega

/-- A flag raised leaves the seen set (R190). -/
theorem State.seen_raise (s : State) (f g : EventFlag) : (s.raise f).seen g = (s.seen g && !decide (g = f)) := by
  show (s.svp.seen &&& ~~~f.bit).getLsbD g.number = _
  rw [BitVec.getLsbD_and, BitVec.getLsbD_not, EventFlag.getLsbD_bit, decide_eq_true g.number_lt, Bool.true_and]
  rfl

/-- CLEAR_SEEN clears the flags seen (R190). -/
theorem State.flag_clearSeen (s : State) (f : EventFlag) :
    s.clearSeen.flag f = (s.flag f && !s.seen f) ∧ s.clearSeen.seen f = false := by
  refine ⟨?_, by simp [State.seen, State.clearSeen]⟩
  show (s.svp.flags &&& ~~~s.svp.seen).getLsbD f.number = _
  rw [BitVec.getLsbD_and, BitVec.getLsbD_not, decide_eq_true f.number_lt, Bool.true_and]
  rfl

/-- ATTN follows the flags unmasked (R191). -/
theorem State.attn_iff {s : State} {g : Image} (image : s.stc.image = some g) :
    s.attn = true ↔ ∃ f : EventFlag, s.flag f = true ∧ g.mask.getLsbD f.number = false := by
  have unmasked : s.attn = (s.svp.flags &&& ~~~g.mask != 0#18) := by rw [State.attn, image]
  have bit (f : EventFlag) : (s.svp.flags &&& ~~~g.mask).getLsbD f.number
      = (s.flag f && !g.mask.getLsbD f.number) := by
    rw [BitVec.getLsbD_and, BitVec.getLsbD_not, decide_eq_true f.number_lt, Bool.true_and]
    rfl
  rw [unmasked, bne_iff_ne]
  constructor
  · intro some
    by_contra none
    refine some (BitVec.eq_of_getLsbD_eq fun i inside => ?_)
    obtain ⟨f, rfl⟩ := EventFlag.exists_number inside
    rw [bit, BitVec.getLsbD_zero]
    by_contra set
    simp only [Bool.not_eq_false, Bool.and_eq_true, Bool.not_eq_true'] at set
    exact none ⟨f, set⟩
  · rintro ⟨f, set, clear⟩ zero
    have none := bit f
    rw [zero, set, clear, BitVec.getLsbD_zero] at none
    cases none

/-- Settles O49: each request has its one effect, and ATTN is read bit by bit. -/
theorem eventsAndCountersAreCleared : Obligations.EventsAndCountersAreCleared := by
  intro s
  refine ⟨fun monitored => ?_, rfl, rfl, fun g image => State.attn_iff image, fun none => by rw [State.attn, none]⟩
  have taken := State.monitor_taken monitored
  have clears : exec .clearSeen s = .next (s.clearSeen.reply (.ack .none)) := by
    show execClearSeen s = _
    rw [execClearSeen, taken]
  have zeroes : exec .zeroCounters s = .next (s.zeroCounters.reply (.ack .none)) := by
    show execZeroCounters s = _
    rw [execZeroCounters, taken]
  refine ⟨⟨_, clears, s.flag_clearSeen, rfl⟩, fun f => ?_, ⟨_, zeroes, fun c => ?_, fun n c => ?_, fun n => ?_, ?_⟩⟩
  · exact ⟨by rw [State.flag_raise]; simp, by rw [State.seen_raise]; simp⟩
  · exact replicate_get ..
  · have zeroed : s.zeroCounters.srx[n] = (s.srx[n]).zeroed := mapAll_get ..
    exact (congrArg (Context.counter · c) zeroed).trans (replicate_get ..)
  · have zeroed : s.zeroCounters.srx[n] = (s.srx[n]).zeroed := mapAll_get ..
    show s.zeroCounters.srx[n] = { s.srx[n] with counters := (s.zeroCounters.srx[n]).counters }
    rw [zeroed]
    rfl
  · refine State.eq_of_items ?_ ?_ ?_ ?_ ?_ ?_ ?_ ?_ ?_ ?_ ?_ ?_ ?_ ?_ ?_ ?_ <;> simp
    rfl

/-! ## O50 -/

/-- The monitoring requests (R188). -/
theorem exec_monitoring {c : Instr} (s : State)
    (request : c ∈ [Instr.readStation, .readPeers, .readCounters, .readEvents, .clearSeen, .zeroCounters, .restartRing]
      ∨ ∃ n, c = .readStream n ∨ c = .readSource n) : ∃ effect, exec c s = s.monitor effect := by
  simp only [List.mem_cons, List.not_mem_nil, or_false] at request
  obtain (rfl | rfl | rfl | rfl | rfl | rfl | rfl) | ⟨n, rfl | rfl⟩ := request
  · exact ⟨_, show execReadStation s = _ from rfl⟩
  · exact ⟨_, show execReadPeers s = _ from rfl⟩
  · exact ⟨_, show execReadCounters s = _ from rfl⟩
  · exact ⟨_, show execReadEvents s = _ from rfl⟩
  · exact ⟨_, show execClearSeen s = _ from rfl⟩
  · exact ⟨_, show execZeroCounters s = _ from rfl⟩
  · exact ⟨_, show execRestartRing s = _ from rfl⟩
  · exact ⟨_, show execReadStream n s = _ from rfl⟩
  · exact ⟨_, show execReadSource n s = _ from rfl⟩

/-- The maintenance requests, those with a whole record among them (R184). -/
theorem exec_maintaining {c : Instr} {rec : List Octet} (s : State) (whole : 271 ≤ rec.length)
    (request : c ∈ [Instr.identify, .readConfig, .writeConfig rec, .verifyConfig rec]) :
    ∃ effect, exec c s = s.maintain effect := by
  simp only [List.mem_cons, List.not_mem_nil, or_false] at request
  obtain rfl | rfl | rfl | rfl := request
  · exact ⟨_, show execIdentify s = _ from rfl⟩
  · exact ⟨_, show execReadConfig s = _ from rfl⟩
  · exact ⟨_, show execWriteConfig rec s = _ from State.received_whole whole _⟩
  · exact ⟨_, show execVerifyConfig rec s = _ from State.received_whole whole _⟩

/-- Settles O50: a request out of its load state or of too few octets is not taken. -/
theorem requestsOutOfPlaceAreRefused : Obligations.RequestsOutOfPlaceAreRefused := by
  refine ⟨fun s c rec whole out => ?_, fun s c octets short mem => ?_⟩
  · obtain ⟨out, request⟩ | ⟨out, request⟩ := out
    · obtain ⟨effect, monitored⟩ := exec_monitoring s request
      rw [monitored, State.monitor_refused out]
      rfl
    · obtain ⟨effect, maintained⟩ := exec_maintaining s whole request
      rw [maintained, State.maintain_refused out]
      rfl
  · simp only [List.mem_cons, List.not_mem_nil, or_false] at mem
    obtain rfl | rfl := mem
    · exact (show execWriteConfig octets s = _ from State.received_short short _)
    · exact (show execVerifyConfig octets s = _ from State.received_short short _)

/-! ## O51 -/

theorem checkStatus_noMemory (rec : List Octet) : checkStatus rec = .noMemory ↔ ∀ o ∈ rec, o = 0xFF#8 := by
  unfold checkStatus
  split
  next blank => simpa using blank
  next written =>
    refine ⟨fun none => ?_, fun blank => absurd (by simpa using blank) written⟩
    split at none <;> cases none

theorem checkStatus_agrees (rec : List Octet) :
    checkStatus rec = .agrees ↔ (¬ ∀ o ∈ rec, o = 0xFF#8) ∧ recordCheck (rec.take 269) = field16 rec 269 := by
  rw [← checkStatus_noMemory]
  unfold checkStatus
  split
  · simp
  · split <;> simp_all [computedCheck, storedCheck]

/-- Settles O51: each request reads the memory as it stands. -/
theorem maintenanceReads : Obligations.MaintenanceReads := by
  intro s octets maintenance free whole record stored answered
  have taken := State.maintain_taken maintenance free
  have same : s.stc.memory.record = stored := rfl
  have check : s.identifyAnswer.stored = storedCheck stored := by simp only [State.identifyAnswer, same]
  have computed : s.identifyAnswer.computed = computedCheck stored := by simp only [State.identifyAnswer, same]
  have status : s.identifyAnswer.status = checkStatus stored := by simp only [State.identifyAnswer, same]
  refine ⟨⟨s.identifyAnswer, ?_, rfl, rfl, rfl, rfl, check, computed, ?_, ?_⟩, ?_, ?_, fun mismatch => ?_⟩
  · show execIdentify s = _
    rw [execIdentify, taken]
    rfl
  · rw [status]
    exact checkStatus_noMemory stored
  · rw [status, check, computed]
    exact checkStatus_agrees stored
  · show execReadConfig s = _
    rw [execReadConfig, taken]
    rfl
  · show execVerifyConfig octets s = _
    rw [execVerifyConfig, State.received_whole whole, taken]
    rfl
  · show execWriteConfig octets s = _
    rw [execWriteConfig, State.received_whole whole, taken]
    exact congrArg Host.Outcome.next (if_pos mismatch)

end Sys2Proof.Machine

/-! SUPPORT. WRITE_CONFIG, page by page (R186). -/

namespace Sys2Proof.Machine

/-- Octets written on from where others end are one write (R184). -/
theorem Memory.writeFrom_append (xs ys : List Octet) (a : Nat) (m : Memory) :
    m.writeFrom a (xs ++ ys) = (m.writeFrom a xs).writeFrom (a + xs.length) ys := by
  induction xs generalizing a m with
  | nil => rfl
  | cons x xs ih =>
    rw [List.cons_append, Memory.writeFrom, ih, Memory.writeFrom, List.length_cons, Nat.add_assoc, Nat.add_comm 1]

section
variable {s : State}

/-- The memory with the pages up to page k written (R186). -/
def Memory.pagesTo (m : Memory) (rec : List Octet) (k : Nat) : Memory := m.writeFrom 0 (rec.take (32 * (k + 1)))

/-- The next page goes on from those written (R186). -/
theorem Memory.pagesTo_succ (m : Memory) (rec : List Octet) {k : Nat} (more : 32 * (k + 1) ≤ rec.length) :
    (m.pagesTo rec k).writeFrom (32 * (k + 1)) ((rec.drop (32 * (k + 1))).take 32) = m.pagesTo rec (k + 1) := by
  have split : rec.take (32 * (k + 1 + 1)) = rec.take (32 * (k + 1)) ++ (rec.drop (32 * (k + 1))).take 32 := by
    rw [show 32 * (k + 1 + 1) = 32 * (k + 1) + 32 from rfl, List.take_add]
  rw [Memory.pagesTo, Memory.pagesTo, split, Memory.writeFrom_append, List.length_take, Nat.min_eq_left more,
    Nat.zero_add]

/-- A write in progress, its pages up to page k written. -/
def State.writing (s : State) (rec : List Octet) (k : Nat) : State := { s with
  stc := { s.stc with memory := s.stc.memory.pagesTo rec k, write := some ⟨rec, .page k s.now⟩ }
  svp := { s.svp with answer := some .wait, writeOpen := true } }

/-- A record whose check matches begins a write (R186). -/
theorem exec_writeConfig {octets : List Octet} (maintenance : s.stc.load = .maintenance) (free : s.stc.write = none)
    (whole : 271 ≤ octets.length)
    (matched : recordCheck ((octets.take 271).take 269) = field16 (octets.take 271) 269) :
    exec (.writeConfig octets) s = .next (s.writing (octets.take 271) 0) := by
  show execWriteConfig octets s = _
  rw [execWriteConfig, State.received_whole whole, State.maintain_taken maintenance free]
  exact congrArg Host.Outcome.next (if_neg (not_not.mpr matched))

/-- A memory ready in time takes the next page (R186). -/
theorem State.pageReady_next {rec : List Octet} {k since : Nat} (page : s.stc.write = some ⟨rec, .page k since⟩)
    (ready : s.now ≤ since + 20 * Config.millisecond) (more : k < 8) :
    exec .writeConfigPageReady s = .next { s with stc := { s.stc with
      memory := s.stc.memory.writeFrom (32 * (k + 1)) ((rec.drop (32 * (k + 1))).take 32)
      write := some ⟨rec, .page (k + 1) s.now⟩ } } := by
  have ready : s.now ≤ since + busyTime := ready
  have more : k + 1 < Config.pageCount := Nat.succ_lt_succ more
  show Host.Outcome.next s.pageReady = _
  rw [State.pageReady, page]
  dsimp only
  rw [if_pos ready, if_pos more]
  rfl

/-- After the 9th page the read-back begins (R186). -/
theorem State.pageReady_last {rec : List Octet} {k since : Nat} (page : s.stc.write = some ⟨rec, .page k since⟩)
    (ready : s.now ≤ since + 20 * Config.millisecond) (last : 8 ≤ k) :
    exec .writeConfigPageReady s = .next { s with stc := { s.stc with write := some ⟨rec, .readback⟩ } } := by
  have ready : s.now ≤ since + busyTime := ready
  have last : ¬ k + 1 < Config.pageCount := Nat.not_lt.mpr (Nat.succ_le_succ last)
  show Host.Outcome.next s.pageReady = _
  rw [State.pageReady, page]
  dsimp only
  rw [if_pos ready, if_neg last]
  rfl

/-- The pages of a write, each ready at once. -/
theorem State.writing_pages (s : State) {rec : List Octet} (whole : rec.length = 271) (n k : Nat) (within : k + n ≤ 8)
    (tail : List Instr) :
    execAll (List.replicate n .writeConfigPageReady ++ tail) (s.writing rec k) = execAll tail (s.writing rec (k + n)) := by
  induction n generalizing k with
  | zero => rfl
  | succ n ih =>
    have page := State.pageReady_next (s := s.writing rec k) (rec := rec) (k := k) (since := s.now) rfl
      (Nat.le_add_right ..) (by omega)
    have memory : (s.writing rec k).stc.memory = s.stc.memory.pagesTo rec k := rfl
    rw [memory, Memory.pagesTo_succ _ _ (by omega)] at page
    rw [List.replicate_succ, List.cons_append, execAll, page, show k + (n + 1) = k + 1 + n by omega]
    exact ih (k + 1) (by omega)

/-- The end of a write, with what it answers while its transaction is open (R186). -/
theorem State.endWrite_eq (s : State) (ok : Bool) : s.endWrite ok =
    let v := { s with stc := { s.stc with write := none } }
    if s.svp.writeOpen = true then
      { v with svp := { v.svp with answer := some (if ok then .ack .none else .nak), writeOpen := false } }
    else v := rfl

/-- The read-back ends a write by what it finds (R186). -/
theorem exec_readbackEnd {rec : List Octet} (readback : s.stc.write = some ⟨rec, .readback⟩) :
    exec .writeConfigReadbackEnd s = .next (s.endWrite (decide (s.stc.memory.record = rec))) := by
  show Host.Outcome.next s.readbackEnd = _
  rw [State.readbackEnd, readback]

end

/-- A whole write with its pages ready at once. -/
theorem execAll_writeConfig {s : State} {octets : List Octet} (maintenance : s.stc.load = .maintenance)
    (free : s.stc.write = none) (whole : 271 ≤ octets.length) (sound : s.memorySound)
    (matched : recordCheck ((octets.take 271).take 269) = field16 (octets.take 271) 269) :
    execAll ([.writeConfig octets] ++ List.replicate 9 .writeConfigPageReady ++ [.writeConfigReadbackEnd]) s
      = .next { s with
          stc := { s.stc with memory := s.stc.memory.writeFrom 0 (octets.take 271) }
          svp := { s.svp with answer := some (.ack .none), writeOpen := false } } := by
  have length : (octets.take 271).length = 271 := by rw [List.length_take]; omega
  have begins := exec_writeConfig maintenance free whole matched
  generalize octets.take 271 = rec at *
  have all : s.stc.memory.pagesTo rec 8 = s.stc.memory.writeFrom 0 rec := by
    rw [Memory.pagesTo, List.take_of_length_le (by omega)]
  have readBack : (s.stc.memory.writeFrom 0 rec).record = rec := by
    have := Memory.readFrom_writeFrom 0 rec sound
    rwa [length] at this
  have last := State.pageReady_last (s := s.writing rec 8) (rec := rec) (k := 8) (since := s.now) rfl
    (Nat.le_add_right ..) le_rfl
  rw [List.append_assoc, List.singleton_append, execAll, begins]
  dsimp only
  rw [show List.replicate 9 Instr.writeConfigPageReady = List.replicate 8 .writeConfigPageReady
    ++ [.writeConfigPageReady] from rfl, List.append_assoc, State.writing_pages s length 8 0 (by omega),
    List.singleton_append, execAll, Nat.zero_add, last]
  dsimp only
  rw [execAll, exec_readbackEnd (rec := rec) rfl, State.endWrite_eq]
  dsimp only
  have memory : (s.writing rec 8).stc.memory = s.stc.memory.writeFrom 0 rec := all
  have opened : (s.writing rec 8).svp.writeOpen = true := rfl
  rw [execAll, if_pos opened, memory, decide_eq_true readBack, if_pos rfl, ← free]
  rfl

/-- Settles O52: by the pages written, and by what the write in progress waits for. -/
theorem writeConfigStoresTheRecord : Obligations.WriteConfigStoresTheRecord := by
  refine ⟨?_, ?_⟩
  · intro s octets record maintenance free whole sound matched
    refine ⟨⟨_, exec_writeConfig maintenance free whole matched, rfl, rfl⟩,
      ⟨_, execAll_writeConfig maintenance free whole sound matched, fun i => ?_, free, rfl, rfl⟩⟩
    exact (Memory.read_writeFrom 0 _ i sound).trans (by simp [record])
  · intro s rec ended
    refine ⟨fun k since page => ⟨State.pageReady_next page, State.pageReady_last page, ?_⟩, fun readback => ?_⟩
    · have due : s.busyTimeoutAt = some (since + 20 * Config.millisecond + 1) := by
        rw [State.busyTimeoutAt, page]
        rfl
      exact (State.takeEvent_due (·.endWrite false) due).trans (by rw [State.endWrite_eq]; rfl)
    · rw [exec_readbackEnd readback, State.endWrite_eq]
      by_cases same : s.stc.memory.record = rec
      · rw [decide_eq_true same, if_pos (show s.stc.memory.readFrom 0 271 = rec from same)]
        rfl
      · rw [decide_eq_false same, if_neg (show ¬ s.stc.memory.readFrom 0 271 = rec from same)]
        rfl

end Sys2Proof.Machine

/-! SUPPORT. The fallback and flash timers and the lamps (R160 to R176). -/

namespace Sys2Proof.Machine

section
variable {s : State}

/-- The latch set at the fallback time (R170, R173). -/
theorem State.latchFallback_eq (s : State) (p : Fin 4) : s.latchFallback p =
    let latched := { s with
      pos := { s.pos with positions := s.pos.positions.set p.val { s.pos.positions[p] with
        timer := .reached, latch := true, selection := .sidetone } p.isLt } }
    if (s.pos.positions[p]).latch = true then latched else latched.raise .fallbackLatched := by
  have set : modifyAt s.pos.positions p (fun q => ({ q with timer := .reached, latch := true } : Position).judged)
      = s.pos.positions.set p.val { s.pos.positions[p] with
          timer := .reached, latch := true, selection := .sidetone } p.isLt := rfl
  unfold State.latchFallback State.setPosition State.raiseIf
  dsimp only
  rw [set]
  cases (s.pos.positions[p]).latch <;> rfl

/-! ## Lamps -/

theorem onIf_eq (c : Bool) : onIf c = if c = true then .on else .off := rfl

/-- A venue's lamps, four to a position (R161). -/
theorem State.lampState_venue {g : Image} (loaded : s.stc.load = .loaded) (image : s.stc.image = some g)
    (venue : s.stc.straps.role = .venue) (l : Fin 16) : s.lampState l = s.venueLamp g l := by
  rw [State.lampState, loaded, image]
  exact if_pos (State.venue_eq_true.mpr venue)

theorem State.venueLamp_of (s : State) (g : Image) {l : Fin 16} {p : Fin 4} (position : positionOfInput l = p) :
    s.venueLamp g l =
      if l.val % 4 = 0 then onIf s.pos.positions[p].onAir
      else if l.val % 4 = 1 then s.pos.positions[p].talk.lamp
      else if l.val % 4 = 2 then s.fallbackLamp p
      else s.linkLamp g p := by
  subst position
  rfl

theorem State.venueLamp_at (g : Image) (p : Fin 4) :
    s.venueLamp g ⟨4 * p.val, by omega⟩ = onIf s.pos.positions[p].onAir
      ∧ s.venueLamp g ⟨4 * p.val + 1, by omega⟩ = s.pos.positions[p].talk.lamp
      ∧ s.venueLamp g ⟨4 * p.val + 2, by omega⟩ = s.fallbackLamp p
      ∧ s.venueLamp g ⟨4 * p.val + 3, by omega⟩ = s.linkLamp g p := by
  have lamp {l : Fin 16} (k : Nat) (small : k < 4) (at_ : l.val = 4 * p.val + k) :=
    s.venueLamp_of g (l := l) (p := p) (Fin.ext (show l.val / 4 = p.val by omega))
  refine ⟨?_, ?_, ?_, ?_⟩
  · rw [lamp 0 (by omega) rfl, if_pos (by dsimp only; omega)]
  · rw [lamp 1 (by omega) rfl, if_neg (by dsimp only; omega), if_pos (by dsimp only; omega)]
  · rw [lamp 2 (by omega) rfl, if_neg (by dsimp only; omega), if_neg (by dsimp only; omega),
      if_pos (by dsimp only; omega)]
  · rw [lamp 3 (by omega) rfl, if_neg (by dsimp only; omega), if_neg (by dsimp only; omega),
      if_neg (by dsimp only; omega)]

/-- LINK (R169). -/
theorem State.linkLamp_eq (g : Image) (p : Fin 4) [Decidable (∃ i c, g.source i = some c
    ∧ (∃ ch ∈ c.channels, ch.gating = .onAir p) ∧ s.trm.heard[i] = .heard)] :
    s.linkLamp g p = if ∃ i c, g.source i = some c ∧ (∃ ch ∈ c.channels, ch.gating = .onAir p)
      ∧ s.trm.heard[i] = .heard then .on else .off := by
  rw [State.linkLamp, onIf_eq]
  refine if_congr ?_ rfl rfl
  simp only [List.any_eq_true, List.mem_finRange, true_and, Bool.and_eq_true, Option.any_eq_true, beq_iff_eq,
    decide_eq_true_eq]
  constructor
  · rintro ⟨i, ⟨c, used, gated⟩, heard⟩
    exact ⟨i, c, used, gated, heard⟩
  · rintro ⟨i, c, used, gated, heard⟩
    exact ⟨i, ⟨c, used, gated⟩, heard⟩

theorem State.returnLocked_eq {g : Image} {n : Fin 16} (image : s.stc.image = some g)
    (designated : g.designated .programme = some n) : s.returnLocked = ((s.srx[n]).state == .locked) := by
  rw [State.returnLocked, State.returnStream, image, Option.bind_some, designated]

end

/-- Settles O47: the timers' effects are one record each, and each lamp is read off its place. -/
theorem fallbackTimersAndLamps : Obligations.FallbackTimersAndLamps := by
  refine ⟨fun s free => ⟨?_, ?_⟩, fun s => ⟨?_, ?_, ?_⟩⟩
  · intro g p since loaded image venue running latched
    have due : s.fallbackTimerAt p = some (since + g.fallback * Config.millisecond) := by
      rw [State.fallbackTimerAt, State.loaded, free, loaded, State.venue_eq_true.mpr venue, image, running]
      rfl
    refine (State.takeEvent_due (·.latchFallback p) due).trans ?_
    rw [State.latchFallback_eq]
  · have due : s.flashTimerAt = some (s.pos.flashAt + 250 * Config.millisecond) := by
      rw [State.flashTimerAt, if_neg (by simp [free])]
      rfl
    exact (State.takeEvent_due State.toggleFlash due).trans rfl
  · intro g p loaded image venue x heard
    have lamp := State.lampState_venue loaded image venue
    obtain ⟨onAir, talk, fallback, link⟩ := s.venueLamp_at g p
    simp only [lamp, onAir, talk, fallback, link]
    refine ⟨onIf_eq _, ?_, fun clear => ?_, fun n set designated => ?_, fun yes => ?_, fun no => ?_⟩
    · cases talk : s.pos.positions[p].talk <;> rfl
    · rw [State.fallbackLamp, show s.pos.positions[p].latch = false from clear]
      rfl
    · rw [State.fallbackLamp, show s.pos.positions[p].latch = true from set, State.returnLocked_eq image designated]
      simp
    · classical rw [State.linkLamp_eq, if_pos yes]
    · classical rw [State.linkLamp_eq, if_neg no]
  · intro g l loaded image gallery
    rw [State.lampState, loaded, image, State.venue_of_gallery gallery]
    rfl
  · intro l
    refine ⟨fun faulted => by rw [State.lampState, faulted], fun out => ?_, ?_⟩
    · obtain out | out := out <;> rw [State.lampState, out]
    · rw [State.lit]
      cases s.lampState l <;> cases s.pos.flashLit <;> rfl

end Sys2Proof.Machine

/-! SUPPORT. The TX arbiter: what it chooses, what starts, and the units on the line (R2, R41 to R46). -/

namespace Sys2Proof.Machine

section
variable {s : State}

/-! ## The choice -/

/-- What the arbiter holds once it has acted is what it starts next (R44). -/
theorem State.nextStart_of_decided {since : Nat} {k : FrameChoice}
    (decided : s.decideStart.rfw.arbiter = .ready since (some k)) :
    (∃ c, s.rfw.arbiter = .ready since c) ∧ s.nextStart = some k := by
  obtain ⟨began, c, ready, eq⟩ | ⟨idle, eq⟩ := s.decideStart_eq
  · rw [eq] at decided
    obtain ⟨rfl, next⟩ := Arbiter.ready.inj decided
    exact ⟨⟨c, ready⟩, next⟩
  · rw [eq] at decided
    rw [decided] at idle
    cases idle

theorem State.decided_of_nextStart {k : FrameChoice} (next : s.nextStart = some k) :
    ∃ since, s.decideStart.rfw.arbiter = .ready since (some k) := by
  obtain ⟨since, c, ready, eq⟩ | ⟨idle, eq⟩ := s.decideStart_eq
  · exact ⟨since, by rw [eq, next]⟩
  · rw [State.nextStart] at next
    split at next
    next ready => rw [ready] at idle; cases idle
    all_goals cases next

/-- Of the station the choice alone moves (R44). -/
theorem State.decideStart_same (s : State) : s.decideStart = { s with rfw := s.decideStart.rfw } := by
  obtain ⟨since, c, -, eq⟩ | ⟨-, eq⟩ := s.decideStart_eq <;> rw [eq]

/-- What starts next is there to start (R42). -/
theorem State.mayStart_of_nextStart {k : FrameChoice} (next : s.nextStart = some k) : s.mayStart k = true := by
  rw [State.nextStart] at next
  split at next
  · obtain held | ⟨-, chosen⟩ := Option.or_eq_some_iff.mp next
    · exact (Option.filter_eq_some_iff.mp held).2
    · exact List.find?_some chosen
  all_goals cases next

/-- In READY the next unit time begins on the grid the arbiter came to READY with (R41). -/
theorem State.nextTxUnit_ready {since start : Nat} (ready : ∃ c, s.rfw.arbiter = .ready since c)
    (begins : s.unitBegins since start) : s.nextTxUnit = start := by
  obtain ⟨c, ready⟩ := ready
  rw [State.nextTxUnit, ready]
  exact State.unitBegins_unique (s.unitBegins_nextUnit since) begins

/-! ## Starts -/

theorem exec_repeatStart (next : s.nextStart = some .repeatHead) :
    exec .repeatFrameStart s = .next (State.startRepeat { s with now := max s.now s.nextTxUnit }) := by
  have due : s.repeatFrameStartAt = some s.nextTxUnit := by
    rw [State.repeatFrameStartAt, next]
    rfl
  exact State.takeEvent_due _ due

theorem exec_repeatStart_none (next : s.nextStart ≠ some .repeatHead) : exec .repeatFrameStart s = .next s := by
  have none : s.repeatFrameStartAt = none := by
    rw [State.repeatFrameStartAt, State.startAt, beq_false_of_ne next]
    rfl
  exact State.takeEvent_none _ none

theorem exec_ownStart {f : Frame} (chosen : s.chosenOwn = some f) :
    exec .ownFrameStart s = .next (State.startOwn { s with now := max s.now s.nextTxUnit } f) := by
  have due : s.ownFrameStartAt = some s.nextTxUnit := by
    rw [State.ownFrameStartAt, chosen]
    rfl
  have same : State.chosenOwn { s with now := max s.now s.nextTxUnit } = some f := chosen
  refine (State.takeEvent_due State.startChosen due).trans ?_
  rw [State.startChosen, same]

theorem exec_ownStart_none (chosen : s.chosenOwn = none) : exec .ownFrameStart s = .next s := by
  have none : s.ownFrameStartAt = none := by
    rw [State.ownFrameStartAt, State.startAt, chosen]
    rfl
  exact State.takeEvent_none _ none

/-- The head of the repeat queue is no own frame. -/
theorem State.chosenOwn_repeat (next : s.nextStart = some .repeatHead) : s.chosenOwn = none := by
  rw [State.chosenOwn, next]
  cases state : s.atc.state <;> simp [State.ownFrame, state]

/-- A full transit list holds back every own frame (R42). -/
theorem State.chosenOwn_full (full : 128 ≤ s.trm.transit.length) : s.chosenOwn = none := by
  have none : s.trm.hasRoom = false := decide_eq_false (Nat.not_lt.mpr full)
  cases next : s.nextStart with
  | none => rw [State.chosenOwn, next]; rfl
  | some k =>
    by_cases head : k = .repeatHead
    · exact State.chosenOwn_repeat (head ▸ next)
    · have may := State.mayStart_of_nextStart next
      rw [State.mayStart, none] at may
      · cases may
      · exact head

/-- An own frame that is chosen and stands first where its kind waits. -/
theorem State.chosenOwn_of_waiting {k : FrameChoice} {f : Frame} (next : s.nextStart = some k)
    (stands : (∃ c cs, k = .cue ∧ s.inq.cues = c :: cs ∧ f = .cue c)
      ∨ (∃ a, k = .announce ∧ s.inq.slot = some a ∧ f = .announce a)
      ∨ (∃ a as, k = .audio ∧ s.inq.audio = a :: as ∧ f = .audio a)) : s.chosenOwn = some f := by
  have own : k ≠ .repeatHead := by
    rintro rfl
    obtain ⟨_, _, kind, -⟩ | ⟨_, kind, -⟩ | ⟨_, _, kind, -⟩ := stands <;> cases kind
  have allowed : (s.ownFrame k).isSome = true := by
    have may := State.mayStart_of_nextStart next
    rw [State.mayStart, Bool.and_eq_true] at may
    · exact may.2
    · exact own
  rw [State.chosenOwn, next, Option.bind_some]
  unfold State.ownFrame at allowed ⊢
  obtain ⟨c, cs, rfl, waits, rfl⟩ | ⟨a, rfl, waits, rfl⟩ | ⟨a, as, rfl, waits, rfl⟩ := stands
  · cases state : s.atc.state <;> simp_all
  · cases state : s.atc.state <;> simp_all
  · cases state : s.atc.state <;> simp_all

/-! ## The units on the line -/

/-- Between frames the line carries IDLE (R2). -/
theorem State.txUnit_between (idle : s.rfw.sending = false) : s.txUnit = .idle := by
  rw [State.txUnit]
  unfold Rfw.sending at idle
  cases arbiter : s.rfw.arbiter <;> simp_all

theorem State.unitsSince_eq {since k : Nat} (begun : since + k * Config.unitTime ≤ s.now)
    (before : s.now < since + (k + 1) * Config.unitTime) : s.unitsSince since = k := by
  have positive : 0 < Config.unitTime := by decide
  rw [State.unitsSince, Nat.div_eq_iff positive]
  have next : (k + 1) * Config.unitTime = k * Config.unitTime + Config.unitTime := Nat.succ_mul ..
  omega

theorem frameUnit_octet (octets : List Octet) (i : Nat) (h : i < octets.length) :
    frameUnit octets (i + 1) = .data octets[i] := by
  simp [frameUnit, h]

theorem frameUnit_finish (octets : List Octet) : frameUnit octets (octets.length + 1) = .finish := by
  simp [frameUnit]

/-- A frame that is not cut off shows its units in their order (R2). -/
theorem State.txUnit_frame {f : LineFrame} {since k : Nat} (sending : s.rfw.arbiter = .sending f since)
    (whole : s.rfw.cut = none) (begun : since + k * Config.unitTime ≤ s.now)
    (before : s.now < since + (k + 1) * Config.unitTime) : s.txUnit = frameUnit f.octets k := by
  rw [State.txUnit_sending sending, State.aborting_of_uncut whole, State.unitsSince_eq begun before]
  rfl

end

/-! ## O17 -/

/-- A frame whose END is sent leaves the arbiter in GAP, and starts the count of a drain (R28, R41, R46). -/
theorem State.endFrame_eq {s : State} {f : LineFrame} {since : Nat} (sending : s.rfw.arbiter = .sending f since)
    (whole : s.rfw.cut = none) :
    let done := s.atc.finalSent || (s.atc.state == .leaving && f.final)
    s.endFrame = { s with
      rfw := { s.rfw with arbiter := .gap (since + (f.octets.length + 2) * Config.unitTime) }
      atc := { s.atc with
        finalSent := done
        idleRun := if s.atc.state = .leaving ∧ done = true ∧ s.rfw.repeats = [] then 0 else s.atc.idleRun } } := by
  have final : s.rfw.sendingFinal = f.final := by rw [Rfw.sendingFinal, sending]
  have sent : s.frameEndSentAt = some (since + (f.octets.length + 2) * Config.unitTime) := by
    rw [State.frameEndSentAt, sending, whole]
  have drained (r : Rfw) (since : Nat) : ({ r with arbiter := .gap since } : Rfw).drained = true ↔ r.repeats = [] := by
    simp [Rfw.drained]
  unfold State.endFrame
  dsimp only
  rw [final, sent]
  refine State.eq_of_items rfl rfl ?_ rfl rfl rfl rfl rfl rfl rfl rfl rfl rfl rfl rfl rfl
  refine congrArg (fun n => ({ s.atc with finalSent := _, idleRun := n } : Atc)) (if_congr ?_ rfl rfl)
  exact and_congr_right' (and_congr_right' (drained _ _))

/-- Settles O17: the gap, the repeat's start and the end of a frame are each one event at its instant. -/
theorem arbiterKeepsTheGap : Obligations.ArbiterKeepsTheGap := by
  refine ⟨fun s since gap => ?_, fun s => ⟨?_, fun idle => ?_⟩, fun s => State.txUnit_between,
    fun s f since sending whole => ⟨fun k begun before => ?_, ?_⟩⟩
  · have due : s.txGapCompleteAt = some (since + 4 * Config.unitTime) := by
      rw [State.txGapCompleteAt, gap]
      rfl
    refine (State.takeEvent_due State.txReady due).trans (congrArg Host.Outcome.next ?_)
    rw [State.txReady, gap]
    rfl
  · intro o rest since start decided repeats begins
    obtain ⟨ready, next⟩ := State.nextStart_of_decided decided
    have unit := State.nextTxUnit_ready ready begins
    obtain ⟨-, future, -⟩ := begins
    refine ⟨⟨_, exec_repeatStart next, ?_, fun whole => ?_⟩, exec_ownStart_none (State.chosenOwn_repeat next)⟩
    · rw [State.startRepeat, repeats, unit, Nat.max_eq_right future]
      rfl
    · rw [State.startRepeat, repeats, unit, Nat.max_eq_right future]
      exact State.txUnit_frame (k := 0) rfl whole (by simp) (by simp; decide)
  · have none (k : FrameChoice) : s.nextStart ≠ some k := fun next => by
      obtain ⟨since, decided⟩ := State.decided_of_nextStart next
      exact idle since k decided
    refine ⟨exec_repeatStart_none (none _), exec_ownStart_none ?_⟩
    rw [State.chosenOwn, Option.eq_none_iff_forall_ne_some.mpr none]
    rfl
  · rw [State.txUnit_frame sending whole begun before]
    refine ⟨fun first => by rw [first]; rfl, fun i inside here => ?_, fun last => ?_⟩
    · rw [here, frameUnit_octet _ i inside]
    · rw [last, frameUnit_finish]
  · have due : s.frameEndSentAt = some (since + (f.octets.length + 2) * Config.unitTime) := by
      rw [State.frameEndSentAt, sending, whole]
    refine (State.takeEvent_due State.endFrame due).trans (congrArg Host.Outcome.next ?_)
    rw [State.endFrame_eq (s := { s with now := _ }) (by exact sending) (by exact whole)]

/-! ## O18 -/

/-- The instant of an own frame's start gives its entry its ring time (R51, R52). -/
theorem State.startOwn_eq {s : State} (free : s.stc.held = false) (f : Frame) : s.startOwn f = State.countOne { s with
    inq := s.inq.without f
    trm := { s.trm with transit := s.trm.transit
      ++ [⟨f.identity, BitVec.ofNat 32 ((s.now - s.releasedAt) / Config.microsecond), f.cueReport⟩] }
    rfw := { s.rfw with arbiter := .sending ⟨f.octets, f.isFinal⟩ s.now } } .ownStarted := by
  have time : s.ringTime = BitVec.ofNat 32 ((s.now - s.releasedAt) / Config.microsecond) := by
    rw [State.ringTime, if_neg (by simp [free])]
  rw [← time]
  rfl

/-- Settles O18: the choice is the arbiter's, and the start takes the frame chosen from where it waits. -/
theorem ownFramesStartInOrder : Obligations.OwnFramesStartInOrder := by
  refine ⟨fun s => ⟨s.decideStart_acts, s.decideStart_same⟩,
    fun s full => exec_ownStart_none (State.chosenOwn_full full), ?_⟩
  · intro s k f q since start decided begins free stands
    obtain ⟨ready, next⟩ := State.nextStart_of_decided decided
    have unit := State.nextTxUnit_ready ready begins
    obtain ⟨-, future, -⟩ := begins
    have own : k ≠ .repeatHead := by
      rintro rfl
      obtain ⟨_, _, kind, -⟩ | ⟨_, kind, -⟩ | ⟨_, _, kind, -⟩ := stands <;> cases kind
    have chosen : s.chosenOwn = some f := State.chosenOwn_of_waiting next (by
      obtain ⟨c, cs, kind, waits, frame, -⟩ | ⟨a, kind, waits, frame, -⟩ | ⟨a, as, kind, waits, frame, -⟩ := stands
      · exact .inl ⟨c, cs, kind, waits, frame⟩
      · exact .inr (.inl ⟨a, kind, waits, frame⟩)
      · exact .inr (.inr ⟨a, as, kind, waits, frame⟩))
    have rest : s.inq.without f = q := by
      obtain ⟨c, cs, -, waits, rfl, rfl⟩ | ⟨a, -, waits, rfl, rfl⟩ | ⟨a, as, -, waits, rfl, rfl⟩ := stands <;>
        simp [Inq.without, waits]
    refine ⟨exec_repeatStart_none (by rw [next]; simpa using own), f.cueReport, f.isFinal, ?_, ?_, ?_, ?_⟩
    · rw [exec_ownStart chosen, unit, Nat.max_eq_right future, State.startOwn_eq (by exact free), ← rest]
    · rintro c rfl
      exact ⟨rfl, rfl⟩
    · rintro a rfl
      exact ⟨rfl, rfl⟩
    · rintro a rfl
      exact ⟨rfl, rfl⟩

/-! ## O28 -/

/-- An announce offered, an unsent one in the slot being replaced and counted (R49, R68). -/
theorem State.announce_offered {s : State} {g : Image} (image : s.stc.image = some g) (leaving : Bool) :
    s.announce leaving =
      let announced := { s with
        pru := { s.pru with seq := s.pru.seq + 1 }, inq := { s.inq with slot := some (s.announceNow g leaving) } }
      if s.inq.slot.isSome = true then announced.countOne .announcesReplaced else announced := by
  have slot : (s.withPru { s.pru with seq := s.pru.seq + 1 }).inq.slot.isSome = s.inq.slot.isSome := rfl
  rw [State.announce, image]
  dsimp only
  unfold State.offerAnnounce
  rw [slot]
  cases s.inq.slot.isSome <;> rfl

/-- Settles O28: the timer runs on to its next multiple, and the announce built then is offered. -/
theorem announcesArePeriodic : Obligations.AnnouncesArePeriodic := by
  intro s g last service running image
  have due : s.announceTimerAt = some (last + g.period * Config.millisecond) := by
    rw [State.announceTimerAt, service, running, image]
    rfl
  intro instant announced
  refine (State.takeEvent_due State.announceTimer due).trans (congrArg Host.Outcome.next ?_)
  have timer : State.announceTimer { s with now := max s.now instant }
      = (State.announce { s with now := max s.now instant, pru := { s.pru with timer := some instant } }
          false).decideStart := by
    unfold State.announceTimer
    dsimp only
    rw [running, image]
    rfl
  rw [timer, State.announce_offered (g := g) (by exact image)]
  rfl

end Sys2Proof.Machine

/-! SUPPORT. The outcomes of the entries that leave the transit list: what a row of them does to closure, the heard states,
the panel and the flags (R53, R55 to R57, R62 to R65). -/

namespace Sys2Proof.Machine

section
variable {s t u : State}

/-- Of the Service Port only the flags, the seen set and the counters move. -/
theorem State.Tells.svp_eq {F : Set EventFlag} {C : Set Counter} (h : State.Tells F C s t) :
    t.svp = { s.svp with flags := t.svp.flags, seen := t.svp.seen, counters := t.svp.counters } := by
  obtain ⟨answer, writeOpen⟩ := h.answer
  dsimp only
  rw [← answer, ← writeOpen]

/-! ## Cues reported undelivered -/

/-- A report acts on the panel by the panel and the straps alone (R165). -/
theorem State.cueUndelivered_pos_congr (pos : t.pos = s.pos) (stc : t.stc = s.stc) (r : CueReport) :
    (t.cueUndelivered r).pos = (s.cueUndelivered r).pos := by
  have venue : t.venue = s.venue := by rw [State.venue, State.venue, stc]
  have told (x : State) : (x.raise .cueUndelivered).venue = x.venue := rfl
  unfold State.cueUndelivered State.cueOutcome
  rw [told, told, venue]
  split
  · simp [State.setPosition, pos]
  · exact pos

theorem State.cuesUndelivered_pos_congr (rs : List CueReport) (pos : t.pos = s.pos) (stc : t.stc = s.stc) :
    (rs.foldl State.cueUndelivered t).pos = (rs.foldl State.cueUndelivered s).pos := by
  induction rs generalizing s t with
  | nil => exact pos
  | cons r rs ih => exact ih (State.cueUndelivered_pos_congr pos stc r) (by simp [stc])

/-- Cues have been reported undelivered: the panel and CUE_UNDELIVERED are as their reports leave them. -/
structure State.Reports (rs : List CueReport) (s t : State) : Prop where
  pos : t.pos = (rs.foldl State.cueUndelivered s).pos
  flag : t.flag .cueUndelivered = true ↔ s.flag .cueUndelivered = true ∨ rs ≠ []

theorem State.Reports.nil (pos : t.pos = s.pos) (flag : t.flag .cueUndelivered = s.flag .cueUndelivered) :
    State.Reports [] s t := ⟨pos, by simp [flag]⟩

theorem State.Reports.append {xs ys : List CueReport} (h : State.Reports xs s t) (k : State.Reports ys t u)
    (stc : t.stc = s.stc) : State.Reports (xs ++ ys) s u := by
  refine ⟨?_, ?_⟩
  · rw [k.pos, List.foldl_append]
    refine State.cuesUndelivered_pos_congr ys h.pos ?_
    rw [stc, foldl_keeps (p := State.stc) State.cueUndelivered (fun b a => by simp)]
  · rw [k.flag, h.flag, or_assoc, ne_eq, ne_eq, ne_eq, List.append_eq_nil_iff, not_and_or]

/-- What the reports say of the panel together (R50, R53, R64). -/
theorem State.Reports.cuesLost {rs : List CueReport} (h : State.Reports rs s t) : State.cuesLost rs s t := by
  have all := State.cuesLost_foldl rs s
  obtain ⟨-, gallery, positions, venue⟩ := all
  rw [← h.pos] at gallery positions venue
  exact ⟨h.flag, gallery, positions, venue⟩

theorem State.reports_cueUndelivered (s : State) (r : CueReport) : State.Reports [r] s (s.cueUndelivered r) := by
  refine ⟨rfl, ?_⟩
  have raised : (s.cueUndelivered r).flag .cueUndelivered = (s.raise .cueUndelivered).flag .cueUndelivered := by
    rw [State.flag, State.flag, State.cueUndelivered_svp]
  rw [raised, State.flag_raise]
  simp

/-! ## Closure -/

/-- The attachment state after an announce outcome (R25). -/
abbrev Atc.closes (a : Atc) (c : Closure) : Atc :=
  { a with closure := c, state := if a.state = .proving then .active else a.state }

theorem State.attached_iff : s.attached = true ↔ s.atc.state = .proving ∨ s.atc.state = .active ∨ s.atc.state = .leaving := by
  unfold State.attached
  cases s.atc.state <;> simp

/-- An announce outcome in the attached states (R25, R26). -/
theorem State.closureOutcome_attached (attached : s.attached = true) (c : Closure) :
    s.closureOutcome c = { (if s.atc.state = .proving ∨ s.atc.closure ≠ c then s.raise c.flag else s) with
      atc := s.atc.closes c } := by
  unfold State.closureOutcome Atc.closes
  obtain state | state | state := State.attached_iff.mp attached
  · simp [state]
    rfl
  · cases same : s.atc.closure != c <;> simp_all [State.raiseIf] <;> rfl
  · cases same : s.atc.closure != c <;> simp_all [State.raiseIf] <;> rfl

/-! ## Entries lost -/

/-- Among entries there is an announce. -/
abbrev announceLost (es : List Entry) : Prop := ∃ e ∈ es, ∃ q, e.identity = .announce q

/-- Among entries there is AUDIO of a sourced stream. -/
abbrev Image.audioLost (g : Image) (es : List Entry) (i : Fin 4) : Prop :=
  ∃ e ∈ es, ∃ id q, e.identity = .audio id q ∧ g.sourceOf id = some i

/-- Entries have had the loss outcomes of their kinds (R56). -/
structure State.Loses (es : List Entry) (s t : State) : Prop where
  opens : announceLost es → t.atc = s.atc.closes .opened
  keeps : ¬ announceLost es → t.atc = s.atc
  ringOpened : t.flag .ringOpened = true ↔
    s.flag .ringOpened = true ∨ announceLost es ∧ (s.atc.state = .proving ∨ s.atc.closure = .closed)
  heard (i : Fin 4) : ((∃ g ∈ s.stc.image, g.audioLost es i) → t.trm.heard[i] = .unheard)
    ∧ (¬ (∃ g ∈ s.stc.image, g.audioLost es i) → t.trm.heard[i] = s.trm.heard[i])
  reports : State.Reports (es.filterMap Entry.lostCue) s t
  flags (f : EventFlag) : f ≠ .ringOpened → f ≠ .cueUndelivered → t.flag f = s.flag f ∧ t.seen f = s.seen f
  stc : t.stc = s.stc

/-- No entry lost leaves all these. -/
theorem State.Loses.nil (atc : t.atc = s.atc) (svp : t.svp.flags = s.svp.flags ∧ t.svp.seen = s.svp.seen)
    (heard : t.trm.heard = s.trm.heard) (pos : t.pos = s.pos) (stc : t.stc = s.stc) : State.Loses [] s t where
  opens := by simp
  keeps _ := atc
  ringOpened := by simp [State.flag, svp.1]
  heard i := ⟨by simp, fun _ => by rw [heard]⟩
  reports := .nil pos (by rw [State.flag, svp.1, State.flag])
  flags f _ _ := by simp [State.flag, State.seen, svp]
  stc := stc

/-- The station stays attached. -/
theorem State.Loses.attached {es : List Entry} (h : State.Loses es s t) (attached : s.attached = true) :
    t.attached = true := by
  rw [State.attached_iff] at attached ⊢
  by_cases lost : announceLost es
  · rw [h.opens lost]
    obtain state | state | state := attached <;> simp [state]
  · rwa [h.keeps lost]

theorem State.Loses.append {xs ys : List Entry} (h : State.Loses xs s t) (k : State.Loses ys t u) :
    State.Loses (xs ++ ys) s u := by
  have either : announceLost (xs ++ ys) ↔ announceLost xs ∨ announceLost ys := by
    simp only [announceLost, List.mem_append, or_and_right, exists_or]
  have audio (g : Image) (i : Fin 4) : g.audioLost (xs ++ ys) i ↔ g.audioLost xs i ∨ g.audioLost ys i := by
    simp only [Image.audioLost, List.mem_append, or_and_right, exists_or]
  refine { opens := fun lost => ?_, keeps := fun none => ?_, ringOpened := ?_, heard := fun i => ?_, reports := ?_
           flags := fun f ring cue => ?_, stc := k.stc.trans h.stc }
  · by_cases second : announceLost ys
    · rw [k.opens second]
      by_cases first : announceLost xs
      · rw [h.opens first]
        simp only [Atc.closes]
        split <;> simp_all
      · rw [h.keeps first]
    · rw [k.keeps second, h.opens ((either.mp lost).resolve_right second)]
  · rw [k.keeps fun second => none (either.mpr (.inr second)), h.keeps fun first => none (either.mpr (.inl first))]
  · rw [k.ringOpened, h.ringOpened, either]
    by_cases first : announceLost xs
    · rw [h.opens first]
      have past : ¬ (if s.atc.state = .proving then AttachmentState.active else s.atc.state) = .proving := by
        split <;> simp_all
      simp only [past]
      simp [first]
    · rw [h.keeps first]
      simp [first]
  · obtain ⟨lost, kept⟩ := h.heard i
    obtain ⟨lost', kept'⟩ := k.heard i
    rw [h.stc] at lost' kept'
    refine ⟨fun ⟨g, image, gone⟩ => ?_, fun none => ?_⟩
    · by_cases second : g.audioLost ys i
      · exact lost' ⟨g, image, second⟩
      · rw [kept' fun ⟨g', image', there⟩ => ?_]
        · exact lost ⟨g, image, ((audio g i).mp gone).resolve_right second⟩
        · obtain rfl := Option.some.inj (image.symm.trans image')
          exact second there
    · rw [kept' fun ⟨g, image, there⟩ => none ⟨g, image, (audio g i).mpr (.inr there)⟩,
        kept fun ⟨g, image, there⟩ => none ⟨g, image, (audio g i).mpr (.inl there)⟩]
  · rw [List.filterMap_append]
    exact h.reports.append k.reports h.stc
  · obtain ⟨flag, seen⟩ := h.flags f ring cue
    obtain ⟨flag', seen'⟩ := k.flags f ring cue
    exact ⟨flag'.trans flag, seen'.trans seen⟩

/-- What a change of closure alone does. -/
theorem State.loses_closureOutcome (attached : s.attached = true) {e : Entry} {q : Octet}
    (announce : e.identity = .announce q) : State.Loses [e] s (s.closureOutcome .opened) := by
  have lost : announceLost [e] := ⟨e, List.mem_singleton_self e, q, announce⟩
  have told := s.tells_closureOutcome .opened
  have eq := State.closureOutcome_attached attached .opened
  have noAudio (g : Image) (i : Fin 4) : ¬ g.audioLost [e] i := by
    rintro ⟨e', mem, id, q', audio, -⟩
    rw [List.mem_singleton.mp mem, announce] at audio
    cases audio
  have noCue : [e].filterMap Entry.lostCue = [] := by simp [Entry.lostCue, announce]
  refine { opens := fun _ => by rw [eq], keeps := fun none => absurd lost none, ringOpened := ?_
           heard := fun i => ⟨fun ⟨g, _, there⟩ => absurd there (noAudio g i), fun _ => by simp⟩
           reports := ?_, flags := fun f ring _ => told.flag_stands (by simpa [Closure.flag] using ring), stc := by simp }
  · have flag : (s.closureOutcome .opened).flag .ringOpened
        = (if s.atc.state = .proving ∨ s.atc.closure ≠ .opened then s.raise .ringOpened else s).flag .ringOpened := by
      rw [eq]
      rfl
    rw [flag]
    have either : s.atc.closure ≠ .opened ↔ s.atc.closure = .closed := by cases s.atc.closure <;> simp
    simp only [either]
    split
    next changes => simp [State.flag_raise, changes, lost]
    next stays => simp [stays]
  · rw [noCue]
    exact .nil (by simp) (told.flag_stands (by simp [Closure.flag])).1

/-- What the loss of an entry that is no announce does, where of the heard states and the panel it does what it must. -/
theorem State.Loses.quiet {e : Entry} (none : ¬ announceLost [e])
    (heard : ∀ i : Fin 4, ((∃ g ∈ s.stc.image, g.audioLost [e] i) → t.trm.heard[i] = .unheard)
      ∧ (¬ (∃ g ∈ s.stc.image, g.audioLost [e] i) → t.trm.heard[i] = s.trm.heard[i]))
    (reports : State.Reports (e.lostCue.toList) s t) (tells : State.Tells {.cueUndelivered} ∅ s t)
    (atc : t.atc = s.atc) (stc : t.stc = s.stc) : State.Loses [e] s t where
  opens lost := absurd lost none
  keeps _ := atc
  ringOpened := by simp [none, (tells.flag_stands (f := .ringOpened) (by simp)).1]
  heard := heard
  reports := by
    have list : [e].filterMap Entry.lostCue = e.lostCue.toList := by cases lost : e.lostCue <;> simp [lost]
    rw [list]
    exact reports
  flags f _ cue := tells.flag_stands cue
  stc := stc

/-- One entry's loss outcome (R56). -/
theorem State.loses_lossOutcome (attached : s.attached = true) (e : Entry) : State.Loses [e] s (s.lossOutcome e) := by
  have single {id : Identity} (same : e.identity = id) (other : ∀ q, id ≠ .announce q) : ¬ announceLost [e] := by
    rintro ⟨e', mem, q, announce⟩
    rw [List.mem_singleton.mp mem, same] at announce
    exact other q announce
  have gone (g : Image) (i : Fin 4) : g.audioLost [e] i ↔ ∃ id q, e.identity = .audio id q ∧ g.sourceOf id = some i :=
    ⟨fun ⟨e', mem, there⟩ => List.mem_singleton.mp mem ▸ there, fun there => ⟨e, List.mem_singleton_self e, there⟩⟩
  have cueOnly (tag : Octet) (cue : e.identity = .cue tag) (i : Fin 4) : ¬ ∃ g ∈ s.stc.image, g.audioLost [e] i := by
    rintro ⟨g, -, there⟩
    obtain ⟨id, q, audio, -⟩ := (gone g i).mp there
    rw [cue] at audio
    cases audio
  unfold State.lossOutcome
  split
  next q announce => exact State.loses_closureOutcome attached announce
  next id q audio =>
    have noCue : e.lostCue = none := by simp [Entry.lostCue, audio]
    have reports (u : State) (pos : u.pos = s.pos) (svp : u.svp = s.svp) : State.Reports e.lostCue.toList s u := by
      rw [noCue]
      exact .nil pos (by rw [State.flag, svp, State.flag])
    have source (g : Image) (i : Fin 4) : g.audioLost [e] i ↔ g.sourceOf id = some i := by
      rw [gone]
      constructor
      · rintro ⟨id', q', audio', there⟩
        obtain ⟨rfl, rfl⟩ := Identity.audio.inj (audio.symm.trans audio')
        exact there
      · exact fun there => ⟨id, q, audio, there⟩
    split
    next j found =>
      obtain ⟨g, image, found⟩ := Option.bind_eq_some_iff.mp found
      refine .quiet (single audio (by simp)) (fun i => ?_) (reports _ rfl rfl) (.of_eq rfl) rfl rfl
      have here : (s.setHeard j .unheard).trm.heard[i] = if i = j then .unheard else s.trm.heard[i] :=
        modifyAt_get _ _ _ _
      rw [here]
      refine ⟨fun ⟨g', image', there⟩ => ?_, fun none => if_neg ?_⟩
      · obtain rfl := Option.some.inj (image.symm.trans image')
        rw [if_pos (Option.some.inj (found.symm.trans ((source g i).mp there))).symm]
      · rintro rfl
        exact none ⟨g, image, (source g i).mpr found⟩
    next missing =>
      refine .quiet (single audio (by simp)) (fun i => ⟨fun ⟨g, image, there⟩ => ?_, fun _ => rfl⟩) (reports _ rfl rfl)
        (.of_eq rfl) rfl rfl
      have found : s.stc.image.bind (·.sourceOf id) = some i := by
        rw [Option.mem_def.mp image, Option.bind_some, (source g i).mp there]
      rw [missing] at found
      cases found
  next tag r cue report =>
    have lost : e.lostCue = some r := by simp [Entry.lostCue, cue, report]
    refine .quiet (single cue (by simp)) (fun i => ⟨fun there => absurd there (cueOnly tag cue i), fun _ => by simp⟩) ?_
      (s.tells_cueUndelivered r rfl) (by simp) (by simp)
    rw [lost]
    exact s.reports_cueUndelivered r
  next tag cue report =>
    have lost : e.lostCue = none := by simp [Entry.lostCue, cue, report]
    refine .quiet (single cue (by simp)) (fun i => ⟨fun there => absurd there (cueOnly tag cue i), fun _ => rfl⟩) ?_
      (.refl s) rfl rfl
    rw [lost]
    exact .nil rfl rfl

/-- The entries ahead of a match, lost by skip (R56). -/
theorem State.loses_skipHeads (ahead : List Entry) (s : State) (attached : s.attached = true) :
    State.Loses ahead s (ahead.foldl State.skipHead s) := by
  induction ahead generalizing s with
  | nil => exact .nil rfl ⟨rfl, rfl⟩ rfl rfl rfl
  | cons e es ih =>
    have counted : State.Loses [] s (s.dropHead.countOne .skipLosses) := .nil rfl ⟨rfl, rfl⟩ rfl rfl rfl
    have lost : State.Loses [e] s (s.skipHead e) := counted.append (State.loses_lossOutcome (counted.attached attached) e)
    exact lost.append (ih _ (lost.attached attached))

/-! ## Heads beyond the return timeout -/

/-- The entries of a list that stand beyond the return timeout before one that does not (R57). -/
def State.overdueHeads (s : State) (es : List Entry) : List Entry := es.takeWhile s.overdue

/-- The test is of the instant and the straps and image alone. -/
theorem State.overdue_congr (now : t.now = s.now) (released : t.releasedAt = s.releasedAt) (stc : t.stc = s.stc) :
    t.overdue = s.overdue := by
  have time : t.ringTime = s.ringTime := by rw [State.ringTime, now, released, stc, State.ringTime]
  have limit : t.returnTimeoutUs = s.returnTimeoutUs := by rw [State.returnTimeoutUs, stc, State.returnTimeoutUs]
  funext e
  rw [State.overdue, time, limit, State.overdue]

theorem State.overdue_timeoutHead (s : State) (e : Entry) : (s.timeoutHead e).overdue = s.overdue :=
  State.overdue_congr (by simp) (by simp) (by simp)

/-- What the heads lost by timeout leave (R55, R57, R59). -/
theorem State.loses_timeoutHeads (es : List Entry) (s : State) (attached : s.attached = true) :
    State.Loses (s.overdueHeads es) s (State.timeoutHeads es s) := by
  induction es generalizing s with
  | nil => exact .nil rfl ⟨rfl, rfl⟩ rfl rfl rfl
  | cons e es ih =>
    rw [State.timeoutHeads, State.overdueHeads, List.takeWhile_cons]
    split
    · have counted : State.Loses [] s (s.dropHead.countOne .timeoutLosses) := .nil rfl ⟨rfl, rfl⟩ rfl rfl rfl
      have listed : State.Loses [] ((s.dropHead.countOne .timeoutLosses).lossOutcome e) (s.timeoutHead e) :=
        .nil rfl ⟨rfl, rfl⟩ rfl rfl rfl
      have lost : State.Loses [e] s (s.timeoutHead e) :=
        (counted.append (State.loses_lossOutcome (counted.attached attached) e)).append listed
      have rest := ih _ (lost.attached attached)
      rw [State.overdueHeads, s.overdue_timeoutHead e] at rest
      exact lost.append rest
    · exact .nil rfl ⟨rfl, rfl⟩ rfl rfl rfl

theorem State.timeoutHeads_transit (es : List Entry) (s : State) (list : s.trm.transit = es) :
    (State.timeoutHeads es s).trm.transit = es.dropWhile s.overdue := by
  induction es generalizing s with
  | nil => exact list
  | cons e es ih =>
    rw [State.timeoutHeads, List.dropWhile_cons]
    split
    · rw [ih (s.timeoutHead e) (by simp [list]), s.overdue_timeoutHead e]
    · exact list

/-- An identity that joins keeps the last 16 (R59). -/
theorem expire_eq {l : List Identity} (within : l.length ≤ 16) (i : Identity) :
    expire l i = (l ++ [i]).drop ((l ++ [i]).length - 16) ∧ (expire l i).length ≤ 16 := by
  have capacity : Config.expiredCapacity = 16 := rfl
  unfold expire
  rw [capacity]
  split
  · rw [List.length_append, List.length_singleton, show l.length + 1 - 16 = 0 by omega]
    exact ⟨rfl, by simp; omega⟩
  · rw [List.length_append, List.length_singleton, show l.length + 1 - 16 = 1 by omega,
      List.drop_append_of_le_length (by omega)]
    exact ⟨rfl, by simp; omega⟩

theorem foldl_expire (is : List Identity) {l : List Identity} (within : l.length ≤ 16) :
    is.foldl expire l = (l ++ is).drop ((l ++ is).length - 16) := by
  induction is generalizing l with
  | nil => rw [List.append_nil, Nat.sub_eq_zero_of_le within]; rfl
  | cons i is ih =>
    obtain ⟨joined, still⟩ := expire_eq within i
    have all : (l ++ i :: is) = (l ++ [i]) ++ is := by simp
    rw [List.foldl_cons, ih still, joined, all]
    generalize l ++ [i] = k
    rw [← List.drop_append_of_le_length (by omega), List.drop_drop]
    congr 1
    simp only [List.length_append, List.length_drop]
    omega

/-- Of the transit monitor a loss outcome moves the heard states alone (R63). -/
theorem State.lossOutcome_trm (s : State) (e : Entry) :
    (s.lossOutcome e).trm = { s.trm with heard := (s.lossOutcome e).trm.heard } := by
  unfold State.lossOutcome
  split
  · simp
  · split <;> rfl
  · simp
  · rfl

theorem State.lossOutcome_expired (s : State) (e : Entry) : (s.lossOutcome e).trm.expired = s.trm.expired := by
  rw [State.lossOutcome_trm]

theorem State.timeoutHeads_expired (es : List Entry) (s : State) :
    (State.timeoutHeads es s).trm.expired = ((s.overdueHeads es).map (·.identity)).foldl expire s.trm.expired := by
  induction es generalizing s with
  | nil => rfl
  | cons e es ih =>
    rw [State.timeoutHeads, State.overdueHeads, List.takeWhile_cons]
    split
    · have joins : (s.timeoutHead e).trm.expired = expire s.trm.expired e.identity := by
        simp only [State.timeoutHead, State.withTrm_trm]
        rw [State.lossOutcome_expired]
        rfl
      rw [ih, State.overdueHeads, s.overdue_timeoutHead e, joins]
      rfl
    · rfl

theorem State.timeoutHeads_counter (es : List Entry) (s : State) (k : Counter) :
    (State.timeoutHeads es s).counter k =
      if k = .timeoutLosses ∧ s.overdueHeads es ≠ [] then min 65535 (s.counter k + (s.overdueHeads es).length)
      else s.counter k := by
  induction es generalizing s with
  | nil => rw [if_neg (by simp [State.overdueHeads])]; rfl
  | cons e es ih =>
    rw [State.timeoutHeads, State.overdueHeads, List.takeWhile_cons]
    split
    · have counted : (s.timeoutHead e).counter k = if k = .timeoutLosses then min 65535 (s.counter k + 1) else s.counter k := by
        have outcome : ((s.dropHead.countOne .timeoutLosses).lossOutcome e).counter k
            = (s.dropHead.countOne .timeoutLosses).counter k :=
          (State.tells_lossOutcome _ e).counter_stands (Set.notMem_empty k)
        exact outcome.trans (State.counter_countOne ..)
      rw [ih, counted, State.overdueHeads, s.overdue_timeoutHead e]
      generalize es.takeWhile s.overdue = gone
      by_cases timeout : k = .timeoutLosses
      · cases gone with
        | nil => simp [timeout]
        | cons e' gone =>
          simp only [timeout, true_and, if_true, ne_eq, reduceCtorEq, not_false_eq_true, List.length_cons]
          omega
      · simp [timeout]
    · rw [if_neg (by simp)]

/-- Nothing of the transit monitor but the lists and the heard states moves. -/
theorem State.timeoutHeads_trm (es : List Entry) (s : State) : (State.timeoutHeads es s).trm = { s.trm with
    transit := (State.timeoutHeads es s).trm.transit, expired := (State.timeoutHeads es s).trm.expired
    heard := (State.timeoutHeads es s).trm.heard } := by
  induction es generalizing s with
  | nil => rfl
  | cons e es ih =>
    rw [State.timeoutHeads]
    split
    · rw [ih]
      simp only [State.timeoutHead, State.withTrm_trm]
      rw [State.lossOutcome_trm]
      rfl
    · rfl

/-- The heads lost at an instant (R55, R57), whether or not the arbiter acts on the entries freed. -/
theorem State.headsLost_timeoutHeads (attached : s.attached = true) {t : State}
    (same : t = { State.timeoutHeads s.trm.transit s with rfw := t.rfw }) : State.headsLost s t := by
  have frame := State.timeoutHeads_frame s.trm.transit s
  have loses := State.loses_timeoutHeads s.trm.transit s attached
  have told := State.tells_timeoutHeads s.trm.transit s
  have transit := State.timeoutHeads_transit s.trm.transit s rfl
  have expired := State.timeoutHeads_expired s.trm.transit s
  have counter := State.timeoutHeads_counter s.trm.transit s
  have trm := State.timeoutHeads_trm s.trm.transit s
  generalize State.timeoutHeads s.trm.transit s = u at *
  obtain ⟨now, released, rx, rfw, inq, pru, cap, srx, ply, stc, ties, pending⟩ := frame
  have time : t.ringTime = s.ringTime := by
    rw [same]
    show u.ringTime = s.ringTime
    rw [State.ringTime, now, released, stc, State.ringTime]
  have beyond : (fun e : Entry => decide ((s.returnTimeoutUs : Int) < signedDiff t.ringTime e.start)) = s.overdue := by
    rw [time]
    rfl
  unfold State.headsLost
  rw [beyond]
  have gone : s.trm.transit.takeWhile s.overdue = s.overdueHeads s.trm.transit := rfl
  dsimp only
  rw [gone]
  rw [same]
  refine ⟨transit, fun none => ?_, fun within => ?_, counter, loses.opens, loses.keeps, loses.ringOpened, loses.heard,
    loses.reports.cuesLost, loses.flags, ?_⟩
  · show u.trm.expired = _
    rw [expired, none]
    rfl
  · show u.trm.expired = _
    rw [expired]
    exact foldl_expire _ within
  · exact State.eq_of_items rfl released rfl rx rfl inq trm pru cap srx ply rfl stc told.svp_eq ties pending

end

end Sys2Proof.Machine

/-! SUPPORT. RETURN_TIMEOUT: its instant on the ring time, and the heads it takes (R51, R57, R58). -/

namespace Sys2Proof.Machine

/-- A ring time as it grows, while the difference stays in range (R51). -/
theorem signedDiff_advance (k us : Nat) (start : Word)
    (low : -2 ^ 31 ≤ signedDiff (BitVec.ofNat 32 k) start + us)
    (high : signedDiff (BitVec.ofNat 32 k) start + us < 2 ^ 31) :
    signedDiff (BitVec.ofNat 32 (k + us)) start = signedDiff (BitVec.ofNat 32 k) start + us := by
  have sum : BitVec.ofNat 32 (k + us) - start = (BitVec.ofNat 32 k - start) + BitVec.ofNat 32 us := by
    rw [BitVec.ofNat_add]
    ring
  unfold signedDiff at *
  rw [sum, BitVec.toInt_add, BitVec.toInt_ofNat', Int.add_bmod_bmod, Int.bmod_eq_of_le] <;> omega

section
variable {s : State}

/-- The head first beyond the return timeout is beyond it by one microsecond (R51, R57). -/
theorem State.ageInstant_reached (free : s.stc.held = false) {start : Word} {us : Nat} (small : us ≤ 2 ^ 30)
    (within : signedDiff s.ringTime start ≤ us) :
    signedDiff (State.ringTime { s with now := max s.now (s.ageInstant start us) }) start = us + 1 := by
  have time (n : Nat) : State.ringTime { s with now := n }
      = BitVec.ofNat 32 ((n - s.releasedAt) / Config.microsecond) := if_neg (by simp [free])
  have here : s.ringTime = BitVec.ofNat 32 ((s.now - s.releasedAt) / Config.microsecond) := time s.now
  have positive : 0 < Config.microsecond := by decide
  generalize elapsed : (s.now - s.releasedAt) / Config.microsecond = k at here
  obtain ⟨more, count⟩ := Int.eq_ofNat_of_zero_le (show (0 : Int) ≤ us + 1 - signedDiff s.ringTime start by omega)
  have some : more ≠ 0 := by omega
  have instant : s.ageInstant start us = s.releasedAt + (k + more) * Config.microsecond := by
    rw [State.ageInstant, count, Int.toNat_natCast, State.ringInstant, if_neg some, elapsed]
  have before : s.now - s.releasedAt < (k + 1) * Config.microsecond := by
    rw [← elapsed]
    exact Nat.lt_mul_of_div_lt (Nat.lt_succ_self _) positive
  have later : s.now ≤ s.ageInstant start us := by
    have : (k + 1) * Config.microsecond ≤ (k + more) * Config.microsecond := Nat.mul_le_mul_right _ (by omega)
    omega
  have low : -2 ^ 31 ≤ signedDiff s.ringTime start := (s.ringTime - start).le_toInt
  rw [time, Nat.max_eq_right later, instant, Nat.add_sub_cancel_left, Nat.mul_div_cancel _ positive]
  rw [here] at count low
  rw [signedDiff_advance] <;> omega

/-- A head already beyond it is taken now (R57). -/
theorem State.ageInstant_past {start : Word} {us : Nat} (beyond : (us : Int) < signedDiff s.ringTime start) :
    s.ageInstant start us = s.now := by
  rw [State.ageInstant, Int.toNat_of_nonpos (by omega)]
  rfl

/-- The command at its instant, the head beyond the timeout (R57). -/
theorem State.returnTimeout_overdue (attached : s.attached = true) {e : Entry} {es : List Entry}
    (list : s.trm.transit = e :: es) (overdue : s.overdue e = true) :
    State.headsLost s s.returnTimeout ∧ State.arbiterActs s.rfw s.returnTimeout
    ∧ s.returnTimeout.now = s.now ∧ s.returnTimeout.ringTime = s.ringTime
    ∧ s.returnTimeout.trm.transit.length ≤ es.length := by
  have transit := State.timeoutHeads_transit s.trm.transit s rfl
  have acts := (State.timeoutHeads s.trm.transit s).decideStart_acts
  have rfw : (State.timeoutHeads s.trm.transit s).rfw = s.rfw := by simp
  have same := (State.timeoutHeads s.trm.transit s).decideStart_same
  have trm : s.returnTimeout.trm = (State.timeoutHeads s.trm.transit s).trm := by simp [State.returnTimeout]
  have now : s.returnTimeout.now = s.now := by simp [State.returnTimeout]
  have released : s.returnTimeout.releasedAt = s.releasedAt := by simp [State.returnTimeout]
  have stc : s.returnTimeout.stc = s.stc := by simp [State.returnTimeout]
  refine ⟨State.headsLost_timeoutHeads attached same, rfw ▸ acts, now, ?_, ?_⟩
  · rw [State.ringTime, now, released, stc, State.ringTime]
  · rw [trm, transit, list, List.dropWhile_cons_of_pos overdue]
    exact List.length_dropWhile_le ..

/-- The instant at which the head is first beyond the timeout, and the step at it (R57). -/
theorem State.exec_returnTimeout (attached : s.attached = true) {e : Entry} {es : List Entry}
    (list : s.trm.transit = e :: es) :
    exec .returnTimeout s = .next (State.returnTimeout { s with now := max s.now (s.ageInstant e.start s.returnTimeoutUs) }) :=
  State.takeEvent_due State.returnTimeout (by rw [State.returnTimeoutAt, attached, list])

end

/-- Settles O24: at the instant of the command the head is beyond the timeout, and the heads beyond it go. -/
theorem headsTimeOut : Obligations.HeadsTimeOut := by
  intro s g e es attached free image clamped list
  have limit : s.returnTimeoutUs = g.returnTimeout * 1000 := by rw [State.returnTimeoutUs, image]
  obtain ⟨-, ⟨-, most⟩, -⟩ := clamped
  have taken := State.exec_returnTimeout attached list
  have reached (h : signedDiff s.ringTime e.start ≤ g.returnTimeout * 1000) :=
    State.ageInstant_reached free (start := e.start) (us := s.returnTimeoutUs) (by omega) (by omega)
  have past (h : g.returnTimeout * 1000 < signedDiff s.ringTime e.start) :
      max s.now (s.ageInstant e.start s.returnTimeoutUs) = s.now := by
    rw [State.ageInstant_past (by omega), max_self]
  have limit' (n : Nat) : State.returnTimeoutUs { s with now := n } = g.returnTimeout * 1000 := limit
  have attached' (n : Nat) : State.attached { s with now := n } = true := attached
  have same (h : max s.now (s.ageInstant e.start s.returnTimeoutUs) = s.now) :
      State.ringTime { s with now := max s.now (s.ageInstant e.start s.returnTimeoutUs) } = s.ringTime := by rw [h]
  generalize max s.now (s.ageInstant e.start s.returnTimeoutUs) = n at *
  have overdue : State.overdue { s with now := n } e = true := by
    refine decide_eq_true ?_
    rw [limit' n]
    by_cases h : signedDiff s.ringTime e.start ≤ g.returnTimeout * 1000
    · rw [reached h]
      omega
    · rw [same (past (by omega))]
      omega
  obtain ⟨lost, acts, now, time, shorter⟩ := State.returnTimeout_overdue (attached' n) list overdue
  refine ⟨_, taken, fun h => ?_, fun h => ?_, shorter, lost, acts⟩
  · rw [time, reached h]
    omega
  · rw [now, past h]

end Sys2Proof.Machine

/-! SUPPORT. A stripped frame that matches a transit entry: the entries ahead lost by skip, the return outcome by its kind,
and the heads then overdue (R54 to R56, R62 to R65). -/

namespace Sys2Proof.Machine

section
variable {s t u : State}

/-! ## Outcomes of own cues -/

/-- A position after an outcome of an own cue (R165). -/
theorem State.cueOutcome_position (s : State) (r : CueReport) (delivered : Bool) (p : Fin 4) :
    (s.cueOutcome r delivered).pos.positions[p] =
      if s.stc.straps.role = .venue ∧ r.code = .talkRequest ∧ r.position.toNat = p.val then
        (Position.requestOutcome r.tag delivered s.pos.positions[p]).judged
      else s.pos.positions[p] := by
  unfold State.cueOutcome
  split
  next q venue request named =>
    rw [positionOf_eq_some] at named
    have here : (s.stc.straps.role = .venue ∧ r.code = .talkRequest ∧ r.position.toNat = p.val) ↔ p = q := by
      simp [State.venue_eq_true.mp venue, request, named, Fin.ext_iff, eq_comm]
    rw [if_congr here rfl rfl]
    refine (modifyAt_get _ _ _ _).trans ?_
    split
    next same => rw [same]
    next => rfl
  next other =>
    rw [if_neg]
    rintro ⟨venue, request, named⟩
    exact other p (State.venue_eq_true.mpr venue) request (positionOf_eq_some.mpr named)

/-- An outcome of an own cue elsewhere than at a venue, or of another code, has no effect (R165, R174). -/
theorem State.cueOutcome_other {r : CueReport} (h : s.stc.straps.role = .gallery ∨ r.code ≠ .talkRequest)
    (delivered : Bool) : s.cueOutcome r delivered = s := by
  unfold State.cueOutcome
  split
  next q venue request named =>
    obtain gallery | other := h
    · rw [State.venue_of_gallery gallery] at venue
      cases venue
    · exact absurd request other
  next => rfl

/-- A position without a talk request stands apart from its selection, which is judged again (R165, R173). -/
theorem State.cueOutcome_untagged (r : CueReport) (delivered : Bool) {p : Fin 4}
    (off : (s.pos.positions[p]).talk = .off ∧ (s.pos.positions[p]).tag = none) :
    ((s.cueOutcome r delivered).pos.positions[p]).talk = .off
      ∧ ((s.cueOutcome r delivered).pos.positions[p]).tag = none := by
  rw [State.cueOutcome_position]
  generalize s.pos.positions[p] = old at *
  split
  · simp [Position.requestOutcome, Position.judged, off]
  · exact off

/-- The panel after a cue is reported undelivered is that of its outcome (R165). -/
theorem State.cueUndelivered_eq (s : State) (r : CueReport) : (s.cueUndelivered r).pos = (s.cueOutcome r false).pos := by
  unfold State.cueUndelivered State.cueOutcome
  have venue : (s.raise .cueUndelivered).venue = s.venue := rfl
  rw [venue]
  split <;> rfl

/-! ## The return outcome -/

/-- The frame of the entry is an announce. -/
abbrev Entry.isAnnounce (e : Entry) : Prop := ∃ q, e.identity = .announce q

/-- The entry is of AUDIO. -/
abbrev Entry.isAudio (e : Entry) : Prop := ∃ id q, e.identity = .audio id q

/-- An entry has had the return outcome of its kind (R55, R62 to R64). -/
structure State.Returns (e : Entry) (copied : Bool) (s t : State) : Prop where
  trip : e.isAnnounce → t.trm.lastTrip = s.ringTime - e.start
    ∧ t.trm.maxTrip = (if s.trm.maxTrip.toInt < (s.ringTime - e.start).toInt then s.ringTime - e.start else s.trm.maxTrip)
  noTrip : ¬ e.isAnnounce → t.trm.lastTrip = s.trm.lastTrip
  closes : e.isAnnounce → t.atc = s.atc.closes .closed
  keeps : ¬ e.isAnnounce → t.atc = s.atc
  ringClosed : t.flag .ringClosed = true ↔
    s.flag .ringClosed = true ∨ e.isAnnounce ∧ (s.atc.state = .proving ∨ s.atc.closure = .opened)
  audio (id : StreamId) (q : BitVec 16) (i : Fin 4) (g : Image) : e.identity = .audio id q → s.stc.image = some g →
    g.sourceOf id = some i →
    t.trm.heard = s.trm.heard.set i.val (if copied = true then .heard else .unheard) i.isLt
    ∧ t.counter (.unheard i)
        = (if copied = true then s.counter (.unheard i) else min 65535 (s.counter (.unheard i) + 1))
  unsourced : (∀ id q, e.identity = .audio id q → ∀ g ∈ s.stc.image, g.sourceOf id = none) → t.trm.heard = s.trm.heard
  silent : e.isAudio → t.svp.flags = s.svp.flags
  unheard : ¬ e.isAudio → ∀ i : Fin 4, t.counter (.unheard i) = s.counter (.unheard i)
  flag : t.flag .cueUndelivered = true ↔ s.flag .cueUndelivered = true ∨ e.lostCue.isSome = true ∧ copied = false
  cue (r : CueReport) : e.lostCue = some r → t.pos = (s.cueOutcome r copied).pos
  panel : e.lostCue = none → t.pos = s.pos
  trm : t.trm.transit = s.trm.transit ∧ t.trm.expired = s.trm.expired ∧ t.trm.conflicts = s.trm.conflicts
  frame : t = { s with
    atc := t.atc, trm := t.trm, pos := t.pos
    svp := { s.svp with flags := t.svp.flags, seen := t.svp.seen, counters := t.svp.counters } }

/-- The station stays attached. -/
theorem State.Returns.attached {e : Entry} {copied : Bool} (h : State.Returns e copied s t)
    (attached : s.attached = true) : t.attached = true := by
  rw [State.attached_iff] at attached ⊢
  by_cases announce : e.isAnnounce
  · rw [h.closes announce]
    obtain state | state | state := attached <;> simp [state]
  · rwa [h.keeps announce]

/-- A lost cue, or no cue, is reported as any other loss (R64). -/
theorem State.Returns.reports {e : Entry} {copied : Bool} (h : State.Returns e copied s t)
    (lost : copied = false ∨ e.lostCue = none) : State.Reports e.lostCue.toList s t := by
  cases report : e.lostCue with
  | none => exact .nil (h.panel report) (Bool.eq_iff_iff.mpr (by simpa [report] using h.flag))
  | some r =>
    obtain rfl : copied = false := lost.resolve_right (by simp [report])
    refine ⟨(h.cue r report).trans (s.cueUndelivered_eq r).symm, ?_⟩
    simpa [report] using h.flag

/-- Nothing but these items moves with a return outcome. -/
theorem State.returnOutcome_same (s : State) (e : Entry) (copied : Bool) : s.returnOutcome e copied = { s with
    atc := (s.returnOutcome e copied).atc, trm := (s.returnOutcome e copied).trm, pos := (s.returnOutcome e copied).pos
    svp := { s.svp with
      flags := (s.returnOutcome e copied).svp.flags, seen := (s.returnOutcome e copied).svp.seen
      counters := (s.returnOutcome e copied).svp.counters } } := by
  refine State.eq_of_items ?_ ?_ ?_ ?_ ?_ ?_ ?_ ?_ ?_ ?_ ?_ ?_ ?_ (s.tells_returnOutcome e copied).svp_eq ?_ ?_ <;> simp

/-- An announce's return closes the ring (R62, R25, R26). -/
theorem State.returns_announce (attached : s.attached = true) {e : Entry} (announce : e.isAnnounce) (copied : Bool) :
    State.Returns e copied s (s.returnOutcome e copied) := by
  have frame := s.returnOutcome_same e copied
  obtain ⟨q, identity⟩ := announce
  have eq : s.returnOutcome e copied = (s.recordTrip (s.ringTime - e.start)).closureOutcome .closed := by
    simp [State.returnOutcome, identity]
  rw [eq] at frame ⊢
  generalize tripped : s.recordTrip (s.ringTime - e.start) = v at *
  have v_atc : v.atc = s.atc := by rw [← tripped]; rfl
  have v_svp : v.svp = s.svp := by rw [← tripped]; rfl
  have v_pos : v.pos = s.pos := by rw [← tripped]; rfl
  have v_flag (f : EventFlag) : v.flag f = s.flag f := by rw [State.flag, v_svp, State.flag]
  have v_trm : (v.closureOutcome .closed).trm = { s.trm with
      lastTrip := s.ringTime - e.start
      maxTrip := if s.trm.maxTrip.toInt < (s.ringTime - e.start).toInt then s.ringTime - e.start else s.trm.maxTrip } := by
    rw [show (v.closureOutcome .closed).trm = v.trm by simp, ← tripped]
    rfl
  have told := v.tells_closureOutcome .closed
  have closed := State.closureOutcome_attached (s := v) (by rw [State.attached, v_atc]; exact attached) .closed
  have noCue : e.lostCue = none := by simp [Entry.lostCue, identity]
  have noAudio : ¬ e.isAudio := by simp [identity]
  have is : e.isAnnounce := ⟨q, identity⟩
  refine { trip := fun _ => by rw [v_trm]; exact ⟨rfl, rfl⟩, noTrip := fun none => absurd is none
           closes := fun _ => by rw [closed, v_atc], keeps := fun none => absurd is none, ringClosed := ?_
           audio := fun id q' i g audio => absurd ⟨id, q', audio⟩ noAudio, unsourced := fun _ => by rw [v_trm]
           silent := fun audio => absurd audio noAudio, unheard := fun _ i => ?_
           flag := ?_, cue := fun r report => absurd report (by simp [noCue])
           panel := fun _ => by simpa using v_pos, trm := by rw [v_trm]; exact ⟨rfl, rfl, rfl⟩, frame := frame }
  · have flag : (v.closureOutcome .closed).flag .ringClosed
        = (if v.atc.state = .proving ∨ v.atc.closure ≠ .closed then v.raise .ringClosed else v).flag .ringClosed := by
      rw [closed]
      rfl
    have either : s.atc.closure ≠ .closed ↔ s.atc.closure = .opened := by cases s.atc.closure <;> simp
    rw [flag, v_atc]
    simp only [either]
    split
    next changes => simp [State.flag_raise, changes, is]
    next stays => simp [stays, v_flag]
  · rw [told.counter_stands (Set.notMem_empty _), State.counter, v_svp, State.counter]
  · rw [(told.flag_stands (f := .cueUndelivered) (by simp [Closure.flag])).1, v_flag]
    simp [noCue]

/-- AUDIO's return is heard or not (R63). -/
theorem State.returns_audio {e : Entry} (audio : e.isAudio) (copied : Bool) :
    State.Returns e copied s (s.returnOutcome e copied) := by
  have frame := s.returnOutcome_same e copied
  have is := audio
  obtain ⟨id, q, identity⟩ := audio
  have noAnnounce : ¬ e.isAnnounce := by simp [identity]
  have noCue : e.lostCue = none := by simp [Entry.lostCue, identity]
  have sourced {i : Fin 4} (h : s.stc.image.bind (·.sourceOf id) = some i) : s.returnOutcome e copied =
      if copied then s.setHeard i .heard else (s.setHeard i .unheard).countOne (.unheard i) := by
    simp [State.returnOutcome, identity, h]
  have passed (h : s.stc.image.bind (·.sourceOf id) = none) : s.returnOutcome e copied = s := by
    simp [State.returnOutcome, identity, h]
  have quiet : (s.returnOutcome e copied).svp.flags = s.svp.flags ∧ (s.returnOutcome e copied).atc = s.atc
      ∧ (s.returnOutcome e copied).pos = s.pos
      ∧ (s.returnOutcome e copied).trm = { s.trm with heard := (s.returnOutcome e copied).trm.heard } := by
    cases source : s.stc.image.bind (·.sourceOf id) with
    | some i => rw [sourced source]; split <;> exact ⟨rfl, rfl, rfl, rfl⟩
    | none => rw [passed source]; exact ⟨rfl, rfl, rfl, rfl⟩
  obtain ⟨flags, atc, pos, trm⟩ := quiet
  have flag (f : EventFlag) : (s.returnOutcome e copied).flag f = s.flag f := by rw [State.flag, flags, State.flag]
  refine { trip := fun announce => absurd announce noAnnounce, noTrip := fun _ => by rw [trm]
           closes := fun announce => absurd announce noAnnounce, keeps := fun _ => atc
           ringClosed := by simp [flag, noAnnounce], audio := fun id' q' i g same image source => ?_
           unsourced := fun unknown => ?_
           silent := fun _ => flags, unheard := fun not => absurd is not, flag := by simp [flag, noCue]
           cue := fun r report => absurd report (by simp [noCue]), panel := fun _ => pos
           trm := by rw [trm]; exact ⟨rfl, rfl, rfl⟩, frame := frame }
  · obtain ⟨rfl, rfl⟩ := Identity.audio.inj (identity.symm.trans same)
    have found : s.stc.image.bind (·.sourceOf id) = some i := by simp [image, source]
    rw [sourced found]
    cases copied with
    | true => simp [State.setHeard, modifyAt, State.counter, State.withTrm]
    | false =>
      refine ⟨?_, ?_⟩
      · simp [State.setHeard, modifyAt]
      · exact (State.counter_countOne ..).trans (by simp [State.counter, State.setHeard])
  · have missing : s.stc.image.bind (·.sourceOf id) = none :=
      Option.bind_eq_none_iff.mpr fun g image => unknown id q identity g image
    rw [passed missing]

/-- A cue's return is its outcome at the panel (R64). -/
theorem State.returns_cue {e : Entry} {tag : Octet} (identity : e.identity = .cue tag) (copied : Bool) :
    State.Returns e copied s (s.returnOutcome e copied) := by
  have frame := s.returnOutcome_same e copied
  have noAnnounce : ¬ e.isAnnounce := by simp [identity]
  have noAudio : ¬ e.isAudio := by simp [identity]
  have lost : e.lostCue = e.cue := by simp [Entry.lostCue, identity]
  have quiet : (s.returnOutcome e copied).atc = s.atc ∧ (s.returnOutcome e copied).trm = s.trm
      ∧ State.Tells {.cueUndelivered} ∅ s (s.returnOutcome e copied) := by
    unfold State.returnOutcome
    split <;> rename_i kind
    · simp [identity] at kind
    · simp [identity] at kind
    · split
      · exact ⟨by simp, by simp, .of_eq (by simp)⟩
      · exact ⟨by simp, by simp, s.tells_cueUndelivered _ rfl⟩
    · exact ⟨rfl, rfl, .refl s⟩
  obtain ⟨atc, trm, told⟩ := quiet
  refine { trip := fun announce => absurd announce noAnnounce, noTrip := fun _ => by rw [trm]
           closes := fun announce => absurd announce noAnnounce, keeps := fun _ => atc
           ringClosed := by simp [(told.flag_stands (f := .ringClosed) (by simp)).1, noAnnounce]
           audio := fun id q _ _ audio => absurd ⟨id, q, audio⟩ noAudio, unsourced := fun _ => by rw [trm]
           silent := fun audio => absurd audio noAudio, unheard := fun _ i => told.counter_stands (Set.notMem_empty _)
           flag := ?_, cue := fun r report => ?_, panel := fun none => ?_, trm := by simp [trm], frame := frame }
  · rw [lost]
    cases report : e.cue with
    | none => simp [State.returnOutcome, identity, report]
    | some r =>
      cases copied with
      | true => simp [State.returnOutcome, identity, report, State.flag]
      | false =>
        have reported := (s.reports_cueUndelivered r).flag
        simpa [State.returnOutcome, identity, report] using reported
  · rw [lost] at report
    cases copied with
    | true => simp [State.returnOutcome, identity, report]
    | false => simpa [State.returnOutcome, identity, report] using s.cueUndelivered_eq r
  · rw [lost] at none
    simp [State.returnOutcome, identity, none]

theorem State.returns_returnOutcome (attached : s.attached = true) (e : Entry) (copied : Bool) :
    State.Returns e copied s (s.returnOutcome e copied) := by
  cases identity : e.identity with
  | announce q => exact State.returns_announce attached ⟨q, identity⟩ copied
  | audio id q => exact State.returns_audio ⟨id, q, identity⟩ copied
  | cue tag => exact State.returns_cue identity copied

end

end Sys2Proof.Machine

/-! SUPPORT. A stripped frame that matches a transit entry, from its arrival on (R54 to R58). -/

namespace Sys2Proof.Machine

section
variable {s t u : State}

/-- The entries ahead of a match lost by skip, and the match returned, before the heads behind it are judged (R55, R56). -/
def State.returned (s : State) (ahead : List Entry) (e : Entry) (copied : Bool) : State :=
  ((ahead.foldl State.skipHead s).dropHead.countOne .ownReturned).returnOutcome e copied

/-- A stripped frame settles the first entry of its identity (R54 to R56). -/
theorem State.stripped_matched {ahead es : List Entry} {e : Entry} {i : Identity}
    (list : s.trm.transit = ahead ++ e :: es) (other : ∀ a ∈ ahead, a.identity ≠ i) (same : e.identity = i)
    (copied : Bool) : s.stripped i copied
      = (State.timeoutHeads (s.returned ahead e copied).trm.transit (s.returned ahead e copied)).decideStart := by
  have before : s.trm.transit.takeWhile (·.identity ≠ i) = ahead := by
    rw [list, List.takeWhile_append_of_pos (by simpa using other), List.takeWhile_cons_of_neg (by simpa using same),
      List.append_nil]
  have found : s.trm.transit.dropWhile (·.identity ≠ i) = e :: es := by
    rw [list, List.dropWhile_append_of_pos (by simpa using other), List.dropWhile_cons_of_neg (by simpa using same)]
  simp only [State.stripped, before, found]
  rfl

/-- Skipped entries are counted, and nothing else is (R56). -/
theorem State.skipHeads_counter (ahead : List Entry) (s : State) (k : Counter) :
    (ahead.foldl State.skipHead s).counter k =
      if k = .skipLosses ∧ ahead ≠ [] then min 65535 (s.counter k + ahead.length) else s.counter k := by
  induction ahead generalizing s with
  | nil => rw [if_neg (by simp)]; rfl
  | cons e es ih =>
    have counted : (s.skipHead e).counter k = if k = .skipLosses then min 65535 (s.counter k + 1) else s.counter k :=
      ((State.tells_lossOutcome _ e).counter_stands (Set.notMem_empty k)).trans (State.counter_countOne ..)
    rw [List.foldl_cons, ih, counted]
    by_cases skip : k = .skipLosses
    · cases es with
      | nil => simp [skip]
      | cons e' es =>
        simp only [skip, true_and, if_true, ne_eq, reduceCtorEq, not_false_eq_true, List.length_cons]
        omega
    · simp [skip]

/-- Of the transit monitor skips move the list and the heard states alone (R56). -/
theorem State.skipHeads_trm (ahead : List Entry) (s : State) : (ahead.foldl State.skipHead s).trm = { s.trm with
    transit := (ahead.foldl State.skipHead s).trm.transit, heard := (ahead.foldl State.skipHead s).trm.heard } := by
  induction ahead generalizing s with
  | nil => rfl
  | cons e es ih =>
    rw [List.foldl_cons, ih, State.skipHead, State.lossOutcome_trm]
    rfl

/-- What a skip does not touch. -/
theorem State.skipHeads_same (ahead : List Entry) (s : State) : ahead.foldl State.skipHead s = { s with
    atc := (ahead.foldl State.skipHead s).atc, trm := (ahead.foldl State.skipHead s).trm
    pos := (ahead.foldl State.skipHead s).pos
    svp := { s.svp with
      flags := (ahead.foldl State.skipHead s).svp.flags, seen := (ahead.foldl State.skipHead s).svp.seen
      counters := (ahead.foldl State.skipHead s).svp.counters } } := by
  have told : State.Tells {.ringOpened, .cueUndelivered} {.skipLosses} s (ahead.foldl State.skipHead s) :=
    .foldl State.tells_skipHead ahead s
  have keeps {α : Type} (p : State → α) (one : ∀ s e, p (State.skipHead s e) = p s) :
      p (ahead.foldl State.skipHead s) = p s := foldl_keeps (p := p) State.skipHead (fun b a => one b a) ahead s
  refine State.eq_of_items ?_ ?_ rfl ?_ ?_ ?_ rfl ?_ ?_ ?_ ?_ rfl ?_ told.svp_eq ?_ ?_ <;>
    exact keeps _ (fun b a => by simp [State.skipHead])

/-- The match as the return outcome finds it: the entries ahead are lost, and the match is counted (R55, R56). -/
def State.matched (s : State) (ahead : List Entry) : State := (ahead.foldl State.skipHead s).dropHead.countOne .ownReturned

/-- What a match finds (R55, R56). -/
theorem State.matched_items {ahead es : List Entry} {e : Entry} (attached : s.attached = true)
    (list : s.trm.transit = ahead ++ e :: es) :
    State.Loses ahead s (s.matched ahead) ∧ (s.matched ahead).attached = true
    ∧ (s.matched ahead).trm = { s.trm with transit := es, heard := (s.matched ahead).trm.heard }
    ∧ (∀ k, (s.matched ahead).counter k =
        if k = .skipLosses ∧ ahead ≠ [] then min 65535 (s.counter k + ahead.length)
        else if k = .ownReturned then min 65535 (s.counter k + 1) else s.counter k)
    ∧ s.matched ahead = { s with
        atc := (s.matched ahead).atc, trm := (s.matched ahead).trm, pos := (s.matched ahead).pos
        svp := { s.svp with
          flags := (s.matched ahead).svp.flags, seen := (s.matched ahead).svp.seen
          counters := (s.matched ahead).svp.counters } } := by
  have loses := State.loses_skipHeads ahead s attached
  have transit := State.skipHeads_transit ahead (e :: es) s list
  have trm := State.skipHeads_trm ahead s
  have counter := State.skipHeads_counter ahead s
  have same := State.skipHeads_same ahead s
  unfold State.matched
  generalize ahead.foldl State.skipHead s = v at *
  have counted : State.Loses ahead s (v.dropHead.countOne .ownReturned) := by
    have := loses.append (.nil (t := v.dropHead.countOne .ownReturned) rfl ⟨rfl, rfl⟩ rfl rfl rfl)
    rwa [List.append_nil] at this
  refine ⟨counted, counted.attached attached, ?_, fun k => ?_, ?_⟩
  · show { v.trm with transit := v.trm.transit.drop 1 } = _
    rw [transit, trm]
    rfl
  · have one : (v.dropHead.countOne .ownReturned).counter k
        = if k = .ownReturned then min 65535 (v.counter k + 1) else v.counter k := State.counter_countOne ..
    rw [one, counter]
    split
    next own => simp [own]
    next => rfl
  · have told : State.Tells ∅ {.ownReturned} v.dropHead (v.dropHead.countOne .ownReturned) :=
      State.tells_countOne _ (Set.mem_singleton _)
    rw [same]
    rfl

/-- What a match leaves, its return outcome delivered: everything the match and the outcome do not touch stands. -/
theorem State.returned_frame {ahead es : List Entry} {e : Entry} (attached : s.attached = true)
    (list : s.trm.transit = ahead ++ e :: es) (copied : Bool) :
    State.Returns e copied (s.matched ahead) (s.returned ahead e copied)
    ∧ (s.returned ahead e copied).attached = true
    ∧ s.returned ahead e copied = { s with
        atc := (s.returned ahead e copied).atc, trm := (s.returned ahead e copied).trm
        pos := (s.returned ahead e copied).pos
        svp := { s.svp with
          flags := (s.returned ahead e copied).svp.flags, seen := (s.returned ahead e copied).svp.seen
          counters := (s.returned ahead e copied).svp.counters } }
    ∧ (s.returned ahead e copied).trm.transit = es ∧ (s.returned ahead e copied).trm.expired = s.trm.expired
    ∧ (s.returned ahead e copied).trm.conflicts = s.trm.conflicts
    ∧ (∀ k ∉ unheardCounters, (s.returned ahead e copied).counter k = (s.matched ahead).counter k)
    ∧ (s.returned ahead e copied).flag .ringOpened = (s.matched ahead).flag .ringOpened := by
  obtain ⟨-, matched, trm, -, same⟩ := State.matched_items attached list
  have told := (s.matched ahead).tells_returnOutcome e copied
  have returns := State.returns_returnOutcome matched e copied
  show State.Returns e copied (s.matched ahead) ((s.matched ahead).returnOutcome e copied) ∧ _
  unfold State.returned
  rw [← State.matched]
  generalize (s.matched ahead).returnOutcome e copied = u at *
  obtain ⟨transit, expired, conflicts⟩ := returns.trm
  refine ⟨returns, returns.attached matched, ?_, by rw [transit, trm], by rw [expired, trm], by rw [conflicts, trm],
    fun k out => told.counter_stands out, (told.flag_stands (by simp)).1⟩
  have frame := returns.frame
  rw [same] at frame
  exact frame

/-- The arrival of a frame that matches an entry (R54 to R57). -/
theorem State.takes.exec_matched {f : RxFrame} {rest : List RxFrame} {fr : Frame} {ahead es : List Entry} {e : Entry}
    (h : s.takes f rest fr) (own : fr.origin = s.address) (list : s.trm.transit = ahead ++ e :: es)
    (other : ∀ a ∈ ahead, a.identity ≠ fr.identity) (same : e.identity = fr.identity) :
    let v : State := { s with rx := { s.rx with closed := rest } }
    let u := v.returned ahead e (copiedOf f.octets)
    ∃ t, exec .frameArrival s = .next t ∧ State.headsLost u t ∧ t.now = s.now ∧ State.arbiterActs s.rfw t := by
  intro v u
  have attached : s.attached = true := h.1.1
  obtain ⟨-, still, frame, -⟩ := State.returned_frame (s := v) attached list (copiedOf f.octets)
  have step : exec .frameArrival s = .next (State.timeoutHeads u.trm.transit u).decideStart := by
    rw [State.takes.exec_own h own]
    exact congrArg _ (State.stripped_matched (s := v) list other same (copiedOf f.octets))
  have acts := (State.timeoutHeads u.trm.transit u).decideStart_acts
  have now : u.now = s.now := by rw [show u = _ from frame]
  have rfw : (State.timeoutHeads u.trm.transit u).rfw = s.rfw := by
    rw [show (State.timeoutHeads u.trm.transit u).rfw = u.rfw by simp, show u = _ from frame]
  refine ⟨_, step, State.headsLost_timeoutHeads still (State.decideStart_same _), by simp [now], rfw ▸ acts⟩

/-- A position of a venue after a returned cue's outcome (R165). -/
theorem Position.requestOutcome_judged (old : Position) (tag : Octet) (delivered : Bool) :
    (old.tag ≠ some tag → old.sound → (Position.requestOutcome tag delivered old).judged = old)
    ∧ (old.tag = some tag → (Position.requestOutcome tag delivered old).judged = { old with
        talk := if delivered = true then (if old.talk = .flash then .on else old.talk) else .off
        tag := if delivered = true then old.tag else none
        selection := selectionOf old.latch old.talkback }) := by
  refine ⟨fun other sound => ?_, fun own => ?_⟩
  · rw [Position.requestOutcome, if_neg other, Position.judged, selectionOf, ← sound.1]
  · rw [Position.requestOutcome, if_pos own]
    cases delivered <;> rfl

end

/-- Settles O22: the head is counted and has its return outcome, and the heads then overdue go. -/
theorem headMatchDelivers : Obligations.HeadMatchDelivers := by
  intro s f rest fr e es takes own list same copied trip
  let v : State := { s with rx := { s.rx with closed := rest } }
  let u : State := v.returned [] e copied
  have attached : s.attached = true := takes.1.1
  obtain ⟨returns, -, frame, transit, expired, conflicts, counter, -⟩ :=
    State.returned_frame (s := v) (ahead := []) (es := es) attached list copied
  obtain ⟨t, step, lost, now, acts⟩ := State.takes.exec_matched (ahead := []) takes own list (by simp) same
  have matched : v.matched [] = v.dropHead.countOne .ownReturned := rfl
  have others (k : Counter) : (v.matched []).counter k = if k = .ownReturned then min 65535 (s.counter k + 1) else s.counter k :=
    State.counter_countOne v.dropHead .ownReturned k
  have noAudio {q : Octet} (announce : e.identity = .announce q) (id : StreamId) (q' : BitVec 16) :
      e.identity ≠ .audio id q' := by simp [announce]
  refine ⟨u, t, step, lost, now, acts, frame, transit, expired, conflicts, ?_, fun q announce => ?_,
    fun id q i g audio image source => ?_, fun tag cue isSome => ?_, fun tag r cue report => ⟨fun other => ?_, ?_⟩⟩
  · exact (counter .ownReturned (by simp)).trans (others .ownReturned)
  · obtain ⟨last, most⟩ := returns.trip ⟨q, announce⟩
    exact ⟨last, most, returns.unsourced fun id q' audio => absurd audio (noAudio announce id q'),
      returns.closes ⟨q, announce⟩, returns.ringClosed.trans (or_congr Iff.rfl (and_iff_right ⟨q, announce⟩))⟩
  · obtain ⟨heard, count⟩ := returns.audio id q i g audio image source
    have plain : (v.matched []).counter (.unheard i) = s.counter (.unheard i) := (others _).trans (if_neg (by simp))
    rw [plain] at count
    have none : ¬ e.isAnnounce := by simp [audio]
    exact ⟨heard, count, returns.silent ⟨id, q, audio⟩, returns.keeps none, returns.noTrip none⟩
  · have none : ¬ e.isAnnounce := by simp [cue]
    refine ⟨returns.flag.trans ?_, returns.keeps none, returns.unsourced fun id q audio => by simp [cue] at audio⟩
    simp only [Entry.lostCue, cue, isSome, true_and]
    exact Iff.rfl
  · have lostCue : e.lostCue = some r := by simp [Entry.lostCue, cue, report]
    rw [returns.cue r lostCue, State.cueOutcome_other (s := v.matched []) other]
    rfl
  · intro venue request p old
    have lostCue : e.lostCue = some r := by simp [Entry.lostCue, cue, report]
    have at_p : u.pos.positions[p] = _ :=
      (congrArg (fun x : Pos => x.positions[p]) (returns.cue r lostCue)).trans (State.cueOutcome_position _ r copied p)
    obtain ⟨unmatched, tagged⟩ := Position.requestOutcome_judged old r.tag copied
    refine ⟨fun other => at_p.trans (if_neg fun h => other h.2.2), fun here tag sound => ?_, fun here tag => ?_⟩
    · exact (at_p.trans (if_pos ⟨venue, request, here⟩)).trans (unmatched tag sound)
    · exact (at_p.trans (if_pos ⟨venue, request, here⟩)).trans (tagged tag)

/-- A sourced stream has its ID (R79). -/
theorem Image.sourceOf_id {g : Image} {id : StreamId} {i : Fin 4} (h : g.sourceOf id = some i) :
    ∃ c, g.source i = some c ∧ c.id = id := by
  have found := List.find?_some h
  simpa [Option.any_eq_true] using found

theorem Image.sourceOf_inj {g : Image} {id id' : StreamId} {i : Fin 4} (h : g.sourceOf id = some i)
    (h' : g.sourceOf id' = some i) : id = id' := by
  obtain ⟨c, source, same⟩ := Image.sourceOf_id h
  obtain ⟨c', source', same'⟩ := Image.sourceOf_id h'
  rw [source] at source'
  rw [← same, ← same', Option.some.inj source']

/-- A return of another stream leaves a stream's heard state (R63). -/
theorem State.Returns.heard_other {s t : State} {e : Entry} {copied : Bool} (h : State.Returns e copied s t) {g : Image}
    (image : s.stc.image = some g) {id : StreamId} {i : Fin 4} (source : g.sourceOf id = some i)
    (other : ∀ q, e.identity ≠ .audio id q) : t.trm.heard[i] = s.trm.heard[i] := by
  by_cases sourced : ∃ id' q, e.identity = .audio id' q ∧ ∃ j, g.sourceOf id' = some j
  · obtain ⟨id', q, audio, j, found⟩ := sourced
    have apart : j.val ≠ i.val := fun same => by
      obtain rfl := Fin.ext same
      exact other q (Image.sourceOf_inj source found ▸ audio)
    rw [(h.audio id' q j g audio image found).1]
    exact Vector.getElem_set_ne _ _ apart
  · rw [h.unsourced fun id' q audio g' image' => ?_]
    obtain rfl := Option.some.inj (image.symm.trans image')
    exact Option.eq_none_iff_forall_not_mem.mpr fun j found => sourced ⟨id', q, audio, j, found⟩

/-- The second of two announce outcomes decides closure (R26). -/
theorem Atc.closes_closes (a : Atc) (c d : Closure) : (a.closes c).closes d = a.closes d := by
  unfold Atc.closes
  by_cases proving : a.state = .proving <;> simp [proving]

/-- The entries whose loss reports a cue (R56, R64). -/
theorem Entry.lostCue_isSome {e : Entry} :
    e.lostCue.isSome = true ↔ (∃ tag, e.identity = .cue tag) ∧ e.cue.isSome = true := by
  cases identity : e.identity <;> simp [Entry.lostCue, identity]

theorem lostCues_some {es : List Entry} :
    es.filterMap Entry.lostCue ≠ [] ↔ ∃ a ∈ es, ∃ tag, a.identity = .cue tag ∧ a.cue.isSome = true := by
  rw [ne_eq, List.filterMap_eq_nil_iff]
  push Not
  refine exists_congr fun a => and_congr_right fun _ => ?_
  rw [← Option.isSome_iff_ne_none, Entry.lostCue_isSome, exists_and_right]

/-- Settles O23: the entries ahead have their loss outcomes, then the match its return outcome. -/
theorem skippedEntriesAreLost : Obligations.SkippedEntriesAreLost := by
  intro s f rest fr ahead es e takes own list some other same
  let v : State := { s with rx := { s.rx with closed := rest } }
  let u : State := v.returned ahead e (copiedOf f.octets)
  have attached : s.attached = true := takes.1.1
  obtain ⟨loses, -, -, counted, -⟩ := State.matched_items (s := v) attached list
  obtain ⟨returns, -, frame, transit, expired, conflicts, counter, ringOpened⟩ :=
    State.returned_frame (s := v) attached list (copiedOf f.octets)
  obtain ⟨t, step, lost, now, acts⟩ := State.takes.exec_matched takes own list other same
  have stc : (v.matched ahead).stc = s.stc := loses.stc
  refine ⟨u, t, step, lost, now, acts, frame, transit, expired, ?_, ?_, ?_, ⟨fun back => ?_, fun back gone => ?_,
    fun back gone => ?_, ?_, ?_⟩, fun a mem id q i g audio image source others => ⟨?_, fun noAudio => ?_⟩, ?_,
    fun either => ?_, fun venue a mem tag r cue report request p named mine => ?_⟩
  · exact (counter .skipLosses (by simp)).trans ((counted _).trans (if_pos ⟨rfl, some⟩))
  · exact (counter .ownReturned (by simp)).trans (((counted _).trans (if_neg (by simp))).trans (if_pos rfl))
  · exact (counter .timeoutLosses (by simp)).trans (((counted _).trans (if_neg (by simp))).trans (if_neg (by simp)))
  · refine (returns.closes back).trans ?_
    by_cases gone : announceLost ahead
    · rw [loses.opens gone]
      exact Atc.closes_closes ..
    · rw [loses.keeps gone]
  · exact (returns.keeps back).trans (loses.opens gone)
  · exact (returns.keeps back).trans (loses.keeps gone)
  · rw [show u.flag .ringOpened = _ from ringOpened]
    exact loses.ringOpened
  · rw [show (u.flag .ringClosed = true ↔ _) from returns.ringClosed, (loses.flags .ringClosed (by simp) (by simp)).1]
    by_cases gone : announceLost ahead
    · rw [loses.opens gone]
      have := gone
      simp [this]
      exact Iff.rfl
    · rw [loses.keeps gone]
      have := gone
      simp [this]
      exact Iff.rfl
  · rw [show u.trm.heard[i] = _ from returns.heard_other (by rw [stc]; exact image) source others]
    exact (loses.heard i).1 ⟨g, image, a, mem, id, q, audio, source⟩
  · rw [show u.counter (.unheard i) = _ from returns.unheard (by rintro ⟨id', q', h⟩; exact noAudio id' q' h) i]
    exact ((counted _).trans (if_neg (by simp))).trans (if_neg (by simp))
  · rw [show (u.flag .cueUndelivered = true ↔ _) from returns.flag, loses.reports.flag]
    rw [lostCues_some, Entry.lostCue_isSome, or_assoc, and_assoc]
    exact Iff.rfl
  · exact (loses.reports.append (returns.reports either) loses.stc).cuesLost
  · obtain ⟨-, -, -, positions⟩ := loses.reports.cuesLost
    have away : ((v.matched ahead).pos.positions[p]).talk = .off ∧ ((v.matched ahead).pos.positions[p]).tag = none := by
      rw [(positions venue p).1 ⟨r, List.mem_filterMap.mpr ⟨a, mem, by simp [Entry.lostCue, cue, report]⟩, request, named, mine⟩]
      exact ⟨rfl, rfl⟩
    show (u.pos.positions[p]).talk = .off ∧ (u.pos.positions[p]).tag = none
    cases answer : e.lostCue with
    | none => rwa [show u.pos = _ from returns.panel answer]
    | some r' =>
      rw [show u.pos = _ from returns.cue r' answer]
      exact State.cueOutcome_untagged r' _ away

end Sys2Proof.Machine

/-! SUPPORT. Entry to LEAVING: what it discards, counts and reports (R27, R48 to R50), and the frames that bring it about. -/

namespace Sys2Proof.Machine

section
variable {s t u : State}

/-- Cues reported one after another (R48, R50). -/
theorem State.reports_foldl (rs : List CueReport) (s : State) : State.Reports rs s (rs.foldl State.cueUndelivered s) :=
  ⟨rfl, (State.cuesLost_foldl rs s).1⟩

theorem State.Reports.past {rs : List CueReport} (h : State.Reports rs t u) (pos : t.pos = s.pos)
    (flag : t.flag .cueUndelivered = s.flag .cueUndelivered) (stc : t.stc = s.stc) : State.Reports rs s u :=
  (State.Reports.nil pos flag).append h stc

theorem State.Reports.then_same {rs : List CueReport} (h : State.Reports rs s t) (pos : u.pos = t.pos)
    (flag : u.flag .cueUndelivered = t.flag .cueUndelivered) : State.Reports rs s u :=
  ⟨pos.trans h.pos, by rw [flag]; exact h.flag⟩

/-- The discard counts what waits and reports the cues (R50). -/
theorem State.discardOwn_told (s : State) :
    s.discardOwn.counter .ownDiscarded = min 65535 (s.counter .ownDiscarded + s.inq.cues.length + s.inq.audio.length)
    ∧ State.Reports (s.inq.cues.map CueFrame.report) s s.discardOwn := by
  let b : State := (s.countBy .ownDiscarded (s.inq.cues.length + s.inq.audio.length)).withInq
    { s.inq with cues := [], audio := [] }
  have discarded : s.discardOwn = (s.inq.cues.map CueFrame.report).foldl State.cueUndelivered b := by
    rw [List.foldl_map]
    rfl
  have told : State.Tells {.cueUndelivered} ∅ b ((s.inq.cues.map CueFrame.report).foldl State.cueUndelivered b) :=
    .foldl (fun s r => s.tells_cueUndelivered r (Set.mem_singleton _)) _ b
  have counted : b.counter .ownDiscarded
      = min 65535 (s.counter .ownDiscarded + (s.inq.cues.length + s.inq.audio.length)) :=
    (State.counter_countBy ..).trans (if_pos rfl)
  rw [discarded]
  refine ⟨?_, (State.reports_foldl _ b).past rfl rfl rfl⟩
  rw [told.counter_stands (Set.notMem_empty _), counted, Nat.add_assoc]

/-- The station as it enters LEAVING, before its final announce (R27, R50, R69). -/
def State.closesDown (s : State) (cause : LeaveCause) : State :=
  ((s.withAtc { s.atc with
    state := .leaving, leaveTimer := some s.now, leaveCause := some cause, finalSent := false }).discardOwn).withPru
      { s.pru with timer := none }

theorem State.enterLeaving_eq (s : State) (cause : LeaveCause) :
    s.enterLeaving cause = ((s.closesDown cause).announce true).decideStart := by
  unfold State.enterLeaving State.closesDown
  simp

/-- What an entry to LEAVING counts and reports (R49, R50). -/
theorem State.enterLeaving_told (s : State) (cause : LeaveCause) :
    (s.enterLeaving cause).counter .ownDiscarded
        = min 65535 (s.counter .ownDiscarded + s.inq.cues.length + s.inq.audio.length)
    ∧ (s.enterLeaving cause).counter .announcesReplaced
        = (if s.stc.image.isSome = true ∧ s.inq.slot.isSome = true then min 65535 (s.counter .announcesReplaced + 1)
          else s.counter .announcesReplaced)
    ∧ State.Reports (s.inq.cues.map CueFrame.report) s (s.enterLeaving cause) := by
  let b := s.withAtc { s.atc with
    state := .leaving, leaveTimer := some s.now, leaveCause := some cause, finalSent := false }
  obtain ⟨discarded, reports⟩ := b.discardOwn_told
  have told := b.tells_discardOwn
  have down : (s.closesDown cause).svp = b.discardOwn.svp := rfl
  have announced := (s.closesDown cause).tells_announce true
  have acted : (s.enterLeaving cause).svp = ((s.closesDown cause).announce true).svp := by
    rw [State.enterLeaving_eq]
    simp
  have counter (k : Counter) : (s.enterLeaving cause).counter k = ((s.closesDown cause).announce true).counter k := by
    rw [State.counter, acted, State.counter]
  have before (k : Counter) : (s.closesDown cause).counter k = b.discardOwn.counter k := rfl
  have image : (s.closesDown cause).stc = s.stc := by simp [State.closesDown]
  have inq : (s.closesDown cause).inq = ⟨[], s.inq.slot, []⟩ := by simp [State.closesDown]
  have all : State.Reports (s.inq.cues.map CueFrame.report) s b.discardOwn := reports.past rfl rfl rfl
  refine ⟨?_, ?_, all.then_same (by simp [State.enterLeaving, b]) ?_⟩
  · rw [counter, announced.counter_stands (by simp), before, discarded]
    rfl
  · have stands : b.discardOwn.counter .announcesReplaced = s.counter .announcesReplaced :=
      told.counter_stands (by simp)
    rw [counter]
    cases loaded : s.stc.image with
    | none => simp [State.announce, image, loaded, before, stands]
    | some g =>
      rw [State.announce_offered (g := g) (by rw [image, loaded]), inq]
      cases s.inq.slot with
      | none => exact stands
      | some a =>
        simp only [Option.isSome_some, if_true, and_self]
        refine (State.counter_countOne ..).trans ?_
        rw [if_pos rfl, ← stands]
        rfl
  · rw [State.flag, acted, ← State.flag, (announced.flag_stands (Set.notMem_empty _)).1]
    exact congrArg (fun x : Svp => x.flags.getLsbD EventFlag.cueUndelivered.number) down

end

/-- Settles O19: in service the request enters LEAVING and is acknowledged, and elsewhere it is refused. -/
theorem restartRingEntersLeaving : Obligations.RestartRingEntersLeaving := by
  intro s
  refine ⟨fun g loaded image service => ?_, fun monitored out => ?_⟩
  · have step : exec .restartRing s = .next ((s.enterLeaving .restart).reply (.ack .none)) := by
      show execRestartRing s = _
      rw [execRestartRing, State.monitor_taken (.inl loaded), if_pos service]
    obtain ⟨discarded, replaced, reports⟩ := s.enterLeaving_told .restart
    have inq := State.enterLeaving_inq image .restart
    have pru := s.enterLeaving_pru .restart
    have acts := s.enterLeaving_acts .restart
    refine ⟨_, step, by simp, by simp [inq], by simp [inq], ⟨s.announceNow g true, by simp [inq], rfl, rfl, rfl, rfl⟩,
      by simpa [image] using pru, discarded, ?_, (reports.then_same rfl rfl).cuesLost, rfl,
      by simp, acts, by simp, by simp, by simp, by simp, by simp, by simp⟩
    exact replaced.trans (by simp [image])
  · show execRestartRing s = _
    rw [execRestartRing, State.monitor_taken monitored]
    simp only [out]
    rfl

section
variable {s : State}

/-- A foreign frame is counted, and so is the conflict (R61). -/
def State.foreignCounted (s : State) : State :=
  { s with trm := { s.trm with conflicts := min 255 (s.trm.conflicts + 1) } }.countOne .foreignFrames

/-- Foreign frames below the limit are counted alone (R61). -/
theorem State.foreignFrame_eq (s : State) : s.foreignFrame =
    if s.trm.conflicts = 2 then (s.foreignCounted.raise .addressConflict).conflictHalt else s.foreignCounted := by
  have limit : addUpTo Config.conflictCeiling s.trm.conflicts 1 = Config.conflictLimit ↔ s.trm.conflicts = 2 := by
    simp only [addUpTo, Config.conflictCeiling, Config.conflictLimit]
    omega
  unfold State.foreignFrame
  exact if_congr limit rfl rfl

/-- In a leave a conflict changes its cause alone (R27). -/
theorem State.conflictHalt_leaving (leaving : s.atc.state = .leaving) :
    s.conflictHalt = { s with atc := { s.atc with leaveCause := some .conflict } } := by
  rw [State.conflictHalt, leaving]
  rfl

/-- A conflict begins a leave (R27). -/
theorem State.conflictHalt_enters (attached : s.attached = true) (other : s.atc.state ≠ .leaving) :
    s.conflictHalt = s.enterLeaving .conflict := by
  obtain state | state | state := State.attached_iff.mp attached
  · rw [State.conflictHalt, state]
  · rw [State.conflictHalt, state]
  · exact absurd state other

end

/-- Settles O26: a foreign frame is counted, and the third reports the conflict halt. -/
theorem foreignFramesHalt : Obligations.ForeignFramesHalt := by
  intro s f rest fr takes own noEntry noIdentity counted
  have attached : s.attached = true := takes.1.1
  have step : exec .frameArrival s = .next (State.foreignFrame { s with rx := { s.rx with closed := rest } }) := by
    rw [State.takes.exec_own takes own, State.stripped_unmatched (s := s.withRx { s.rx with closed := rest }) _ noEntry]
    exact congrArg Host.Outcome.next (if_neg noIdentity)
  rw [State.foreignFrame_eq] at step
  refine ⟨fun below => step.trans (congrArg Host.Outcome.next (if_neg below)), fun third => ?_⟩
  let b : State := counted.raise .addressConflict
  have halts : exec .frameArrival s = .next b.conflictHalt := step.trans (congrArg Host.Outcome.next (if_pos third))
  have raised : b.flag .addressConflict = true := by simp [b, State.flag_raise]
  refine ⟨_, halts, b.tells_conflictHalt.flag_kept raised, by simp [b], by simp [b, counted], fun leaving => ?_, fun other => ?_⟩
  · exact State.conflictHalt_leaving (s := b) leaving
  · have enters := State.conflictHalt_enters (s := b) attached other
    have others (k : Counter) (h : k ≠ .foreignFrames) : b.counter k = s.counter k :=
      (State.counter_countOne _ .foreignFrames k).trans (if_neg h)
    obtain ⟨discarded, replaced, reports⟩ := b.enterLeaving_told .conflict
    rw [others _ (by simp)] at discarded replaced
    have flag : b.flag .cueUndelivered = s.flag .cueUndelivered := State.flag_raise ..
    rw [enters]
    refine ⟨by simp [b, counted], ?_, ?_, by rw [State.enterLeaving_pru], b.enterLeaving_acts .conflict, discarded,
      replaced, (reports.past (s := s) rfl flag rfl).cuesLost, fun loaded => ?_⟩
    · cases image : b.stc.image with
      | none => rw [State.enterLeaving_inq_unloaded image]
      | some g => rw [State.enterLeaving_inq image]
    · cases image : b.stc.image with
      | none => rw [State.enterLeaving_inq_unloaded image]
      | some g => rw [State.enterLeaving_inq image]
    · obtain ⟨g, image⟩ := Option.isSome_iff_exists.mp loaded
      exact ⟨b.announceNow g true, by rw [State.enterLeaving_inq (s := b) image], rfl⟩

end Sys2Proof.Machine

/-! SUPPORT. Frames that go no further (R34, R36). -/

namespace Sys2Proof.Machine

section
variable {s t u : State}

/-- Cues reported leave the last tags seen (R165). -/
theorem State.Reports.lastTags {rs : List CueReport} (h : State.Reports rs s t) : t.pos.lastTags = s.pos.lastTags := by
  obtain ⟨-, -, pos, -⟩ := h.cuesLost
  rw [pos]

theorem State.Returns.lastTags {e : Entry} {copied : Bool} (h : State.Returns e copied s t) :
    t.pos.lastTags = s.pos.lastTags := by
  cases answer : e.lostCue with
  | none => rw [h.panel answer]
  | some r =>
    rw [h.cue r answer]
    unfold State.cueOutcome
    split <;> rfl

/-- A list splits at the first entry of an identity, if it has one. -/
theorem entries_split (es : List Entry) (i : Identity) :
    (∀ e ∈ es, e.identity ≠ i)
    ∨ ∃ ahead e rest, es = ahead ++ e :: rest ∧ (∀ a ∈ ahead, a.identity ≠ i) ∧ e.identity = i := by
  induction es with
  | nil => simp
  | cons a es ih =>
    by_cases same : a.identity = i
    · exact .inr ⟨[], a, es, rfl, by simp, same⟩
    · obtain none | ⟨ahead, e, rest, rfl, other, match_⟩ := ih
      · exact .inl (by simpa [same] using none)
      · exact .inr ⟨a :: ahead, e, rest, rfl, by simpa [same] using other, match_⟩

/-- What an own frame's arrival never touches (R34). -/
abbrev State.goesNoFurther (rest : List RxFrame) (s t : State) : Prop :=
  t.rx = { s.rx with closed := rest } ∧ (t.rfw = s.rfw ∨ State.arbiterActs s.rfw t) ∧ t.pru.peers = s.pru.peers
  ∧ t.pru.claims = s.pru.claims ∧ t.pru.reported = s.pru.reported ∧ t.srx = s.srx
  ∧ t.pos.lastTags = s.pos.lastTags ∧ t.now = s.now ∧ t.cap = s.cap ∧ t.stc = s.stc ∧ t.ply = s.ply

/-- An own frame with an entry on the list (R55, R56). -/
theorem State.takes.matched_stops {f : RxFrame} {rest : List RxFrame} {fr : Frame} {ahead es : List Entry} {e : Entry}
    (h : s.takes f rest fr) (own : fr.origin = s.address) (list : s.trm.transit = ahead ++ e :: es)
    (other : ∀ a ∈ ahead, a.identity ≠ fr.identity) (same : e.identity = fr.identity) :
    ∃ t, exec .frameArrival s = .next t ∧ s.goesNoFurther rest t := by
  let v : State := { s with rx := { s.rx with closed := rest } }
  have attached : s.attached = true := h.1.1
  obtain ⟨t, step, lost, now, acts⟩ := State.takes.exec_matched h own list other same
  obtain ⟨loses, -⟩ := State.matched_items (s := v) attached list
  obtain ⟨returns, -, frame, -⟩ := State.returned_frame (s := v) attached list (copiedOf f.octets)
  obtain ⟨-, -, -, -, -, -, -, -, ⟨-, -, panel, -⟩, -, heads⟩ := lost
  have tags : t.pos.lastTags = s.pos.lastTags :=
    (congrArg Pos.lastTags panel).trans (returns.lastTags.trans loses.reports.lastTags)
  generalize v.returned ahead e (copiedOf f.octets) = u at *
  have returned : u.rx = v.rx ∧ u.pru = s.pru ∧ u.srx = s.srx ∧ u.cap = s.cap ∧ u.stc = s.stc ∧ u.ply = s.ply := by
    rw [frame]
    exact ⟨rfl, rfl, rfl, rfl, rfl, rfl⟩
  have left : t.rx = u.rx ∧ t.pru = u.pru ∧ t.srx = u.srx ∧ t.cap = u.cap ∧ t.stc = u.stc ∧ t.ply = u.ply := by
    rw [heads]
    exact ⟨rfl, rfl, rfl, rfl, rfl, rfl⟩
  simp only [returned] at left
  obtain ⟨rx, pru, srx, cap, stc, ply⟩ := left
  exact ⟨t, step, rx, .inr acts, by rw [pru], by rw [pru], by rw [pru], srx, tags, now, cap, stc, ply⟩

/-- A foreign frame (R61). -/
theorem State.foreignFrame_stops (s : State) (attached : s.attached = true) :
    (s.foreignFrame.rfw = s.rfw ∨ State.arbiterActs s.rfw s.foreignFrame)
    ∧ s.foreignFrame.pru.peers = s.pru.peers ∧ s.foreignFrame.pru.claims = s.pru.claims
    ∧ s.foreignFrame.pru.reported = s.pru.reported ∧ s.foreignFrame.pos.lastTags = s.pos.lastTags := by
  rw [State.foreignFrame_eq]
  split
  next third =>
    obtain ⟨-, -, reports⟩ := (s.foreignCounted.raise .addressConflict).enterLeaving_told .conflict
    have pru := (s.foreignCounted.raise .addressConflict).enterLeaving_pru .conflict
    have acts := (s.foreignCounted.raise .addressConflict).enterLeaving_acts .conflict
    by_cases leaving : s.atc.state = .leaving
    · rw [State.conflictHalt_leaving (s := s.foreignCounted.raise .addressConflict) leaving]
      exact ⟨.inl rfl, rfl, rfl, rfl, rfl⟩
    · rw [State.conflictHalt_enters (s := s.foreignCounted.raise .addressConflict) attached leaving]
      exact ⟨.inr acts, by rw [pru]; rfl, by rw [pru]; rfl, by rw [pru]; rfl, reports.lastTags⟩
  next => exact ⟨.inl rfl, rfl, rfl, rfl, rfl⟩

/-- An own frame without an entry on the list (R60, R61). -/
theorem State.takes.unmatched_stops {f : RxFrame} {rest : List RxFrame} {fr : Frame} (h : s.takes f rest fr)
    (own : fr.origin = s.address) (none : ∀ e ∈ s.trm.transit, e.identity ≠ fr.identity) :
    ∃ t, exec .frameArrival s = .next t ∧ s.goesNoFurther rest t := by
  let v : State := { s with rx := { s.rx with closed := rest } }
  have attached : v.attached = true := h.1.1
  have step : exec .frameArrival s
      = .next (if fr.identity ∈ s.trm.expired then v.lateReturn fr.identity else v.foreignFrame) := by
    rw [State.takes.exec_own h own, State.stripped_unmatched (s := s.withRx { s.rx with closed := rest }) _ none]
    rfl
  rw [step]
  split
  · exact ⟨_, rfl, rfl, .inl rfl, rfl, rfl, rfl, rfl, rfl, rfl, rfl, rfl, rfl⟩
  · obtain ⟨rfw, peers, claims, reported, tags⟩ := v.foreignFrame_stops attached
    exact ⟨_, rfl, by simp [v], rfw, peers, claims, reported, by simp [v], tags, by simp [v], by simp [v], by simp [v],
      by simp [v]⟩

end

/-- Settles O13: by the verdict, and for a well-formed frame by its origin and hop count. -/
theorem stoppedFramesGoNoFurther : Obligations.StoppedFramesGoNoFurther := by
  refine ⟨fun s f rest attached closed => ⟨fun due => ?_, fun free judged => ?_, fun free judged => ?_⟩,
    fun s f rest fr takes own => ?_, fun s f rest fr takes other spent => ?_⟩
  · have waits : (s.attached && !s.rx.closed.isEmpty && !s.incrementDue) = false := by simp [due]
    rw [exec_frameArrival, execFrameArrival, State.frameArrivalAt, State.takeEvent_nowIf, if_neg (by simp [waits])]
  · rw [State.arrives.exec_eq ⟨attached, closed, free⟩, State.judgeFrame, judged]
    rfl
  · rw [State.arrives.exec_eq ⟨attached, closed, free⟩, State.judgeFrame, judged]
    rfl
  · obtain none | ⟨ahead, e, es, list, before, same⟩ := entries_split s.trm.transit fr.identity
    · exact takes.unmatched_stops own none
    · exact takes.matched_stops own list before same
  · obtain ⟨arrives, wellFormed, read⟩ := takes
    have other' : fr.origin ≠ (s.withRx { s.rx with closed := rest }).address := other
    rw [arrives.exec_eq, State.judgeFrame_wellFormed _ wellFormed]
    simp only [State.takeFrame, read, if_neg other', if_pos spent]
    rfl

end Sys2Proof.Machine

/-! SUPPORT. The ends of a leave: the release of ATTACH, and where its cause takes the station (R28 to R33). -/

namespace Sys2Proof.Machine

section
variable {s t u : State}

/-! ## What a release counts and reports -/

/-- An abandoned entry's cue is reported (R53). -/
theorem State.reports_abandon (s : State) (e : Entry) : State.Reports e.cue.toList s (s.abandon e) := by
  unfold State.abandon
  dsimp only
  split
  next r report =>
    rw [report]
    exact (State.reports_cueUndelivered (s.countOne .abandoned) r).past rfl rfl rfl
  next none =>
    rw [none]
    exact .nil rfl rfl

theorem State.reports_abandons (es : List Entry) (s : State) :
    State.Reports (es.filterMap (·.cue)) s (es.foldl State.abandon s) := by
  induction es generalizing s with
  | nil => exact .nil rfl rfl
  | cons e es ih =>
    have both := (s.reports_abandon e).append (ih (s.abandon e)) (by simp)
    cases report : e.cue with
    | none => simpa [report] using both
    | some r => simpa [report] using both

/-- Cues reported leave the fallback latches and timers (R170). -/
theorem State.Reports.fallback {rs : List CueReport} (h : State.Reports rs s t) (p : Fin 4) :
    (t.pos.positions[p]).latch = (s.pos.positions[p]).latch ∧ (t.pos.positions[p]).timer = (s.pos.positions[p]).timer := by
  obtain ⟨-, gallery, -, venue⟩ := h.cuesLost
  cases role : s.stc.straps.role with
  | gallery =>
    rw [gallery (.inl role)]
    exact ⟨rfl, rfl⟩
  | venue =>
    obtain ⟨named, other⟩ := venue role p
    by_cases its : ∃ r ∈ rs, r.code = .talkRequest ∧ r.position.toNat = p.val ∧ (s.pos.positions[p]).tag = some r.tag
    · rw [named its]
      exact ⟨rfl, rfl⟩
    · rw [(other its).1]
      exact ⟨rfl, rfl⟩

/-- The entries abandoned and the announce discarded are counted, and nothing else is (R50, R53). -/
theorem State.letGo_told (s : State) :
    (s.counter .abandoned ≤ 65535 → s.letGo.counter .abandoned = min 65535 (s.counter .abandoned + s.trm.transit.length))
    ∧ (s.counter .abandoned ≤ 65535 → s.letGo.counter .ownDiscarded
        = if s.inq.slot.isSome then min 65535 (s.counter .ownDiscarded + 1) else s.counter .ownDiscarded)
    ∧ (∀ f, f ≠ .cueUndelivered → s.letGo.flag f = s.flag f)
    ∧ State.Reports (s.trm.transit.filterMap (·.cue)) s s.letGo := by
  have abandoned := State.counter_abandons s.trm.transit s
  have reports := State.reports_abandons s.trm.transit s
  have flags := State.Tells.foldl State.tells_abandon s.trm.transit s
  have stands : s.abandonTransit.inq = s.inq := by simp
  have counters : s.abandonTransit.svp = (s.trm.transit.foldl State.abandon s).svp := rfl
  have pos : s.letGo.pos = (s.trm.transit.foldl State.abandon s).pos := by
    have slot : s.abandonTransit.discardSlot.pos = s.abandonTransit.pos := by
      unfold State.discardSlot
      split <;> rfl
    exact slot
  have svp : s.letGo.svp = s.abandonTransit.discardSlot.svp := rfl
  have flag (f : EventFlag) : s.letGo.flag f = (s.trm.transit.foldl State.abandon s).flag f := by
    have kept := ((s.abandonTransit).tells_discardSlot.flag_stands (Set.notMem_empty f)).1
    rw [State.flag, svp, ← State.flag, kept, State.flag, counters, ← State.flag]
  have counter (k : Counter) : s.letGo.counter k
      = if k = .ownDiscarded ∧ s.inq.slot.isSome then min 65535 ((s.trm.transit.foldl State.abandon s).counter k + 1)
        else (s.trm.transit.foldl State.abandon s).counter k := by
    rw [State.counter, svp, ← State.counter]
    unfold State.discardSlot
    rw [stands]
    cases s.inq.slot with
    | none => simp only [Option.isSome_none, Bool.false_eq_true, and_false, if_false]; rfl
    | some a => simp only [Option.isSome_some, and_true, if_true]; exact State.counter_countOne ..
  refine ⟨fun rests => ?_, fun rests => ?_, fun f other => ?_, reports.then_same pos (flag _)⟩
  · rw [counter, if_neg (by simp), abandoned rests, if_pos rfl]
  · rw [counter, abandoned rests]
    simp
  · rw [flag, (flags.flag_stands (by simpa using other)).1]

/-! ## What a restart clears -/

/-- What the clearing of the panel leaves (R176). -/
theorem State.clearPositions_panel (u : State) :
    u.clearPositions.pos.lastTags = Vector.replicate 30 none
    ∧ (∀ p : Fin 4, u.clearPositions.pos.positions[p]
        = if u.stc.straps.role = .venue then (u.pos.positions[p]).galleryGone.judged else u.pos.positions[p])
    ∧ (u.stc.straps.role ≠ .venue → u.clearPositions.pos.lamps = 0) := by
  have role : (u.withPos { u.pos with lastTags := Vector.replicate 30 none }).venue = true ↔ u.stc.straps.role = .venue :=
    State.venue_eq_true
  unfold State.clearPositions
  dsimp only
  split
  next venue =>
    exact ⟨rfl, fun p => (mapAll_get ..).trans (if_pos (role.mp venue)).symm, fun away => absurd (role.mp venue) away⟩
  next away => exact ⟨rfl, fun p => (if_neg fun venue => away (role.mpr venue)).symm, fun _ => rfl⟩

/-- What the clearing of a restart leaves at the panel (R176). -/
theorem State.restartClearing_panel (s : State) :
    (∀ i : Fin 30, s.restartClearing.pos.lastTags[i] = none)
    ∧ (∀ p : Fin 4, (s.restartClearing.pos.positions[p]).latch = (s.pos.positions[p]).latch)
    ∧ (s.stc.straps.role = .venue → ∀ p : Fin 4, (s.restartClearing.pos.positions[p]).onAir = false
        ∧ (s.restartClearing.pos.positions[p]).talk = .off ∧ (s.restartClearing.pos.positions[p]).tag = none
        ∧ (s.restartClearing.pos.positions[p]).talkback = false)
    ∧ (s.stc.straps.role = .gallery → s.restartClearing.pos.lamps = 0)
    ∧ (∀ (p : Fin 4) (n : Fin 16), s.returnStream = some n → (s.restartClearing.pos.positions[p]).timer
        = if (s.srx[n]).state = .locked ∧ s.stc.straps.role = .venue then FallbackTimer.running s.now
          else (s.pos.positions[p]).timer) := by
  obtain ⟨-, -, stands, timers, stc, -⟩ := s.clearPresence.contextsCleared_items
  rw [State.restartClearing_eq]
  have presence : s.clearPresence.pos = s.pos := by simp
  have returns : s.clearPresence.returnStream = s.returnStream := rfl
  rw [presence] at stands timers
  rw [returns] at timers
  generalize s.clearPresence.contextsCleared = u at *
  have role : u.stc.straps.role = s.stc.straps.role := by rw [stc]; simp
  obtain ⟨tags, position, lamps⟩ := u.clearPositions_panel
  rw [role] at position lamps
  refine ⟨fun i => ?_, fun p => ?_, fun venue p => ?_, fun gallery => lamps (by simp [gallery]), fun p n returned => ?_⟩
  · rw [tags]
    exact replicate_get ..
  · obtain ⟨-, -, -, -, latch⟩ := stands p
    rw [position]
    split <;> exact latch
  · rw [position, if_pos venue]
    exact ⟨rfl, rfl, rfl, rfl⟩
  · rw [position]
    have timer := timers p n returned
    split <;> exact timer

/-- What the clearing of a restart leaves of the streams (R106, R111). -/
theorem State.restartClearing_streams (s : State) :
    (∀ n : Fin 16, s.restartClearing.srx[n] = (s.srx[n]).turnedTo .waiting none)
    ∧ (s.restartClearing.flag .streamUnlocked = true ↔
        s.flag .streamUnlocked = true ∨ ∃ n : Fin 16, (s.srx[n]).state = .locked) := by
  obtain ⟨contexts, unlocked, -⟩ := s.clearPresence.contextsCleared_items
  have srx : s.clearPresence.contextsCleared.clearPositions.srx = s.clearPresence.contextsCleared.srx := by simp
  have svp : s.clearPresence.contextsCleared.clearPositions.svp = s.clearPresence.contextsCleared.svp := by simp
  rw [State.restartClearing_eq, srx, State.flag, svp]
  exact ⟨contexts, unlocked⟩

/-! ## The commands that end a leave -/

/-- Each of them releases ATTACH at its instant (R28 to R30). -/
theorem State.endsLeave.exec_eq {c : Instr} {now : Nat} (h : s.endsLeave c now) :
    exec c s = .next (State.release { s with now := now }) := by
  obtain ⟨leaving, ⟨rfl, rfl, final, repeats, uncut, ⟨since, between⟩, idle⟩ | ⟨rfl, between, start, timer, rfl⟩
    | ⟨rfl, since, cut, rfl⟩⟩ := h
  · have drained : s.rfw.drained = true := by
      rw [Rfw.drained, repeats]
      obtain ⟨k, ready⟩ | gap := between
      · rw [ready]; rfl
      · rw [gap]; rfl
    have due : (s.atc.state == .leaving && s.atc.finalSent && s.rfw.drained && s.rfw.cut.isNone
        && decide (Config.drainIdleRun ≤ s.atc.idleRun)) = true := by
      simp only [leaving, final, drained, uncut, decide_eq_true (show Config.drainIdleRun ≤ s.atc.idleRun from idle)]
      rfl
    show s.takeEvent s.leaveDrainCompleteAt State.release = _
    rw [State.leaveDrainCompleteAt, State.takeEvent_nowIf, if_pos due]
  · have due : s.leaveLimitExpiryAt = some (start + 50 * Config.millisecond) := by
      rw [State.leaveLimitExpiryAt, leaving, timer]
      rfl
    refine (State.takeEvent_due State.leaveLimit due).trans (congrArg Host.Outcome.next ?_)
    rw [State.leaveLimit, if_neg (by simp [between])]
  · have due : s.leaveAbortCompleteAt = some (since + Config.unitTime) := by
      rw [State.leaveAbortCompleteAt, cut]
      rfl
    exact State.takeEvent_due State.release due

/-! ## Where the cause takes the station -/

/-- A release for a conflict (R31). -/
theorem State.release_conflict (cause : s.atc.leaveCause = some .conflict) :
    s.release = { s.letGo with atc := s.atc.released.halt } := by
  obtain ⟨-, -, -, -, -, -, atc, -⟩ := s.letGo_items
  rw [State.release_eq, if_pos cause, atc]
  rfl

/-- A release for a restart (R30, R33). -/
theorem State.release_restart (cause : s.atc.leaveCause ≠ some .conflict) :
    s.release = { s.letGo.restartClearing with atc := { s.atc.released.startHoldoff s.now with state := .joining } } := by
  obtain ⟨-, -, -, -, -, -, atc, -⟩ := s.letGo_items
  rw [State.release_eq, if_neg cause, atc]
  rfl

/-- Whatever the cause, a release tells what letting go does, and of the streams besides. -/
theorem State.release_told (s : State) :
    (∀ k, s.release.counter k = s.letGo.counter k)
    ∧ (∀ f, f ≠ .streamUnlocked → s.release.flag f = s.letGo.flag f) := by
  have told := s.letGo.tells_restartClearing
  by_cases cause : s.atc.leaveCause = some .conflict
  · rw [State.release_conflict cause]
    exact ⟨fun _ => rfl, fun _ _ => rfl⟩
  · rw [State.release_restart cause]
    generalize s.letGo.restartClearing = u at *
    exact ⟨fun k => told.counter_stands (Set.notMem_empty k), fun f other => (told.flag_stands (by simpa using other)).1⟩

/-- An abandoned talk request's position at a venue has its lamp OFF and its tag none (R53, R165). -/
theorem State.release_requests (venue : s.stc.straps.role = .venue) {r : CueReport}
    (lost : r ∈ s.trm.transit.filterMap (·.cue)) (request : r.code = .talkRequest) {p : Fin 4}
    (named : r.position.toNat = p.val) (tag : (s.pos.positions[p]).tag = some r.tag) :
    (s.release.pos.positions[p]).talk = .off ∧ (s.release.pos.positions[p]).tag = none := by
  by_cases cause : s.atc.leaveCause = some .conflict
  · obtain ⟨-, -, -, reports⟩ := s.letGo_told
    obtain ⟨-, -, -, positions⟩ := reports.cuesLost
    rw [State.release_conflict cause]
    show (s.letGo.pos.positions[p]).talk = .off ∧ (s.letGo.pos.positions[p]).tag = none
    rw [(positions venue p).1 ⟨r, lost, request, named, tag⟩]
    exact ⟨rfl, rfl⟩
  · obtain ⟨-, -, cleared, -⟩ := s.letGo.restartClearing_panel
    obtain ⟨-, -, -, -, stc, -⟩ := s.letGo_items
    rw [stc] at cleared
    obtain ⟨-, talk, none, -⟩ := cleared venue p
    rw [State.release_restart cause]
    generalize s.letGo.restartClearing = u at *
    exact ⟨talk, none⟩

end

/-- Settles O20: the leave limit on a frame cuts it off; every other end of a leave releases ATTACH. -/
theorem leaveEndsInRelease : Obligations.LeaveEndsInRelease := by
  refine ⟨fun s timer f since start leaving running sending uncut => ?_, fun s c now ends _ _ within => ?_⟩
  · intro now begins
    have due : s.leaveLimitExpiryAt = some (timer + 50 * Config.millisecond) := by
      rw [State.leaveLimitExpiryAt, leaving, running]
      rfl
    have next : State.nextTxUnit { s with now := now } = start :=
      State.nextTxUnit_sending (s := { s with now := now }) sending begins
    have cut : State.leaveLimit { s with now := now } = { s with
        now := now, atc := { s.atc with leaveTimer := none }, rfw := { s.rfw with cut := some ⟨start, false⟩ } } := by
      rw [State.leaveLimit, if_pos (by rw [Rfw.sending, sending]), next]
      rfl
    refine ⟨_, State.takeEvent_due State.leaveLimit due, cut, ?_⟩
    rw [cut]
    exact State.txUnit_cutOff (s := { s with now := now }) rfl sending sending rfl (by simp [uncut])
  · let v : State := { s with now := now }
    obtain ⟨rfw, rx, inq, trm, stc, -, atc⟩ := v.release_items
    obtain ⟨counter, flag⟩ := v.release_told
    obtain ⟨abandoned, discarded, -, reports⟩ := v.letGo_told
    have rests : v.counter .abandoned ≤ 65535 := within.1 _
    have told := v.tells_release
    have lists : (s.trm.transit.filterMap (·.cue) ≠ []) ↔ ∃ e ∈ s.trm.transit, e.cue.isSome = true := by
      rw [ne_eq, List.filterMap_eq_nil_iff]
      push Not
      simp [Option.isSome_iff_ne_none]
    refine ⟨v.release, ends.exec_eq, by simp [v], ?_, ?_, ?_, trm, rfw, inq, rx, ?_, ?_, ?_, ?_,
      fun venue e mem r report request p named tag => ?_, stc, by simp [v], State.txUnit_idle (by rw [rfw]; rfl)⟩
    · rw [atc]
      split <;> rfl
    · rw [atc]
      split <;> rfl
    · rw [atc]
      split <;> rfl
    · exact (counter _).trans (abandoned rests)
    · exact (counter _).trans (discarded rests)
    · exact told.counter_stands (by simp)
    · rw [flag _ (by simp), reports.flag]
      exact or_congr Iff.rfl lists
    · exact State.release_requests (s := v) venue (List.mem_filterMap.mpr ⟨e, mem, report⟩) request named tag

/-- Settles O21: by the cause of the leave. -/
theorem leaveCauseDecides : Obligations.LeaveCauseDecides := by
  intro s c now ends
  let v : State := { s with now := now }
  obtain ⟨-, -, -, -, stc, pru, -, now_, cap, srx, -⟩ := v.letGo_items
  obtain ⟨-, -, flags, reports⟩ := v.letGo_told
  refine ⟨fun cause => ?_, fun cause => ?_⟩
  · have other : v.atc.leaveCause ≠ some .conflict := by simp [v, cause]
    have step : exec c s = .next _ := ends.exec_eq.trans (congrArg Host.Outcome.next (State.release_restart other))
    obtain ⟨tags, latch, venue, gallery, timer⟩ := v.letGo.restartClearing_panel
    obtain ⟨contexts, unlocked⟩ := v.letGo.restartClearing_streams
    have cleared := v.letGo.restartClearing_pru
    rw [stc] at venue gallery timer
    have same : v.letGo.restartClearing.now = now ∧ v.letGo.restartClearing.cap = s.cap
        ∧ v.letGo.restartClearing.stc = s.stc := by
      simp [now_, cap, stc, v]
    have fallback := fun p : Fin 4 => reports.fallback p
    change exec c s = .next { v.letGo.restartClearing with
      atc := { v.atc.released.startHoldoff now with state := .joining } } at step
    generalize v.letGo.restartClearing = u at *
    obtain ⟨u_now, u_cap, u_stc⟩ := same
    refine ⟨_, step, u_now, rfl, rfl, rfl, rfl, rfl, rfl, fun i => ⟨?_, tags i⟩, fun i => ?_, ?_, fun n => ?_, ?_,
      fun g n image programme p => ?_, fun p => ?_, venue, gallery, u_cap, u_stc⟩
    · rw [cleared]
      exact replicate_get ..
    · rw [cleared]
      exact replicate_get ..
    · rw [cleared, pru]
    · have context := contexts n
      rw [srx] at context
      change u.srx[n] = (s.srx[n]).turnedTo .waiting none at context
      obtain ⟨state, origin⟩ := Context.turnedTo_items .waiting none s.srx[n]
      show (u.srx[n]).state = .waiting ∧ (u.srx[n]).origin = none ∧ _
      rw [context]
      refine ⟨state, origin, fun sound => ?_, fun locked => ?_, fun free => if_neg free⟩
      · by_cases locked : (s.srx[n]).state = .locked
        · rw [Context.turnedTo, if_pos locked]
          rfl
        · obtain ⟨-, -, -, idle⟩ := sound n
          rw [Context.turnedTo, if_neg locked]
          exact (idle locked).1
      · rw [Context.turnedTo, if_pos locked]
        exact Context.unlocked_hasLeft ..
    · rw [flags _ (by simp), srx] at unlocked
      exact unlocked
    · have returned : v.letGo.returnStream = some n := by
        rw [State.returnStream, stc, show v.stc.image = some g from image]
        exact programme
      refine (timer p n returned).trans ?_
      rw [srx, now_, (fallback p).2]
      exact if_congr and_comm rfl rfl
    · exact (latch p).trans (fallback p).1
  · have step : exec c s = .next _ := ends.exec_eq.trans (congrArg Host.Outcome.next (State.release_conflict (s := v) cause))
    exact ⟨_, step, now_, rfl, rfl, rfl, rfl, pru, srx, cap, stc, (reports.past (s := s) rfl rfl rfl).cuesLost⟩

end Sys2Proof.Machine

/-! SUPPORT. A frame of another station, forwarded (R37 to R40). -/

namespace Sys2Proof.Machine

section
variable {s : State}

/-- In LEAVING no copier takes a frame, nor in PROVING the Position Controller one (R37). -/
theorem State.offerToCopier_declines {fr : Frame}
    (h : s.atc.state = .leaving ∨ s.atc.state = .proving ∧ ∃ c, fr = .cue c) : s.offerToCopier fr = (s, false) := by
  cases fr with
  | audio a =>
    obtain leaving | ⟨-, c, other⟩ := h
    · simp [State.offerToCopier, State.offerToSrx, State.inService, leaving]
    · cases other
  | announce a =>
    obtain leaving | ⟨-, c, other⟩ := h
    · simp [State.offerToCopier, State.offerToPru, State.inService, leaving]
    · cases other
  | cue c =>
    have inactive : s.atc.state ≠ .active := by
      obtain leaving | ⟨proving, -⟩ := h
      · simp [leaving]
      · simp [proving]
    exact State.offerToPos_inactive c inactive

end

/-- Settles O16: the copier's answer, then the repeat queue, then the arbiter. -/
theorem othersAreForwarded : Obligations.OthersAreForwarded := by
  intro s f rest fr takes other hops taken offered o
  obtain ⟨arrives, wellFormed, read⟩ := takes
  have same : taken.offerToCopier fr = offered := by cases fr <;> rfl
  have frame := taken.offerToCopier_frame fr
  have trm := taken.offerToCopier_trm fr
  rw [same] at frame trm
  obtain ⟨now, -, atc, rx, rfw, cap, stc, -⟩ := frame
  refine ⟨same, ?_, rfw, rx, by rw [trm], by rw [trm], cap, stc, atc, now, fun declines => ?_⟩
  · have forwards := State.takeFrame_offered (s := taken) read other hops
    have length : (forwarded f.octets offered.2).length = f.octets.length := forwarded_length ..
    have appended : offered.1.appendRepeat (forwarded f.octets offered.2) =
        if (s.rfw.repeats.map List.length).sum + f.octets.length ≤ 4096 then
          { offered.1 with rfw := { s.rfw with repeats := s.rfw.repeats ++ [o] } }
        else (offered.1.countOne .repeatOverflows).raise .repeatOverflow := by
      unfold State.appendRepeat
      rw [length, rfw]
      rfl
    rw [arrives.exec_eq, State.judgeFrame_wellFormed _ wellFormed]
    rw [same, appended] at forwards
    exact congrArg Host.Outcome.next forwards
  · rw [← same]
    exact State.offerToCopier_declines declines

end Sys2Proof.Machine

/-! SUPPORT. Octets read at their offsets, and the verdict on a frame (R8 to R16). -/

namespace Sys2Proof.Machine

/-! ## Octets at an offset -/

theorem octetAt_append_left {a b : List Octet} {i : Nat} (h : i < a.length) : octetAt (a ++ b) i = octetAt a i :=
  List.getD_append _ _ _ _ h

theorem octetAt_append_right (a b : List Octet) (i : Nat) : octetAt (a ++ b) (a.length + i) = octetAt b i := by
  rw [octetAt, List.getD_append_right _ _ _ _ (Nat.le_add_right ..), Nat.add_sub_cancel_left, octetAt]

/-- Every octet but the transit octet stands when that is rewritten (R8). -/
theorem octetAt_rewritten (o : List Octet) (x : Octet) {i : Nat} (other : i ≠ 2) : octetAt (o.set 2 x) i = octetAt o i := by
  rw [octetAt, octetAt, List.getD_eq_getElem?_getD, List.getD_eq_getElem?_getD, List.getElem?_set_ne other.symm]

/-! ## Parts of an octet -/

theorem toNat_fiveBits (x : Octet) : (x.extractLsb' 0 5).toNat = x.toNat % 32 := by simp [BitVec.extractLsb'_toNat]

theorem Format.ofOctet_parts (x : Octet) :
    (Format.ofOctet x).channelCode.toNat = x.toNat % 4 ∧ (Format.ofOctet x).blockCode.toNat = x.toNat / 8 % 4
    ∧ ((Format.ofOctet x).wide = true ↔ x.toNat / 4 % 2 = 1) := by
  refine ⟨?_, ?_, ?_⟩
  · simp [Format.ofOctet, BitVec.extractLsb'_toNat]
  · simp [Format.ofOctet, BitVec.extractLsb'_toNat, Nat.shiftRight_eq_div_pow]
  · have bit : x.getLsbD 2 = decide (x.toNat / 4 % 2 = 1) := by
      rw [← BitVec.testBit_toNat, Nat.testBit_eq_decide_div_mod_eq]
    rw [Format.ofOctet, bit, decide_eq_true_eq]

/-- An address that is no station's is 0 or 31 (R7). -/
theorem originOf_station (o : List Octet) :
    ¬ (originOf o = 0#5 ∨ originOf o = 31#5) ↔ 1 ≤ (octetAt o 1).toNat % 32 ∧ (octetAt o 1).toNat % 32 ≤ 30 := by
  rw [originOf, ← BitVec.toNat_inj, ← BitVec.toNat_inj, toNat_fiveBits]
  have : (octetAt o 1).toNat % 32 < 32 := Nat.mod_lt _ (by decide)
  simp only [BitVec.toNat_ofNat]
  omega

/-- The payload length of a format octet (R10). -/
theorem Format.payloadLength_ofOctet (x : Octet) : (Format.ofOctet x).payloadLength =
    if x.toNat / 8 % 4 = 3 then none
    else some ([24, 48, 96].getD (x.toNat / 8 % 4) 0 * (x.toNat % 4 + 1) * if x.toNat / 4 % 2 = 1 then 3 else 2) := by
  obtain ⟨channels, code, wide⟩ := Format.ofOctet_parts x
  unfold Format.payloadLength Format.channels Format.sampleOctets
  rw [channels, ← code, if_congr wide rfl rfl]
  generalize (Format.ofOctet x).blockCode = b
  generalize (if x.toNat / 4 % 2 = 1 then 3 else 2) = octets
  generalize x.toNat % 4 + 1 = n
  obtain rfl | rfl | rfl | rfl : b = 0#2 ∨ b = 1#2 ∨ b = 2#2 ∨ b = 3#2 := by revert b; decide
  all_goals rfl

/-- The codes of R13. -/
theorem CueCode.ofOctet_none (x : Octet) :
    CueCode.ofOctet x = none ↔ x ∉ [0x01#8, 0x02#8, 0x11#8, 0x12#8, 0x13#8, 0x14#8] := by
  revert x
  decide

/-! ## The verdict -/

/-- The length test of a frame of one of the kinds (R15). -/
theorem lengthForKind_fits {o : List Octet} {n : Nat}
    (known : kindOf o = kindAudio ∨ kindOf o = kindAnnounce ∨ kindOf o = kindCue) :
    lengthForKind o = some n ↔
      (kindOf o = 0x1A#8 → (octetAt o 10).toNat / 8 % 4 ≠ 3 ∧
          n = 15 + [24, 48, 96].getD ((octetAt o 10).toNat / 8 % 4) 0 * ((octetAt o 10).toNat % 4 + 1)
            * (if (octetAt o 10).toNat / 4 % 2 = 1 then 3 else 2))
        ∧ (kindOf o = 0x2C#8 → (octetAt o 22).toNat ≤ 4 ∧ n = 27 + 3 * (octetAt o 22).toNat)
        ∧ (kindOf o = 0x3D#8 → n = 11) := by
  unfold lengthForKind
  obtain kind | kind | kind := known
  · rw [if_pos kind, kind, Format.payloadLength_ofOctet]
    simp only [kindAudio]
    split
    next three => simp [three]
    next code =>
      simp only [Option.map_some, Option.some.injEq]
      simp
      omega
  · rw [if_neg (by rw [kind]; decide), if_pos kind, kind]
    simp only [kindAnnounce]
    split
    next few =>
      simp [few]
      omega
    next many => simp [many]
  · rw [if_neg (by rw [kind]; decide), if_neg (by rw [kind]; decide), kind]
    simp [kindCue, eq_comm]

/-- Settles O14: the six tests, each over the fields it looks at, none of them over the transit octet. -/
theorem framesAreJudged : Obligations.FramesAreJudged := by
  refine ⟨fun o => ?_, fun r outside => if_pos outside, fun o x => ?_⟩
  · intro kind origin checked known code fits cue verdict
    have check : checkMatches o = true ↔ checked := beq_iff_eq
    have station := originOf_station o
    have length (h : known) : lengthForKind o = some o.length ↔ fits := lengthForKind_fits h
    have named : (kindOf o = kindCue ∧ CueCode.ofOctet (octetAt o 4) = none) ↔ ¬ cue := by
      rw [CueCode.ofOctet_none]
      exact Classical.not_imp.symm
    refine ⟨fun outside => if_pos outside, fun least most => ?_⟩
    have within : ¬ (o.length < Config.minFrame ∨ Config.maxFrame < o.length) := by
      simp only [Config.minFrame, Config.maxFrame]
      omega
    have tests : verdict =
        if !checkMatches o then .checkFailure
        else if ¬ (kindOf o = kindAudio ∨ kindOf o = kindAnnounce ∨ kindOf o = kindCue) then .unknownKind
        else if originOf o = 0#5 ∨ originOf o = 31#5 then .checkFailure
        else if lengthForKind o ≠ some o.length then .checkFailure
        else if kindOf o = kindCue ∧ CueCode.ofOctet (octetAt o 4) = none then .unknownKind
        else .wellFormed := if_neg within
    have passed (h : checked) : ¬ (!checkMatches o) = true := by simp [check.mpr h]
    have own (h : 1 ≤ origin) (h' : origin ≤ 30) : ¬ (originOf o = 0#5 ∨ originOf o = 31#5) := station.mpr ⟨h, h'⟩
    refine ⟨fun bad => ?_, fun good unknown => ?_, fun good kinds out => ?_, fun good kinds low high misfit => ?_,
      fun good kinds low high fit other => ?_, fun good kinds low high fit code => ?_⟩ <;> refine tests.trans ?_
    · exact if_pos (by simpa using fun h => bad (check.mp h))
    all_goals refine (if_neg (passed good)).trans ?_
    · exact if_pos unknown
    all_goals refine (if_neg (not_not.mpr kinds)).trans ?_
    · exact if_pos (not_not.mp fun h => out (station.mp h))
    all_goals refine (if_neg (own low high)).trans ?_
    · exact if_pos fun h => misfit ((length kinds).mp h)
    all_goals refine (if_neg (not_not.mpr ((length kinds).mpr fit))).trans ?_
    · exact if_pos (named.mpr other)
    · exact if_neg fun h => named.mp h code
  · have at_ {i : Nat} (h : i ≠ 2) : octetAt (o.set 2 x) i = octetAt o i := octetAt_rewritten o x h
    by_cases outside : o.length < Config.minFrame ∨ Config.maxFrame < o.length
    · exact (if_pos outside).trans (if_pos outside).symm
    have long : 11 ≤ o.length := by
      simp only [Config.minFrame] at outside
      omega
    have check : checkMatches (o.set 2 x) = checkMatches o := by
      have part : frameCheck ((o.set 2 x).take (o.length - 4)) = frameCheck (o.take (o.length - 4)) := by
        rw [List.take_set, frameCheck, List.take_set_of_le (by decide), List.drop_set_of_lt (by decide), ← frameCheck]
      have field : field32 (o.set 2 x) (o.length - 4) = field32 o (o.length - 4) := by
        unfold field32
        rw [at_ (by omega), at_ (by omega), at_ (by omega), at_ (by omega)]
      rw [checkMatches, List.length_set, part, field, checkMatches]
    have kind : kindOf (o.set 2 x) = kindOf o := at_ (by decide)
    have origin : originOf (o.set 2 x) = originOf o := by rw [originOf, at_ (by decide), originOf]
    have length : lengthForKind (o.set 2 x) = lengthForKind o := by
      rw [lengthForKind, kind, at_ (by decide), at_ (by decide), lengthForKind]
    simp only [judge, check, kind, origin, length, at_ (show 4 ≠ 2 by decide)]

end Sys2Proof.Machine

/-! SUPPORT. Own frames as they are sent and read back (R4, R8 to R16). -/

namespace Sys2Proof.Machine

/-! ## Fields read back -/

theorem field16_octets16_append (x : Half) (rest : List Octet) : field16 (octets16 x ++ rest) 0 = x :=
  field16_octets16 [] x

theorem field32_octets32_append (x : Word) (rest : List Octet) : field32 (octets32 x ++ rest) 0 = x :=
  field32_octets32 [] x

/-- A field within the octets from an offset on. -/
theorem octetAt_drop (o : List Octet) (n i : Nat) : octetAt (o.drop n) i = octetAt o (n + i) := by
  simp [octetAt, List.getD_eq_getElem?_getD, List.getElem?_drop]

theorem field16_drop (o : List Octet) (n : Nat) : field16 (o.drop n) 0 = field16 o n := by
  rw [field16, octetAt_drop, octetAt_drop, field16]
  rfl

theorem Format.ofOctet_octet (f : Format) : Format.ofOctet f.octet = f := by
  obtain ⟨channels, wide, code, substituted, talkback⟩ := f
  revert channels wide code substituted talkback
  decide

theorem stateFlagsOf_octet (f : StateFlags) : stateFlagsOf f.octet = f := by
  obtain ⟨closed, loss, leaving⟩ := f
  revert closed loss leaving
  decide

theorem CueCode.ofOctet_octet (c : CueCode) : CueCode.ofOctet c.octet = some c := by cases c <;> rfl

theorem roleOfBit_roleBit (r : Role) : roleOfBit ((0#7 ++ BitVec.ofBool (roleBit r) : BitVec 8).getLsbD 0) = r := by
  cases r <;> rfl

theorem claimOfBit_bit (c : Claim) : claimOfBit ((0#7 ++ BitVec.ofBool c.bit : BitVec 8).getLsbD 0) = c := by
  cases c <;> rfl

/-- A stream list entry reads back (R16). -/
theorem readEntry_octets (e : StreamEntry) (rest : List Octet) : readEntry (e.octets ++ rest) 0 = e := by
  have id : ((0#2 ++ e.id : BitVec 8)).extractLsb' 0 6 = e.id := BitVec.extractLsb'_append_eq_right
  have format := Format.ofOctet_octet e.format
  have claim := claimOfBit_bit e.claim
  show StreamEntry.mk _ (Format.ofOctet e.format.octet) _ = e
  rw [format]
  show StreamEntry.mk ((0#2 ++ e.id : BitVec 8).extractLsb' 0 6) _
    (claimOfBit ((0#7 ++ BitVec.ofBool e.claim.bit : BitVec 8).getLsbD 0)) = e
  rw [id, claim]

theorem readEntry_append (a rest : List Octet) (i : Nat) : readEntry (a ++ rest) (a.length + i) = readEntry rest i := by
  simp only [readEntry, Nat.add_assoc, octetAt_append_right]

/-- A stream list reads back (R16). -/
theorem readEntries_octets (es : List StreamEntry) (rest : List Octet) :
    (List.range es.length).map (fun j => readEntry (es.flatMap StreamEntry.octets ++ rest) (3 * j)) = es := by
  induction es with
  | nil => rfl
  | cons e es ih =>
    have split : (e :: es).flatMap StreamEntry.octets ++ rest
        = e.octets ++ (es.flatMap StreamEntry.octets ++ rest) := by simp
    have later (j : Nat) : readEntry (e.octets ++ (es.flatMap StreamEntry.octets ++ rest)) (3 * (j + 1))
        = readEntry (es.flatMap StreamEntry.octets ++ rest) (3 * j) := by
      rw [show 3 * (j + 1) = e.octets.length + 3 * j by simp only [StreamEntry.octets, List.length_cons, List.length_nil]; omega,
        readEntry_append]
    rw [List.length_cons, List.range_succ_eq_map, List.map_cons, List.map_map, split, readEntry_octets]
    exact congrArg (e :: ·) ((List.map_congr_left fun j _ => later j).trans ih)

/-! ## The kinds -/

theorem Frame.octets_length (f : Frame) : f.octets.length = f.body.length + 4 := by simp [Frame.octets, octets32]

theorem addressOctet_origin (a : Address) : (addressOctet a).extractLsb' 0 5 = a := BitVec.extractLsb'_append_eq_right

/-- The first octets of an own frame (R7, R8). -/
theorem Frame.octets_header (f : Frame) : originOf f.octets = f.origin ∧ octetAt f.octets 2 = startTransit := by
  cases f <;> exact ⟨addressOctet_origin _, rfl⟩

/-- An own frame has its origin's address among the stations' (R7). -/
theorem originOf_own {f : Frame} (low : 1 ≤ f.origin.toNat) (high : f.origin.toNat ≤ 30) :
    originOf f.octets ≠ 0#5 ∧ originOf f.octets ≠ 31#5 := by
  rw [f.octets_header.1]
  exact ⟨fun h => by simp [h] at low, fun h => by simp [h] at high⟩

/-- The payload of a format is never more than a frame holds (R10). -/
theorem Format.payloadLength_le {f : Format} {n : Nat} (h : f.payloadLength = some n) : n ≤ 1152 := by
  obtain ⟨b, -, rfl⟩ := Option.map_eq_some_iff.mp h
  have samples : b.samples ≤ 96 := by cases b <;> decide
  have channels : f.channels ≤ 4 := by
    have := f.channelCode.isLt
    unfold Format.channels
    omega
  have octets : f.sampleOctets ≤ 3 := by
    unfold Format.sampleOctets
    split <;> decide
  calc b.samples * f.channels * f.sampleOctets ≤ 96 * 4 * 3 := Nat.mul_le_mul (Nat.mul_le_mul samples channels) octets
    _ = 1152 := rfl

theorem audio_roundTrip (a : AudioFrame) (low : 1 ≤ a.origin.toNat) (high : a.origin.toNat ≤ 30)
    (payload : a.format.payloadLength = some a.payload.length) :
    judge ⟨(Frame.audio a).octets, (Frame.audio a).octets.length⟩ = .wellFormed
    ∧ readFrame (Frame.audio a).octets = some (.audio a) := by
  have origin := (Frame.audio a).octets_header.1
  have kind : kindOf (Frame.audio a).octets = kindAudio := rfl
  have length : (Frame.audio a).octets.length = 15 + a.payload.length := by
    rw [Frame.octets_length]
    simp [Frame.body, octets16, octets32]
    omega
  have format : Format.ofOctet (octetAt (Frame.audio a).octets 10) = a.format := Format.ofOctet_octet a.format
  have most := Format.payloadLength_le payload
  refine ⟨judge_octets _ _ (by omega) (.inl kind) (originOf_own low high) ?_ fun cue => absurd (kind.symm.trans cue) (by decide), ?_⟩
  · rw [length, lengthForKind, if_pos kind, format, payload, Option.map_some]
    congr 1
    omega
  · have stream : ((octetAt (Frame.audio a).octets 3).extractLsb' 0 6) = a.stream := BitVec.extractLsb'_append_eq_right
    have seq : field16 (Frame.audio a).octets 4 = a.seq := by
      rw [← field16_drop]
      exact field16_octets16_append a.seq _
    have stamp : field32 (Frame.audio a).octets 6 = a.stamp := field32_octets32_append a.stamp []
    have carried : ((Frame.audio a).octets.drop 11).take ((Frame.audio a).octets.length - 15) = a.payload := by
      rw [length, Nat.add_sub_cancel_left]
      exact List.take_left
    rw [readFrame, if_pos kind, readAudio, origin, stream, seq, stamp, format, carried]
    rfl

theorem cue_roundTrip (c : CueFrame) (low : 1 ≤ c.origin.toNat) (high : c.origin.toNat ≤ 30) :
    judge ⟨(Frame.cue c).octets, (Frame.cue c).octets.length⟩ = .wellFormed
    ∧ readFrame (Frame.cue c).octets = some (.cue c) := by
  have origin := (Frame.cue c).octets_header.1
  have kind : kindOf (Frame.cue c).octets = kindCue := rfl
  have length : (Frame.cue c).octets.length = 11 := rfl
  have code : CueCode.ofOctet (octetAt (Frame.cue c).octets 4) = some c.code := c.code.ofOctet_octet
  have destination : (octetAt (Frame.cue c).octets 3).extractLsb' 0 5 = c.destination := addressOctet_origin _
  have position : (octetAt (Frame.cue c).octets 5).extractLsb' 0 4 = c.position := BitVec.extractLsb'_append_eq_right
  refine ⟨judge_octets _ _ (by omega) (.inr (.inr kind)) (originOf_own low high) rfl fun _ => by rw [code]; simp, ?_⟩
  rw [readFrame, kind, if_neg (by decide), if_neg (by decide), if_pos rfl, readCue, code, origin, destination, position]
  rfl

theorem announce_roundTrip (a : AnnounceFrame) (low : 1 ≤ a.origin.toNat) (high : a.origin.toNat ≤ 30)
    (few : a.streams.length ≤ 4) :
    judge ⟨(Frame.announce a).octets, (Frame.announce a).octets.length⟩ = .wellFormed
    ∧ readFrame (Frame.announce a).octets = some (.announce a) := by
  have origin := (Frame.announce a).octets_header.1
  have kind : kindOf (Frame.announce a).octets = kindAnnounce := rfl
  let check := octets32 (frameCheck (Frame.announce a).body)
  let listed := [BitVec.ofNat 8 a.streams.length] ++ (a.streams.flatMap StreamEntry.octets ++ check)
  let after := octets16 a.model ++ (octets16 a.check ++ listed)
  have named : (Frame.announce a).octets.drop 8 = a.name.toList ++ after := by
    simp [Frame.octets, Frame.body, octets16, after, listed, check]
  have name (i : Fin 10) : octetAt (Frame.announce a).octets (8 + i.val) = a.name[i] := by
    rw [← octetAt_drop, named, octetAt_append_left (by simp)]
    simp [octetAt, List.getD_eq_getElem?_getD]
  have from18 : (Frame.announce a).octets.drop 18 = after := by
    rw [show 18 = 8 + 10 from rfl, ← List.drop_drop, named]
    exact List.drop_left' (by simp)
  have model : field16 (Frame.announce a).octets 18 = a.model := by
    rw [← field16_drop, from18]
    exact field16_octets16_append ..
  have from20 : (Frame.announce a).octets.drop 20 = octets16 a.check ++ listed := by
    rw [show 20 = 18 + 2 from rfl, ← List.drop_drop, from18]
    rfl
  have checked : field16 (Frame.announce a).octets 20 = a.check := by
    rw [← field16_drop, from20]
    exact field16_octets16_append ..
  have count : (octetAt (Frame.announce a).octets 22).toNat = a.streams.length := by
    rw [show 22 = 20 + 2 from rfl, ← octetAt_drop, from20]
    show (BitVec.ofNat 8 a.streams.length).toNat = _
    rw [BitVec.toNat_ofNat]
    omega
  have from23 : (Frame.announce a).octets.drop 23 = a.streams.flatMap StreamEntry.octets ++ check := by
    rw [show 23 = 20 + 3 from rfl, ← List.drop_drop, from20]
    rfl
  have entries (j : Nat) : readEntry (Frame.announce a).octets (23 + 3 * j)
      = readEntry (a.streams.flatMap StreamEntry.octets ++ check) (3 * j) := by
    rw [← from23]
    simp only [readEntry, octetAt_drop, Nat.add_assoc]
  have streams := readEntries_octets a.streams check
  have length : (Frame.announce a).octets.length = 27 + 3 * a.streams.length := by
    have each : (a.streams.flatMap StreamEntry.octets).length = 3 * a.streams.length := by
      simp [List.length_flatMap, StreamEntry.octets, Nat.mul_comm]
    rw [Frame.octets_length]
    simp [Frame.body, octets16, each]
    omega
  refine ⟨judge_octets _ _ (by omega) (.inr (.inl kind)) (originOf_own low high) ?_
    fun cue => absurd (kind.symm.trans cue) (by decide), ?_⟩
  · rw [length, lengthForKind, kind, if_neg (by decide), if_pos rfl, count, if_pos few]
    congr 1
    omega
  · have role : roleOfBit ((octetAt (Frame.announce a).octets 4).getLsbD 0) = a.role := roleOfBit_roleBit a.role
    have period : field16 (Frame.announce a).octets 5 = a.period := by
      rw [← field16_drop]
      exact field16_octets16_append a.period _
    have flags : stateFlagsOf (octetAt (Frame.announce a).octets 7) = a.flags := stateFlagsOf_octet a.flags
    have seq : octetAt (Frame.announce a).octets 3 = a.seq := rfl
    rw [readFrame, kind, if_neg (by decide), if_pos rfl, readAnnounce, origin, role, period, flags, model, checked, count,
      seq]
    simp only [name, entries, streams]
    congr
    ext i hi
    simp

/-- Settles O15: by the kind of the frame, field by field at its offset. -/
theorem ownFrameRoundTrip : Obligations.OwnFrameRoundTrip := by
  intro f low high audio announce
  have transit := f.octets_header.2
  have hops : hopsOf f.octets = 31#5 := by rw [hopsOf, transit]; decide
  have copied : copiedOf f.octets = false := by rw [copiedOf, transit]; decide
  cases f with
  | audio a =>
    obtain ⟨judged, read⟩ := audio_roundTrip a low high (audio a rfl)
    exact ⟨judged, read, hops, copied⟩
  | announce a =>
    obtain ⟨judged, read⟩ := announce_roundTrip a low high (announce a rfl)
    exact ⟨judged, read, hops, copied⟩
  | cue c =>
    obtain ⟨judged, read⟩ := cue_roundTrip c low high
    exact ⟨judged, read, hops, copied⟩

end Sys2Proof.Machine

/-! SUPPORT. Announces recorded and peers expired, with what the claims and claimants make of them (R72 to R83). -/

namespace Sys2Proof.Machine

/-! ## What the moves of claims and claimants look at -/

/-- Two states agree on the claims, the contexts and what their moves report. -/
structure State.ClaimItems (s t : State) : Prop where
  claims : t.pru.claims = s.pru.claims
  reported : t.pru.reported = s.pru.reported
  seq : t.pru.seq = s.pru.seq
  heard : t.trm.heard = s.trm.heard
  inq : t.inq = s.inq
  srx : t.srx = s.srx
  stc : t.stc = s.stc
  atc : t.atc = s.atc
  flags : ∀ f ∈ claimFlags, t.flag f = s.flag f
  timers : ∀ p : Fin 4, (t.pos.positions[p]).timer = (s.pos.positions[p]).timer

section
variable {s t u v : State} {g : Image}

theorem State.ClaimItems.refl (s : State) : State.ClaimItems s s :=
  ⟨rfl, rfl, rfl, rfl, rfl, rfl, rfl, rfl, fun _ _ => rfl, fun _ => rfl⟩

theorem State.ClaimItems.trans (h : State.ClaimItems s t) (k : State.ClaimItems t u) : State.ClaimItems s u where
  claims := k.claims.trans h.claims
  reported := k.reported.trans h.reported
  seq := k.seq.trans h.seq
  heard := k.heard.trans h.heard
  inq := k.inq.trans h.inq
  srx := k.srx.trans h.srx
  stc := k.stc.trans h.stc
  atc := k.atc.trans h.atc
  flags f claim := (k.flags f claim).trans (h.flags f claim)
  timers p := (k.timers p).trans (h.timers p)

/-- The moves of the claims are of these items and the table after them. -/
theorem State.claimsMove_congr (h : State.claimsMove g u v) (before : State.ClaimItems s u)
    (after : State.ClaimItems v t) (peers : t.pru.peers = v.pru.peers) : State.claimsMove g s t := by
  obtain ⟨claims, yields, resumes, heard, offers⟩ := h
  have address : u.address = s.address := by rw [State.address, before.stc, State.address]
  have service : u.inService = s.inService := by rw [State.inService, before.atc, State.inService]
  refine ⟨fun i => ?_, ?_, ?_, fun i => ?_, ?_⟩
  · rw [after.claims, claims i]
    simp only [Pru.lowerLists, Pru.listedAt, peers, address]
  · rw [after.flags _ (by simp), yields, after.claims, before.claims, before.flags _ (by simp)]
  · rw [after.flags _ (by simp), resumes, after.claims, before.claims, before.flags _ (by simp)]
  · rw [after.heard, heard i, after.claims, before.claims, before.heard]
  · rw [after.claims, after.seq, after.inq]
    rw [before.claims, before.seq, before.inq, service, address] at offers
    exact offers

/-- The moves of the claimants are of these items and the table after them. -/
theorem State.claimantsMove_congr (h : State.claimantsMove g u v) (before : State.ClaimItems s u)
    (after : State.ClaimItems v t) (peers : t.pru.peers = v.pru.peers) (now : t.now = v.now) :
    State.claimantsMove g s t := by
  intro n sub used
  obtain ⟨reported, stays, turns, leaves⟩ := h n sub used
  rw [before.srx, before.reported] at stays turns leaves
  rw [before.stc] at leaves
  dsimp only
  rw [Pru.claimant_congr peers, after.reported, after.srx, after.flags _ (by simp)]
  refine ⟨reported, stays, turns, fun moved locked => ?_⟩
  obtain ⟨told, left, timers⟩ := leaves moved locked
  exact ⟨told, left, fun venue returns p => by rw [after.timers, now]; exact timers venue returns p⟩

/-- Where the table lists every ID as it did, sound claims and claimants have nothing to move (R79 to R82). -/
theorem State.moves_of_listed (image : s.stc.image = some g) (sound : s.claimsSound) (same : State.ClaimItems s t)
    (listed : ∀ id j, t.pru.listedAt id j = s.pru.listedAt id j) : State.claimsMove g s t ∧ State.claimantsMove g s t := by
  obtain ⟨claims, claimants, -⟩ := sound.1 g image
  have none (c d : Claim) (h : c ≠ d) : ¬ ∃ i : Fin 4, s.pru.claims[i] = c ∧ s.pru.claims[i] = d :=
    fun ⟨i, one, other⟩ => h (one.symm.trans other)
  refine ⟨⟨fun i => ?_, ?_, ?_, fun i => ?_, ?_⟩, fun n sub used => ?_⟩
  · rw [same.claims, claims i]
    simp only [Pru.lowerLists, listed]
  · rw [same.flags _ (by simp), same.claims]
    exact (or_iff_left (none .held .yielded (by decide))).symm
  · rw [same.flags _ (by simp), same.claims]
    exact (or_iff_left (none .yielded .held (by decide))).symm
  · rw [same.heard, same.claims, if_neg]
    rintro ⟨held, yielded⟩
    simp [held] at yielded
  · rw [if_neg (by simp [same.claims])]
    exact ⟨same.seq, same.inq⟩
  · obtain ⟨reported, -⟩ := claimants n sub used
    have claimant : t.pru.claimant sub.id = s.pru.claimant sub.id := by
      rw [Pru.claimant, Pru.claimant, funext (listed sub.id)]
    dsimp only
    rw [claimant, same.reported, same.srx, reported]
    exact ⟨rfl, fun _ => rfl, fun moved => absurd rfl moved, fun moved => absurd rfl moved⟩

/-! ## A departure at the panel -/

/-- What a departure does at the panel (R83, R166, R168, R175). -/
theorem State.peerDeparted_panel (image : s.stc.image = some g) (i : Fin 30) :
    (s.peerDeparted i).pos.lastTags = s.pos.lastTags.set i.val none i.isLt
    ∧ (∀ p : Fin 4, (s.peerDeparted i).pos.positions[p]
        = if s.stc.straps.role = .venue ∧ g.gallery = addressAt i then (s.pos.positions[p]).galleryGone.judged
          else s.pos.positions[p])
    ∧ (¬ (s.stc.straps.role = .venue ∧ g.gallery = addressAt i) → (s.peerDeparted i).pos.positions = s.pos.positions)
    ∧ (s.peerDeparted i).pos.lamps
        = if s.stc.straps.role = .venue then s.pos.lamps else s.pos.lamps &&& ~~~(g.lampsOf (addressAt i) none) := by
  have role : (s.withPos { s.pos with lastTags := modifyAt s.pos.lastTags i fun _ => none }).venue = true
      ↔ s.stc.straps.role = .venue := State.venue_eq_true
  have loaded : (s.withPos { s.pos with lastTags := modifyAt s.pos.lastTags i fun _ => none }).stc.image = some g := image
  unfold State.peerDeparted
  dsimp only
  rw [loaded]
  dsimp only
  by_cases venue : s.stc.straps.role = .venue
  · rw [if_pos (role.mpr venue), if_pos venue]
    by_cases gallery : g.gallery = addressAt i
    · rw [if_pos gallery]
      exact ⟨rfl, fun p => (mapAll_get ..).trans (if_pos ⟨venue, gallery⟩).symm, fun away => absurd ⟨venue, gallery⟩ away, rfl⟩
    · rw [if_neg gallery]
      exact ⟨rfl, fun p => (if_neg fun both => gallery both.2).symm, fun _ => rfl, rfl⟩
  · rw [if_neg fun h => venue (role.mp h), if_neg venue]
    exact ⟨rfl, fun p => (if_neg fun both => venue both.1).symm, fun _ => rfl, rfl⟩

/-- A lamp mapped to no venue that departs stands, and one mapped to it goes OFF (R175). -/
theorem Image.lampsOf_departed (g : Image) (venue : Address) (lamps : BitVec 16) (l : Fin 16) :
    (lamps &&& ~~~(g.lampsOf venue none)).getLsbD l.val
      = (lamps.getLsbD l.val && !(g.lamps[l]).any fun v => v.1 == venue) := by
  have named : (g.lampsOf venue none).getLsbD l.val = (g.lamps[l]).any fun v => v.1 == venue := by
    refine Bool.eq_iff_iff.mpr ((g.getLsbD_lampsOf venue none l).trans ?_)
    cases lamp : g.lamps[l] with
    | none => simp [Image.mapsLamp, lamp]
    | some v =>
      obtain ⟨address, q⟩ := v
      simp [Image.mapsLamp, lamp]
  rw [BitVec.getLsbD_and, BitVec.getLsbD_not, named]
  simp

/-- Neither a resolution nor a departure touches the table (R79, R83). -/
theorem State.resolveClaims_peers (s : State) : s.resolveClaims.pru.peers = s.pru.peers := by
  cases image : s.stc.image with
  | none => simp [State.resolveClaims, image]
  | some g => rw [State.resolveClaims_pru image]

theorem State.departure_peers (s : State) (i : Fin 30) : (s.departure i).pru.peers = s.pru.peers := by
  have last : (s.departure i).pru = (s.raise .peerExpired).resolveClaims.pru := by simp [State.departure]
  rw [last, State.resolveClaims_peers]
  rfl

/-- The departure of a peer, its claims resolved first (R76, R77, R83). -/
theorem State.departure_items (image : s.stc.image = some g) (i : Fin 30) :
    State.claimsMove g s (s.departure i) ∧ State.claimantsMove g s (s.departure i)
    ∧ State.departureAtPanel g i s (s.departure i)
    ∧ (s.stc.straps.role = .venue → g.gallery ≠ addressAt i → (∀ n, s.returnStream ≠ some n) →
        (s.departure i).pos.positions = s.pos.positions)
    ∧ (s.departure i).flag .peerExpired = true := by
  let u := s.raise .peerExpired
  have told : State.ClaimItems s u := { State.ClaimItems.refl s with
    flags := fun f claim => (s.flag_raise .peerExpired f).trans (by
      obtain rfl | rfl | rfl := claim <;> simp) }
  have moved : u.resolveClaims.stc.image = some g := by
    rw [show u.resolveClaims.stc = s.stc by simp [u], image]
  obtain ⟨stands, quiet, panel⟩ := State.resolveClaims_panel (s := u) image
  obtain ⟨tags, positions, others, lamps⟩ := State.peerDeparted_panel (s := u.resolveClaims) moved i
  have role : u.resolveClaims.stc.straps.role = s.stc.straps.role := by simp [u]
  rw [role] at positions others lamps
  have svp : (u.resolveClaims.peerDeparted i).svp = u.resolveClaims.svp := by simp
  have gone : State.ClaimItems u.resolveClaims (u.resolveClaims.peerDeparted i) := {
    claims := by simp
    reported := by simp
    seq := by simp
    heard := by simp
    inq := by simp
    srx := by simp
    stc := by simp
    atc := by simp
    flags := fun f _ => by rw [State.flag, svp, State.flag]
    timers := fun p => by rw [positions]; split <;> rfl }
  have peers : (u.resolveClaims.peerDeparted i).pru.peers = u.resolveClaims.pru.peers := by simp
  have departed : s.departure i = u.resolveClaims.peerDeparted i := rfl
  rw [departed]
  refine ⟨State.claimsMove_congr (State.resolveClaims_claimsMove (s := u) image) told gone peers,
    State.claimantsMove_congr (State.resolveClaims_claimantsMove (s := u) image) told gone peers (by simp),
    ⟨?_, fun venue => ?_, fun venue gallery p => ?_, fun other p => ?_, fun gallery l => ?_⟩,
    fun venue other none => ?_, ?_⟩
  · rw [tags, panel]
    rfl
  · rw [lamps, if_pos venue, panel]
    rfl
  · obtain ⟨-, -, -, -, latch⟩ := stands p
    rw [positions, if_pos ⟨venue, gallery⟩]
    exact ⟨rfl, rfl, rfl, rfl, latch⟩
  · rw [positions, if_neg]
    · exact stands p
    · rintro ⟨venue, gallery⟩
      obtain gallery' | away := other
      · rw [gallery'] at venue
        cases venue
      · exact away gallery
  · rw [lamps, if_neg (by simp [gallery]), panel]
    exact g.lampsOf_departed (addressAt i) s.pos.lamps l
  · rw [others fun both => other both.2, quiet none]
    rfl
  · have raised : u.flag .peerExpired = true := by simp [u, State.flag_raise]
    rw [State.flag, svp]
    exact u.tells_resolveClaims.flag_kept raised

/-- The arbiter's choice leaves the claims (R44). -/
theorem State.claimItems_decideStart (s : State) : State.ClaimItems s s.decideStart := by
  rw [State.decideStart_same]
  exact ⟨rfl, rfl, rfl, rfl, rfl, rfl, rfl, rfl, fun _ _ => rfl, fun _ => rfl⟩

end

/-- Settles O30: at the instant of the command the entry becomes ABSENT, and its departure is acted on. -/
theorem silentPeersExpire : Obligations.SilentPeersExpire := by
  intro s g i attached free image present short limit
  let old := s.pru.peers[i]
  have due : s.peerExpiryAt i = some (s.ageInstant old.lastTime (3 * old.period * 1000)) := by
    rw [State.peerExpiryAt, attached, present]
    rfl
  have place : placeOf (i.val + 1) = some i := dif_pos (by omega)
  have taken : exec (.peerExpiry (i.val + 1)) s
      = .next (State.expirePeer { s with now := max s.now (s.ageInstant old.lastTime (3 * old.period * 1000)) } i) := by
    show execPeerExpiry (i.val + 1) s = _
    rw [execPeerExpiry, place]
    exact State.takeEvent_due (·.expirePeer i) due
  have bound : limit = ((3 * old.period * 1000 : Nat) : Int) := by push_cast; rfl
  have reached (h : signedDiff s.ringTime old.lastTime ≤ limit) :=
    State.ageInstant_reached free (start := old.lastTime) (us := 3 * old.period * 1000)
      (by have : old.period ≤ 250 := short; omega) (by omega)
  have past (h : limit < signedDiff s.ringTime old.lastTime) :
      max s.now (s.ageInstant old.lastTime (3 * old.period * 1000)) = s.now := by
    rw [State.ageInstant_past (by omega), max_self]
  generalize max s.now (s.ageInstant old.lastTime (3 * old.period * 1000)) = n at *
  let u : State := State.setPeer { s with now := n } i { old with present := false }
  let v : State := u.departure i
  have t_eq : State.expirePeer { s with now := n } i = v.decideStart := rfl
  rw [t_eq] at taken
  have before : State.ClaimItems s u := ⟨rfl, rfl, rfl, rfl, rfl, rfl, rfl, rfl, fun _ _ => rfl, fun _ => rfl⟩
  have after := v.claimItems_decideStart
  have now : v.decideStart.now = n := by simp [v, u]
  have stc : v.decideStart.stc = s.stc := by simp [v, u]
  have released : v.decideStart.releasedAt = s.releasedAt := by simp [v, u]
  have rfw : v.rfw = s.rfw := by simp [v, u]
  have acts := v.decideStart_acts
  obtain ⟨claims, claimants, panel, quiet, raised⟩ := State.departure_items (s := u) image i
  have peers : v.pru.peers = u.pru.peers := u.departure_peers i
  have pos : v.decideStart.pos = v.pos := by simp
  have pru : v.decideStart.pru = v.pru := by simp
  refine ⟨_, taken, fun h => ?_, fun h => ?_, ?_, ?_, by rw [State.departureAtPanel, pos]; exact panel, fun venue other none => ?_,
    State.claimsMove_congr claims before after (by rw [pru]),
    State.claimantsMove_congr claimants before after (by rw [pru]) (by simp [v]), by simp [v, u], rfw ▸ acts, ?_, by simp [v, u], stc⟩
  · rw [State.ringTime, now, stc, released, bound, ← reached h]
    rfl
  · rw [now, past h]
  · rw [pru, peers]
    rfl
  · rw [State.flag_decideStart]
    exact raised
  · rw [pos]
    exact quiet venue other none
  · simp [v, u, State.departure_transit]

section
variable {s t u v : State} {g : Image}

/-! ## An announce taken -/

/-- A resolution of claims leaves the lamps, talk requests, talkback and latches (R170). -/
theorem State.resolveClaims_stands (s : State) :
    s.resolveClaims.pos.lastTags = s.pos.lastTags ∧ s.resolveClaims.pos.lamps = s.pos.lamps
    ∧ ∀ p : Fin 4, (s.pos.positions[p]).stands s.resolveClaims.pos.positions[p] := by
  cases image : s.stc.image with
  | none =>
    rw [State.resolveClaims, image]
    exact ⟨rfl, rfl, fun p => Position.stands_refl _⟩
  | some g =>
    obtain ⟨stands, -, panel⟩ := State.resolveClaims_panel image
    exact ⟨by rw [panel], by rw [panel], stands⟩

/-- What an accepted announce makes of the table, the reports, the claims and the panel (R72 to R83). -/
structure State.Records (a : AnnounceFrame) (i : Fin 30) (old : Peer) (s v : State) : Prop where
  peers : v.pru.peers = s.pru.peers.set i.val (a.peer (!a.flags.leaving) s.ringTime) i.isLt
  arrived : v.flag .peerArrived = true ↔
    s.flag .peerArrived = true ∨ old.present = false ∧ a.flags.leaving = false
  expired : v.flag .peerExpired = true ↔
    s.flag .peerExpired = true ∨ old.present = true ∧ a.flags.leaving = true
  missed : v.counter .announcesMissed
    = if old.present = true ∧ a.flags.leaving = false then
        min 65535 (s.counter .announcesMissed + (a.seq - old.lastSeq - 1).toNat)
      else s.counter .announcesMissed
  moves (g : Image) : s.stc.image = some g → s.claimsSound → State.claimsMove g s v ∧ State.claimantsMove g s v
  departs (g : Image) : s.stc.image = some g → old.present = true → a.flags.leaving = true →
    State.departureAtPanel g i s v
  stands : old.present = false ∨ a.flags.leaving = false →
    v.pos.lastTags = s.pos.lastTags ∧ v.pos.lamps = s.pos.lamps
    ∧ ∀ p : Fin 4, (s.pos.positions[p]).stands v.pos.positions[p]

/-- An entry replaced touches no other item (R72). -/
theorem State.claimItems_setPeer (s : State) (i : Fin 30) (p : Peer) : State.ClaimItems s (s.setPeer i p) :=
  ⟨rfl, rfl, rfl, rfl, rfl, rfl, rfl, rfl, fun _ _ => rfl, fun _ => rfl⟩

/-- A resolution after the table has changed moves the claims and claimants from where they were (R79 to R82). -/
theorem State.moves_of_resolved (image : s.stc.image = some g) (before : State.ClaimItems s u) :
    State.claimsMove g s u.resolveClaims ∧ State.claimantsMove g s u.resolveClaims := by
  have loaded : u.stc.image = some g := by rw [before.stc, image]
  exact ⟨State.claimsMove_congr (State.resolveClaims_claimsMove loaded) before (.refl _) rfl,
    State.claimantsMove_congr (State.resolveClaims_claimantsMove loaded) before (.refl _) rfl rfl⟩

/-- A leaving announce of a PRESENT peer (R76, R83). -/
theorem State.records_departure {a : AnnounceFrame} {i : Fin 30} {old : Peer} (leaving : a.flags.leaving = true)
    (present : old.present = true) :
    State.Records a i old s ((s.setPeer i (a.peer (!a.flags.leaving) s.ringTime)).departure i) := by
  let n := s.setPeer i (a.peer (!a.flags.leaving) s.ringTime)
  have told := n.tells_departure i
  have before := s.claimItems_setPeer i (a.peer (!a.flags.leaving) s.ringTime)
  have stays : ¬ a.flags.leaving = false := by simp [leaving]
  have raised : (n.departure i).flag .peerExpired = true := by
    have resolved := (n.raise .peerExpired).tells_resolveClaims.flag_kept (f := .peerExpired) (by simp [State.flag_raise])
    rwa [State.flag, show (n.departure i).svp = (n.raise .peerExpired).resolveClaims.svp by simp [State.departure]]
  exact {
    peers := n.departure_peers i
    arrived := by
      rw [(told.flag_stands (f := .peerArrived) (by simp)).1]
      simp [leaving, n, State.flag]
    expired := iff_of_true raised (.inr ⟨present, leaving⟩)
    missed := by
      rw [told.counter_stands (by simp), if_neg fun both => stays both.2]
      rfl
    moves := fun g image _ => by
      obtain ⟨claims, claimants, -⟩ := State.departure_items (s := n) image i
      exact ⟨State.claimsMove_congr claims before (.refl _) rfl, State.claimantsMove_congr claimants before (.refl _) rfl rfl⟩
    departs := fun g image _ _ => by
      obtain ⟨-, -, panel, -⟩ := State.departure_items (s := n) image i
      exact panel
    stands := fun either => absurd present (by simpa [leaving] using either) }

/-- A leaving announce of a peer that is ABSENT (R76). -/
theorem State.records_absent {a : AnnounceFrame} {i : Fin 30} {old : Peer} (entry : s.pru.peers[i] = old) (leaving : a.flags.leaving = true)
    (absent : old.present = false) :
    State.Records a i old s (s.setPeer i (a.peer (!a.flags.leaving) s.ringTime)) := by
  have listed (id : StreamId) (j : Fin 30) :
      (s.setPeer i (a.peer (!a.flags.leaving) s.ringTime)).pru.listedAt id j = s.pru.listedAt id j := by
    have table : (s.setPeer i (a.peer (!a.flags.leaving) s.ringTime)).pru.peers[j]
        = if j = i then a.peer (!a.flags.leaving) s.ringTime else s.pru.peers[j] := modifyAt_get ..
    rw [Pru.listedAt, table, Pru.listedAt]
    split
    next same =>
      rw [same, entry, absent, leaving]
      rfl
    next => rfl
  exact {
    peers := rfl
    arrived := by simp [leaving, State.flag]
    expired := by simp [absent, State.flag]
    missed := by simp [absent, State.counter]
    moves := fun g image sound => State.moves_of_listed image sound (s.claimItems_setPeer i _) listed
    departs := fun g image present => absurd present (by simp [absent])
    stands := fun _ => ⟨rfl, rfl, fun p => Position.stands_refl _⟩ }

/-- An announce of a PRESENT peer that stays (R74, R75). -/
theorem State.records_present {a : AnnounceFrame} {i : Fin 30} {old : Peer} (entry : s.pru.peers[i] = old) (stays : a.flags.leaving = false)
    (present : old.present = true) :
    let n := (s.setPeer i (a.peer (!a.flags.leaving) s.ringTime)).countBy .announcesMissed
      (a.seq - old.lastSeq - 1).toNat
    State.Records a i old s (if old.streams = onceEach a.streams then n else n.resolveClaims) := by
  intro n
  have before : State.ClaimItems s n := ⟨rfl, rfl, rfl, rfl, rfl, rfl, rfl, rfl, fun _ _ => rfl, fun _ => rfl⟩
  have counted : n.counter .announcesMissed
      = min 65535 (s.counter .announcesMissed + (a.seq - old.lastSeq - 1).toNat) :=
    (State.counter_countBy ..).trans (if_pos rfl)
  have flags (f : EventFlag) : n.flag f = s.flag f := rfl
  have told := n.tells_resolveClaims
  obtain ⟨tags, lamps, stands⟩ := n.resolveClaims_stands
  split
  next same =>
    have listed (id : StreamId) (j : Fin 30) : n.pru.listedAt id j = s.pru.listedAt id j := by
      have table : n.pru.peers[j] = if j = i then a.peer (!a.flags.leaving) s.ringTime else s.pru.peers[j] :=
        modifyAt_get ..
      rw [Pru.listedAt, table, Pru.listedAt]
      split
      next here =>
        rw [here, entry, present, Peer.lists, Peer.lists, same, stays]
        rfl
      next => rfl
    exact {
      peers := rfl
      arrived := by simp [present, flags]
      expired := by simp [stays, flags]
      missed := counted.trans (if_pos ⟨present, stays⟩).symm
      moves := fun g image sound => State.moves_of_listed image sound before listed
      departs := fun g image _ leaves => absurd leaves (by simp [stays])
      stands := fun _ => ⟨rfl, rfl, fun p => Position.stands_refl _⟩ }
  next =>
    exact {
      peers := n.resolveClaims_peers
      arrived := by
        rw [(told.flag_stands (f := .peerArrived) (by simp)).1]
        simp [present, flags]
      expired := by
        rw [(told.flag_stands (f := .peerExpired) (by simp)).1]
        simp [stays, flags]
      missed := (told.counter_stands (by simp)).trans (counted.trans (if_pos ⟨present, stays⟩).symm)
      moves := fun g image _ => State.moves_of_resolved image before
      departs := fun g image _ leaves => absurd leaves (by simp [stays])
      stands := fun _ => ⟨tags, lamps, stands⟩ }

/-- The first announce of a peer that was ABSENT (R74). -/
theorem State.records_arrival {a : AnnounceFrame} {i : Fin 30} {old : Peer} (stays : a.flags.leaving = false)
    (absent : old.present = false) :
    State.Records a i old s ((s.setPeer i (a.peer (!a.flags.leaving) s.ringTime)).raise .peerArrived).resolveClaims := by
  let n := (s.setPeer i (a.peer (!a.flags.leaving) s.ringTime)).raise .peerArrived
  have before : State.ClaimItems s n := ⟨rfl, rfl, rfl, rfl, rfl, rfl, rfl, rfl,
    fun f claim => (State.flag_raise _ .peerArrived f).trans (by obtain rfl | rfl | rfl := claim <;> simp [State.flag]),
    fun _ => rfl⟩
  have flags (f : EventFlag) : n.flag f = (decide (f = .peerArrived) || s.flag f) := State.flag_raise ..
  have counter (k : Counter) : n.counter k = s.counter k := rfl
  have told := n.tells_resolveClaims
  obtain ⟨tags, lamps, stands⟩ := n.resolveClaims_stands
  exact {
    peers := n.resolveClaims_peers
    arrived := iff_of_true (told.flag_kept (by simp [flags])) (.inr ⟨absent, stays⟩)
    expired := by
      rw [(told.flag_stands (f := .peerExpired) (by simp)).1]
      simp [stays, flags]
    missed := (told.counter_stands (by simp)).trans (by simp [absent, counter])
    moves := fun g image _ => State.moves_of_resolved image before
    departs := fun g image present => absurd present (by simp [absent])
    stands := fun _ => ⟨tags, lamps, stands⟩ }

theorem State.records_takeAnnounce (s : State) (a : AnnounceFrame) (i : Fin 30) :
    State.Records a i s.pru.peers[i] s (s.takeAnnounce a i) := by
  unfold State.takeAnnounce
  dsimp only
  generalize entry : s.pru.peers[i] = old
  cases leaving : a.flags.leaving with
  | false =>
    rw [if_neg (by simp)]
    cases present : old.present with
    | false =>
      rw [if_neg (by simp)]
      simpa [leaving] using State.records_arrival (s := s) leaving present
    | true =>
      rw [if_pos rfl]
      simpa [leaving] using State.records_present entry leaving present
  | true =>
    rw [if_pos rfl]
    cases present : old.present with
    | false =>
      rw [if_neg (by simp)]
      simpa [leaving] using State.records_absent entry leaving present
    | true =>
      rw [if_pos rfl]
      simpa [leaving] using State.records_departure (s := s) leaving present

end

/-- A stream list that names no ID twice is taken as it stands (R73). -/
theorem onceEachAfter_nodup (es : List StreamEntry) (seen : List StreamId) (once : (es.map (·.id)).Nodup)
    (fresh : ∀ e ∈ es, e.id ∉ seen) : onceEachAfter seen es = es := by
  induction es generalizing seen with
  | nil => rfl
  | cons e es ih =>
    rw [List.map_cons, List.nodup_cons] at once
    obtain ⟨first, later⟩ := once
    rw [onceEachAfter, if_neg (fresh e List.mem_cons_self), ih (e.id :: seen) later]
    intro x mem
    rw [List.mem_cons, not_or]
    exact ⟨fun same => first (same ▸ List.mem_map_of_mem mem), fresh x (List.mem_cons_of_mem _ mem)⟩

/-- What joining the repeat queue leaves of what an announce is recorded by (R38 to R40). -/
theorem State.appendRepeat_records (s : State) (o : List Octet) :
    State.ClaimItems s (s.appendRepeat o) ∧ (s.appendRepeat o).pru = s.pru ∧ (s.appendRepeat o).pos = s.pos
    ∧ (s.appendRepeat o).now = s.now ∧ State.Tells {.repeatOverflow} {.repeatOverflows} s (s.appendRepeat o) := by
  have told : State.Tells {.repeatOverflow} {.repeatOverflows} s (s.appendRepeat o) := s.tells_appendRepeat o
  have pos : (s.appendRepeat o).pos = s.pos := by simp
  have pru : (s.appendRepeat o).pru = s.pru := by simp
  exact ⟨⟨by rw [pru], by rw [pru], by rw [pru], by simp, by simp, by simp, by simp, by simp,
    fun f claim => (told.flag_stands (by obtain rfl | rfl | rfl := claim <;> simp)).1, fun p => by rw [pos]⟩, pru, pos,
    by simp, told⟩

/-- Settles O29: the Presence Unit takes the announce, and the frame goes on with its copied flag set. -/
theorem announcesAreRecorded : Obligations.AnnouncesAreRecorded := by
  intro s f rest a i takes service other place hops old
  obtain ⟨arrives, wellFormed, read⟩ := takes
  let v0 : State := { s with rx := { s.rx with closed := rest } }
  let v : State := v0.takeAnnounce a i
  let w : State := v.appendRepeat (forwarded f.octets true)
  have found : placeOf a.origin.toNat = some i := by rw [← place]; exact placeOf_addressAt i
  have offered : v0.offerToCopier (.announce a) = (v, true) := by
    have service0 : v0.inService = true := service
    simp only [State.offerToCopier, State.offerToPru, service0, found]
    rfl
  have taken : exec .frameArrival s = .next w.decideStart := by
    have forwards := State.takeFrame_offered (s := v0) read other hops
    rw [arrives.exec_eq, State.judgeFrame_wellFormed _ wellFormed]
    rw [offered] at forwards
    exact congrArg Host.Outcome.next forwards
  have records : State.Records a i old s v := by
    have at0 := v0.records_takeAnnounce a i
    exact { at0 with }
  obtain ⟨items, pru, pos, now, told⟩ := v.appendRepeat_records (forwarded f.octets true)
  have last := items.trans w.claimItems_decideStart
  have flag (e : EventFlag) (h : e ≠ .repeatOverflow) : w.decideStart.flag e = v.flag e := by
    rw [State.flag_decideStart]
    exact (told.flag_stands (by simpa using h)).1
  have counter : w.decideStart.counter .announcesMissed = v.counter .announcesMissed := by
    have svp : w.decideStart.svp = w.svp := by simp
    rw [State.counter, svp]
    exact told.counter_stands (by simp)
  have t_pos : w.decideStart.pos = v.pos := by rw [show w.decideStart.pos = w.pos by simp, pos]
  have t_pru : w.decideStart.pru = v.pru := by rw [show w.decideStart.pru = w.pru by simp, pru]
  have t_now : w.decideStart.now = v.now := by rw [show w.decideStart.now = w.now by simp, now]
  refine ⟨_, taken, ?_, fun once => onceEachAfter_nodup _ _ once (by simp), ?_, ?_, ?_, fun room => ?_, fun g image sound => ?_,
    fun g image present leaving => ?_, fun either => ?_, by simp [w, v, v0], by simp [w, v, v0], by simp [w, v, v0]⟩
  · rw [t_pru, records.peers]
    have period : periodTaken a.period
        = if a.period.toNat < 4 then 4 else if 250 < a.period.toNat then 250 else a.period.toNat := by
      unfold periodTaken clampTo
      split
      · omega
      · split <;> omega
    rw [AnnounceFrame.peer, period]
  · rw [flag _ (by simp)]
    exact records.arrived
  · rw [flag _ (by simp)]
    exact records.expired
  · rw [counter]
    exact records.missed
  · have stands : v.rfw = s.rfw := by simp [v, v0]
    have fits : w = v.withRfw { v.rfw with repeats := v.rfw.repeats ++ [forwarded f.octets true] } :=
      State.appendRepeat_fits (by rw [stands, forwarded_length]; exact room)
    rw [State.decideStart_repeats, fits]
    simp [stands, forwarded, rewriteTransit]
  · obtain ⟨claims, claimants⟩ := records.moves g image sound
    exact ⟨State.claimsMove_congr claims (.refl s) last (by rw [t_pru]),
      State.claimantsMove_congr claimants (.refl s) last (by rw [t_pru]) t_now⟩
  · rw [State.departureAtPanel, t_pos]
    exact records.departs g image present leaving
  · rw [t_pos]
    exact records.stands either

end Sys2Proof.Machine

/-! SUPPORT. The assignments of the playout channels, and what a count increment brings about (06 R86 to R93; 09 R144 to
R155). -/

namespace Sys2Proof.Machine

section
variable {s t : State} {g : Image}

/-! ## Assignments -/

/-- A subscription's channel is mapped to a playout channel (R145). -/
abbrev Image.maps (g : Image) (ch : Fin 32) (n : Fin 16) (c : Fin 4) : Prop :=
  ∃ u, g.subscription n = some u ∧ u.map[c] = some ch

/-- A position of a venue has its headphone on a playout channel (R154). -/
abbrev Image.hears (g : Image) (venue : Bool) (ch : Fin 32) (p : Fin 4) : Prop :=
  venue = true ∧ (g.positions[p]).headphone = ch

/-- Without a channel mapped to it a playout channel has a headphone, or nothing (R145). -/
theorem Image.assignment_unmapped {ch : Fin 32} (venue : Bool) (unmapped : ∀ n c, ¬ g.maps ch n c) :
    g.assignment venue ch =
      match if venue then (List.finRange 4).find? fun p => (g.positions[p]).headphone = ch else none with
      | some p => .headphone p
      | none => .nothing := by
  have free : ((List.finRange 16).findSome? fun n => (g.subscription n).bind fun u =>
      ((List.finRange 4).find? fun c => u.map[c] = some ch).map fun c => (n, c)) = none := by
    refine List.findSome?_eq_none_iff.mpr fun n _ => Option.bind_eq_none_iff.mpr fun u used => ?_
    rw [Option.map_eq_none_iff]
    exact List.find?_eq_none.mpr fun c _ mapped => unmapped n c ⟨u, used, of_decide_eq_true mapped⟩
  rw [Image.assignment, free] <;> rfl

/-- A headphone's channel that no stream is mapped to (R145, R154). -/
theorem Image.assignment_headphone {ch : Fin 32} {venue : Bool} {p : Fin 4} (heard : g.hears venue ch p)
    (unmapped : ∀ n c, ¬ g.maps ch n c) (alone : ∀ q, g.hears venue ch q → q = p) :
    g.assignment venue ch = .headphone p := by
  obtain ⟨rfl, headphone⟩ := heard
  rw [Image.assignment_unmapped _ unmapped, if_pos rfl]
  cases found : (List.finRange 4).find? fun q : Fin 4 => decide ((g.positions[q]).headphone = ch) with
  | some q =>
    have heard := List.find?_some found
    rw [alone q ⟨rfl, of_decide_eq_true heard⟩]
  | none => exact absurd (decide_eq_true headphone) (List.find?_eq_none.mp found p (List.mem_finRange p))

/-- A playout channel that nothing is assigned to (R145). -/
theorem Image.assignment_nothing {ch : Fin 32} {venue : Bool} (unmapped : ∀ n c, ¬ g.maps ch n c)
    (deaf : ∀ p, ¬ g.hears venue ch p) : g.assignment venue ch = .nothing := by
  rw [Image.assignment_unmapped _ unmapped]
  cases venue with
  | false => rfl
  | true =>
    have missing : ((List.finRange 4).find? fun p : Fin 4 => decide ((g.positions[p]).headphone = ch)) = none :=
      List.find?_eq_none.mpr fun p _ headphone => deaf p ⟨rfl, of_decide_eq_true headphone⟩
    rw [if_pos rfl, missing]

/-- The sidetone of a capture channel (R155). -/
theorem State.sidetone_eq (s : State) (g : Image) (ch : Fin 16) : s.sidetone g ch =
    match (s.cap.stores[(⟨ch.val / 8, by omega⟩ : Fin 2)]).last with
    | none => 0
    | some f =>
      if (g.capture[(⟨ch.val / 8, by omega⟩ : Fin 2)]).wide = true then f[ch.val % 8] else f[ch.val % 8] * 256 := by
  unfold State.sidetone
  change _ = match (s.cap.stores[capturePortOf ch]).last with
    | none => 0
    | some f => if (g.capture[capturePortOf ch]).wide = true then f[slotOf ch] else f[slotOf ch] * 256
  cases (s.cap.stores[capturePortOf ch]).last with
  | none => rfl
  | some f => rfl

/-- What a playout channel's value is at the present count (R145, R154, R155). -/
theorem State.channelValue_carries (s : State) (g : Image) (ch : Fin 32) : s.carries g ch (s.channelValue g ch) := by
  refine ⟨fun n c mapped alone => ?_, fun p heard free only => ?_, fun free deaf => ?_⟩
  · obtain ⟨u, used, inMap⟩ := mapped
    rw [State.channelValue, Image.assignment_stream s.venue used inMap fun n' u' c' used' inMap' =>
      alone n' c' ⟨u', used', inMap'⟩]
    rfl
  · obtain ⟨venue, headphone⟩ := heard
    have here : g.assignment s.venue ch = .headphone p :=
      Image.assignment_headphone ⟨State.venue_eq_true.mpr venue, headphone⟩ free
        fun q other => only q ⟨State.venue_eq_true.mp other.1, other.2⟩
    rw [State.channelValue, here]
    show s.sourceValue g p = _
    unfold State.sourceValue
    cases source : s.ply.inForce[p] with
    | none => rfl
    | some kind =>
      cases kind with
      | programme => rfl
      | talkback => rfl
      | sidetone =>
        exact s.sidetone_eq g (g.positions[p]).mic
  · have nothing : g.assignment s.venue ch = .nothing :=
      Image.assignment_nothing free fun p heard => deaf p ⟨State.venue_eq_true.mp heard.1, heard.2⟩
    rw [State.channelValue, nothing]

/-- What a channel carries is of the streams, the sources in force and the capture stores. -/
theorem State.carries_congr {ch : Fin 32} {v : Sample} (h : s.carries g ch v) (srx : t.srx = s.srx)
    (inForce : t.ply.inForce = s.ply.inForce) (stores : t.cap.stores = s.cap.stores) (stc : t.stc = s.stc) :
    t.carries g ch v := by
  unfold State.carries
  rw [srx, inForce, stores, stc]
  exact h

/-! ## The channels computed -/

/-- The channels computed while the ports run (R144). -/
theorem State.computeChannels_running (image : s.stc.image = some g) (running : s.cap.running = true)
    (which : Assignment → Bool) : (s.computeChannels which).ply = { s.ply with
      channels := (s.computeChannels which).ply.channels
      frames := clockedFrames g (s.computeChannels which).ply.channels s.ply.frames } := by
  simp only [State.computeChannels, running, image, withPly_ply]

/-- Computed channels carry what their assignments give them (R145). -/
theorem State.computeChannels_carries (image : s.stc.image = some g) (running : s.cap.running = true)
    {which : Assignment → Bool} {ch : Fin 32} (picked : which (g.assignment s.venue ch) = true) :
    (s.computeChannels which).carries g ch (s.computeChannels which).ply.channels[ch] := by
  rw [State.computeChannels_picked image running picked]
  exact State.carries_congr (s.channelValue_carries g ch) (by simp) (by simp) (by simp) (by simp)

/-! ## A count increment -/

/-- The state as the channels of the new count are computed (R86). -/
def State.counting (s : State) (g : Image) : State :=
  { s with
    cap := { s.cap with
      count := s.cap.count + 1
      stores := if s.cap.running then
          Vector.ofFn fun q => (s.cap.stores[q]).nextFrame g.capture[q] g.block.samples s.cap.blockStamp (s.cap.count + 1)
        else s.cap.stores
      tickDue := decide ((s.cap.count + 1).toNat % g.block.samples = 0) }
    srx := mapAll (Context.newCount g.block.samples (s.cap.count + 1)) s.srx
    ply := { s.ply with before := s.ply.channels } }

theorem State.countIncrement_loaded (image : s.stc.image = some g) :
    s.countIncrement = (s.counting g).refreshAll := by
  have loaded : (s.withCap { s.cap with count := s.cap.count + 1 }).stc.image = some g := image
  unfold State.countIncrement
  dsimp only
  rw [loaded]
  rfl

theorem State.countIncrement_unloaded (image : s.stc.image = none) :
    s.countIncrement = { s with cap := { s.cap with count := s.cap.count + 1 } } := by
  have unloaded : (s.withCap { s.cap with count := s.cap.count + 1 }).stc.image = none := image
  unfold State.countIncrement
  dsimp only
  rw [unloaded]
  rfl

/-- A count increment changes the capture stores, the tick due, the streams and the playout, and nothing else (R86). -/
theorem State.countIncrement_same (s : State) : s.countIncrement = { s with
    cap := { s.cap with
      count := s.cap.count + 1, stores := s.countIncrement.cap.stores, tickDue := s.countIncrement.cap.tickDue }
    srx := s.countIncrement.srx, ply := s.countIncrement.ply } := by
  cases image : s.stc.image with
  | none =>
    rw [State.countIncrement_unloaded image]
  | some g =>
    rw [State.countIncrement_loaded image]
    refine State.eq_of_items ?_ ?_ ?_ ?_ ?_ ?_ ?_ ?_ ?_ rfl rfl ?_ ?_ ?_ ?_ ?_ <;> simp [State.refreshAll, State.counting]

/-- What a count increment brings about (R86, R91, R93, R144, R146, R152). -/
theorem State.countIncrement_countsOn (s : State) : State.countsOn s s.countIncrement := by
  refine ⟨s.countIncrement_count, fun image => ?_, fun g image => ?_⟩
  · rw [State.countIncrement_unloaded image]
    exact ⟨rfl, rfl, rfl, rfl⟩
  have cap : s.countIncrement.cap = (s.counting g).cap := by
    rw [State.countIncrement_loaded image]
    simp [State.refreshAll]
  have srx : s.countIncrement.srx = (s.counting g).srx := by
    rw [State.countIncrement_loaded image]
    simp [State.refreshAll]
  have context (n : Fin 16) : s.countIncrement.srx[n] = (s.srx[n]).newCount g.block.samples (s.cap.count + 1) := by
    rw [srx]
    exact mapAll_get ..
  have store (q : Fin 2) (running : s.cap.running = true) : s.countIncrement.cap.stores[q]
      = (s.cap.stores[q]).nextFrame g.capture[q] g.block.samples s.cap.blockStamp (s.cap.count + 1) := by
    have all : s.countIncrement.cap.stores = Vector.ofFn fun q =>
        (s.cap.stores[q]).nextFrame g.capture[q] g.block.samples s.cap.blockStamp (s.cap.count + 1) := by
      rw [cap]
      exact if_pos running
    rw [all]
    exact ofFn_get ..
  refine ⟨?_, fun q running clocking => ?_, fun q idle => ?_, fun n => ?_, fun n c => ?_, fun running ch => ?_, ?_⟩
  · rw [cap]
    exact decide_eq_true_iff
  · rw [store q running, PortStore.nextFrame, if_neg (fun listens => absurd (clocking.symm.trans listens) (by decide))]
    refine ⟨rfl, rfl, fun none => ?_⟩
    rw [PortStore.finish, none]
  · obtain stopped | listens := idle
    · have all : s.countIncrement.cap.stores = s.cap.stores := by
        rw [cap]
        exact if_neg (by simp [stopped])
      rw [all]
    · by_cases running : s.cap.running = true
      · rw [store q running, PortStore.nextFrame, if_pos listens]
      · have all : s.countIncrement.cap.stores = s.cap.stores := by
          rw [cap]
          exact if_neg running
        rw [all]
  · rw [context n]
    rfl
  · rw [context n]
    exact ofFn_get ..
  · rw [State.countIncrement_loaded image]
    exact State.computeChannels_carries (s := s.counting g) image running rfl
  · rw [State.countIncrement_loaded image]
    by_cases running : s.cap.running = true
    · rw [if_pos running, if_pos running]
      exact State.computeChannels_running (s := s.counting g) image running _
    · have stopped : (s.counting g).cap.running = false := Bool.eq_false_iff.mpr running
      rw [if_neg running, if_neg running, State.refreshAll, State.computeChannels_stopped stopped]
      rfl

/-- An edge of WCLK in INTERNAL (R87). -/
theorem State.wclkEdge_internal (internal : s.cap.clock = .internal) : s.wclkEdge = s := by
  unfold State.wclkEdge
  split
  next => rfl
  next =>
    dsimp only
    split
    next => rfl
    next other => exact absurd (internal.symm.trans other) (by decide)
    next other => exact absurd (internal.symm.trans other) (by decide)

/-- An edge of WCLK in WORDCLOCK (R87). -/
theorem State.wclkEdge_wordclock (free : s.stc.held = false) (wordclock : s.cap.clock = .wordclock) :
    s.wclkEdge = State.edgeInWordclock { s with cap := { s.cap with lastEdge := some s.now } } := by
  unfold State.wclkEdge
  rw [if_neg (by simp [free])]
  dsimp only
  split
  next other => exact absurd (wordclock.symm.trans other) (by decide)
  next => rfl
  next other => exact absurd (wordclock.symm.trans other) (by decide)

/-- An edge of WCLK in HOLDOVER (R89). -/
theorem State.wclkEdge_holdover (free : s.stc.held = false) (holdover : s.cap.clock = .holdover) :
    s.wclkEdge = State.edgeInHoldover { s with cap := { s.cap with lastEdge := some s.now } } s.edgeGood := by
  unfold State.wclkEdge
  rw [if_neg (by simp [free])]
  dsimp only
  split
  next other => exact absurd (holdover.symm.trans other) (by decide)
  next other => exact absurd (holdover.symm.trans other) (by decide)
  next => rfl

/-- An edge followed in WORDCLOCK: it counts at 448 REFCLK periods, and an earlier one does not (R87). -/
theorem State.wclkEdge_counts (free : s.stc.held = false) (wordclock : s.cap.clock = .wordclock) :
    let since := (s.now - s.cap.countedAt) / Config.refPeriod
    ∃ t, s.wclkEdge = t ∧ t.now = s.now ∧ t.cap.clock = .wordclock ∧ t.cap.lastEdge = some s.now
      ∧ (448 ≤ since →
          t = { s with
            cap := { s.cap with
              count := s.cap.count + 1, lastEdge := some s.now, countedAt := s.now
              stores := t.cap.stores, tickDue := t.cap.tickDue }
            srx := t.srx, ply := t.ply }
          ∧ s.countsOn t)
      ∧ (since < 448 → t = { s with cap := { s.cap with lastEdge := some s.now } }) := by
  intro since
  let u : State := { s with cap := { s.cap with lastEdge := some s.now } }
  rw [State.wclkEdge_wordclock free wordclock]
  by_cases counted : 448 ≤ since
  · let v : State := { u with cap := { u.cap with countedAt := s.now } }
    have counts : u.edgeInWordclock = v.countIncrement := if_pos counted
    have same := v.countIncrement_same
    have on := v.countIncrement_countsOn
    rw [counts]
    generalize v.countIncrement = t at *
    have cap : t.cap = { v.cap with
        count := s.cap.count + 1, stores := t.cap.stores, tickDue := t.cap.tickDue } := congrArg State.cap same
    refine ⟨t, rfl, (congrArg State.now same).trans rfl, ?_, ?_, fun _ => ⟨same, on⟩, fun early => absurd counted (by omega)⟩
    · rw [cap]
      exact wordclock
    · rw [cap]
  · have ignored : u.edgeInWordclock = u := if_neg counted
    rw [ignored]
    exact ⟨u, rfl, rfl, wordclock, rfl, fun late => absurd late counted, fun _ => rfl⟩

/-- An edge in HOLDOVER: a good one adds to the qualification run, the 48th ends it, any other starts it anew (R89). -/
theorem State.wclkEdge_qualifies (free : s.stc.held = false) (holdover : s.cap.clock = .holdover) :
    let since := fun t : Nat => (s.now - t) / Config.refPeriod
    let good := ∃ last, s.cap.lastEdge = some last ∧ 448 ≤ since last ∧ since last ≤ 576
    (¬ good → s.wclkEdge = { s with cap := { s.cap with lastEdge := some s.now, qualRun := 0 } })
    ∧ (good → s.cap.qualRun < 47 →
        s.wclkEdge = { s with cap := { s.cap with lastEdge := some s.now, qualRun := s.cap.qualRun + 1 } })
    ∧ (good → 47 ≤ s.cap.qualRun → s.wclkEdge = { s with
        cap := { s.cap with lastEdge := some s.now, qualRun := 0, clock := .wordclock, countedAt := s.now } }) := by
  intro since good
  have judged : s.edgeGood = true ↔ good := by
    unfold State.edgeGood
    cases edge : s.cap.lastEdge with
    | none => simp [good, edge]
    | some t =>
      simp only [good, edge, Option.some.injEq, exists_eq_left', decide_eq_true_eq]
      exact Iff.rfl
  rw [State.wclkEdge_holdover free holdover]
  refine ⟨fun bad => ?_, fun isGood more => ?_, fun isGood last => ?_⟩
  · rw [State.edgeInHoldover, if_pos (by simpa using fun h => bad (judged.mp h))]
    rfl
  · rw [judged.mpr isGood, State.edgeInHoldover, if_neg (by simp)]
    exact if_pos (show s.cap.qualRun + 1 < 48 by omega)
  · rw [judged.mpr isGood, State.edgeInHoldover, if_neg (by simp)]
    exact if_neg (show ¬ s.cap.qualRun + 1 < 48 by omega)

/-- The word clock lost: the count goes on by the divider, and a loaded station reports it (R88). -/
theorem State.exec_wordClockLoss (wordclock : s.cap.clock = .wordclock) :
    ∃ t, exec .wordClockLoss s = .next t
      ∧ (t.flag .clockHoldover = true ↔ s.flag .clockHoldover = true ∨ s.stc.load = .loaded)
      ∧ (s.stc.load = .loaded →
          t.svp = ((s.raise .clockHoldover).countOne .holdoverEntries).svp
          ∧ t.counter .holdoverEntries = min 65535 (s.counter .holdoverEntries + 1))
      ∧ (s.stc.load ≠ .loaded → t.svp = s.svp)
      ∧ t = { s with
          now := max s.now (s.cap.countedAt + 2048 * Config.refPeriod)
          cap := { s.cap with
            clock := .holdover, qualRun := 0, dividerAt := t.now, count := s.cap.count + 1
            stores := t.cap.stores, tickDue := t.cap.tickDue }
          srx := t.srx, ply := t.ply, svp := t.svp }
      ∧ s.countsOn t := by
  let n := max s.now (s.cap.countedAt + 2048 * Config.refPeriod)
  let u : State := { s with now := n, cap := { s.cap with clock := .holdover, qualRun := 0, dividerAt := n } }
  have due : s.wordClockLossAt = some (s.cap.countedAt + 2048 * Config.refPeriod) := by
    rw [State.wordClockLossAt, wordclock]
    rfl
  have step : exec .wordClockLoss s = .next u.reportHoldover.countIncrement := State.takeEvent_due State.wordClockLost due
  have same := u.reportHoldover.countIncrement_same
  have on := u.reportHoldover.countIncrement_countsOn
  have told : u.reportHoldover = if s.stc.load = .loaded then (u.raise .clockHoldover).countOne .holdoverEntries else u :=
    rfl
  by_cases loaded : s.stc.load = .loaded
  · rw [told, if_pos loaded] at same on step
    let v := u.raise .clockHoldover
    have flag : (v.countOne .holdoverEntries).flag .clockHoldover = true :=
      (State.flag_countOne ..).trans ((State.flag_raise ..).trans (by simp))
    have counter : (v.countOne .holdoverEntries).counter .holdoverEntries = min 65535 (s.counter .holdoverEntries + 1) :=
      (State.counter_countOne ..).trans (if_pos rfl)
    have counted : (v.countOne .holdoverEntries).svp = ((s.raise .clockHoldover).countOne .holdoverEntries).svp := rfl
    have now : (v.countOne .holdoverEntries).countIncrement.now = n := congrArg State.now same
    have svp : (v.countOne .holdoverEntries).countIncrement.svp = (v.countOne .holdoverEntries).svp :=
      (congrArg State.svp same).trans rfl
    generalize (v.countOne .holdoverEntries).countIncrement = t at *
    refine ⟨t, step, ?_, fun _ => ⟨svp.trans counted, ?_⟩, fun other => absurd loaded other, ?_, on⟩
    · rw [State.flag, svp]
      exact iff_of_true flag (.inr loaded)
    · rw [State.counter, svp]
      exact counter
    · rw [now, svp]
      exact same
  · rw [told, if_neg loaded] at same on step
    have now : u.countIncrement.now = n := congrArg State.now same
    have svp : u.countIncrement.svp = s.svp := (congrArg State.svp same).trans rfl
    generalize u.countIncrement = t at *
    refine ⟨t, step, ?_, fun yes => absurd yes loaded, fun _ => svp, ?_, on⟩
    · rw [State.flag, svp]
      exact (or_iff_left loaded).symm
    · rw [now, svp]
      exact same

end

/-- Settles O32: the divider's next period begins, and the count is incremented. -/
theorem dividerCounts : Obligations.DividerCounts := by
  intro s free internal
  let n := max s.now (s.cap.dividerAt + 512 * Config.refPeriod)
  let u : State := { s with now := n, cap := { s.cap with dividerAt := s.cap.dividerAt + 512 * Config.refPeriod } }
  have due : s.dividerIncrementAt = some (s.cap.dividerAt + 512 * Config.refPeriod) := by
    rw [State.dividerIncrementAt, free]
    cases clock : s.cap.clock with
    | wordclock => exact absurd clock internal
    | internal => rfl
    | holdover => rfl
  have step : exec .dividerIncrement s = .next u.countIncrement := State.takeEvent_due State.dividerIncrement due
  exact ⟨_, step, u.countIncrement_same, u.countIncrement_countsOn⟩

/-- Settles O33: by the clock source state, the edge and the interval since the edge before it. -/
theorem wordClockIsFollowed : Obligations.WordClockIsFollowed := by
  refine ⟨fun s periods free => ?_, fun s => ⟨State.exec_wordClockLoss, fun last holdover edge run => ?_⟩⟩
  · intro now since
    have step : exec (.wclkEdge periods) s = .next (State.wclkEdge { s with now := now }) := by
      show Host.Outcome.next (State.waitUntil s (s.now + periods * Config.refPeriod)).wclkEdge = _
      have later : max s.now (s.now + periods * Config.refPeriod) = now := Nat.max_eq_right (Nat.le_add_right ..)
      rw [State.waitUntil, later]
      rfl
    refine ⟨fun internal => ?_, fun wordclock => ?_, fun holdover => ?_⟩
    · exact step.trans (congrArg Host.Outcome.next (State.wclkEdge_internal internal))
    · obtain ⟨t, edge, followed⟩ := State.wclkEdge_counts (s := { s with now := now }) free wordclock
      exact ⟨t, step.trans (congrArg Host.Outcome.next edge), followed⟩
    · intro good
      obtain ⟨bad, more, last⟩ := State.wclkEdge_qualifies (s := { s with now := now }) free holdover
      exact ⟨fun h => step.trans (congrArg _ (bad h)), fun h run => step.trans (congrArg _ (more h run)),
        fun h run => step.trans (congrArg _ (last h run))⟩
  · have due : s.qualificationSilenceAt = some (last + 577 * Config.refPeriod) := by
      rw [State.qualificationSilenceAt, holdover, edge]
      exact if_pos run
    exact State.takeEvent_due State.qualificationSilence due

end Sys2Proof.Machine

/-! SUPPORT. The frames a capture port places (06 R90 to R92). -/

namespace Sys2Proof.Machine

section
variable {s : State} {g : Image} {q : Fin 2} {slots : List (BitVec 32)}

/-- A whole frame shifted into a CLOCKING port is placed (R91). -/
theorem State.clockingFrame_finishes (image : s.stc.image = some g) (whole : slots.length = 8)
    (running : s.cap.running = true) (clocking : (g.capture[q]).listen = false) :
    exec (.clockingFrameComplete q slots) s =
      .next (s.setStore q (·.finish g.block.samples s.cap.blockStamp (portFrameOf g.capture[q].wide slots))) := by
  have shifted : (s.cap.running && wfSlots slots) = true := by simp [running, wfSlots, whole]
  show execClockingFrameComplete q slots s = _
  simp only [execClockingFrameComplete, image, shifted]
  exact if_neg (fun listens => absurd (clocking.symm.trans listens) (by decide))

/-- A whole frame shifted into a LISTEN port is received (R92). -/
theorem State.listenFrame_received (image : s.stc.image = some g) (whole : slots.length = 8)
    (running : s.cap.running = true) (listens : (g.capture[q]).listen = true) :
    exec (.captureFrameReceived q slots) s =
      .next (s.setStore q (·.receive g.block.samples (portFrameOf g.capture[q].wide slots))) := by
  have shifted : (s.cap.running && decide (slots.length = 8)) = true := by simp [running, whole]
  show execCaptureFrameReceived q slots s = _
  simp only [execCaptureFrameReceived, image, shifted]
  exact if_pos listens

/-- A partial frame is discarded (R92). -/
theorem State.captureFrame_partial (short : slots.length ≠ 8) : exec (.captureFrameReceived q slots) s = .next s := by
  have shifted : (s.cap.running && decide (slots.length = 8)) = false := by simp [short]
  show execCaptureFrameReceived q slots s = _
  simp only [execCaptureFrameReceived, shifted]
  cases s.stc.image <;> rfl

/-- While the ports are STOPPED no frame is placed (R90). -/
theorem State.captureFrame_stopped (stopped : s.cap.running = false) :
    exec (.clockingFrameComplete q slots) s = .next s ∧ exec (.captureFrameReceived q slots) s = .next s := by
  refine ⟨?_, ?_⟩
  · show execClockingFrameComplete q slots s = _
    simp only [execClockingFrameComplete, stopped, Bool.false_and]
    cases s.stc.image <;> rfl
  · show execCaptureFrameReceived q slots s = _
    simp only [execCaptureFrameReceived, stopped, Bool.false_and]
    cases s.stc.image <;> rfl

/-- A frame placed at the next free index (R90). -/
theorem putFrame_next (frames : List PortFrame) (f : PortFrame) : putFrame frames frames.length f = frames ++ [f] := by
  rw [putFrame, List.take_length, Nat.sub_self, List.replicate_zero, List.append_nil]

/-- The frame of the next free index is finished (R91). -/
theorem PortStore.finish_next {p : PortStore} {b : Nat} {stamp count : Word} (f : PortFrame)
    (shifting : p.shifting = some count) (next : (count - stamp).toNat = p.frames.length) (room : p.frames.length < b) :
    p.finish b stamp f =
      { p with frames := p.frames ++ [f], frameCount := p.frameCount + 1, shifting := none, last := some f } := by
  simp only [PortStore.finish, shifting, next, if_pos room, putFrame_next]

end

/-- Settles O34: by the mode of the port. -/
theorem captureFramesArePlaced : Obligations.CaptureFramesArePlaced := by
  intro s g q slots image whole store frame placed
  have same : portFrameOf (g.capture[q]).wide slots = frame := rfl
  refine ⟨fun count running clocking shifting next room => ?_, fun running listens room => ?_,
    fun running listens full => ?_, fun k short => ?_, State.captureFrame_stopped⟩
  · have finished := PortStore.finish_next frame shifting next room
    rw [State.clockingFrame_finishes image whole running clocking, same, ← finished]
    rfl
  · have received : store.receive g.block.samples frame = { store with
        frames := store.frames ++ [frame], frameCount := store.frameCount + 1, last := some frame } := if_pos room
    rw [State.listenFrame_received image whole running listens, same, ← received]
    rfl
  · have received : store.receive g.block.samples frame = { store with frameCount := store.frameCount + 1 } :=
      if_neg (by omega)
    rw [State.listenFrame_received image whole running listens, same, ← received]
    rfl
  · exact State.captureFrame_partial (by rw [List.length_take]; omega)

end Sys2Proof.Machine

/-! SUPPORT. The block tick: the headphone switch, and the ticks that build nothing (06 R93, R95; 09 R154, R156). -/

namespace Sys2Proof.Machine

section
variable {s t v : State} {g : Image}

/-! ## The headphone switch -/

/-- A playout channel that a stream channel is mapped to is a stream's (R145). -/
theorem Image.assignment_mapped {ch : Fin 32} {n : Fin 16} {c : Fin 4} (venue : Bool) (mapped : g.maps ch n c) :
    ∃ m d, g.assignment venue ch = .stream m d := by
  unfold Image.assignment
  split
  next m d found => exact ⟨m, d, rfl⟩
  next missing =>
    obtain ⟨u, used, inMap⟩ := mapped
    have free := List.findSome?_eq_none_iff.mp missing n (List.mem_finRange n)
    rw [used, Option.bind_some, Option.map_eq_none_iff] at free
    exact absurd (decide_eq_true inMap) (List.find?_eq_none.mp free c (List.mem_finRange c))

/-- A playout channel is a headphone's where no stream channel is mapped to it and a position of a venue has it
(R145, R154). -/
theorem Image.assignment_isHeadphone {ch : Fin 32} {venue : Bool} :
    (g.assignment venue ch).isHeadphone = true ↔ venue = true ∧ (∃ p : Fin 4, (g.positions[p]).headphone = ch)
      ∧ ∀ n u, g.subscription n = some u → ∀ c : Fin 4, u.map[c] ≠ some ch := by
  by_cases unmapped : ∀ n u, g.subscription n = some u → ∀ c : Fin 4, u.map[c] ≠ some ch
  · rw [Image.assignment_unmapped venue fun n c mapped => unmapped n _ mapped.choose_spec.1 c mapped.choose_spec.2]
    cases venue with
    | false => simp [Assignment.isHeadphone]
    | true =>
      cases found : (List.finRange 4).find? fun q : Fin 4 => decide ((g.positions[q]).headphone = ch) with
      | some q =>
        have heard := of_decide_eq_true (List.find?_some (p := fun q : Fin 4 => decide ((g.positions[q]).headphone = ch)) found)
        exact iff_of_true rfl ⟨rfl, ⟨q, heard⟩, unmapped⟩
      | none =>
        refine iff_of_false Bool.false_ne_true ?_
        rintro ⟨-, ⟨p, heard⟩, -⟩
        exact List.find?_eq_none.mp found p (List.mem_finRange p) (decide_eq_true heard)
  · refine iff_of_false (fun headphone => ?_) (fun heard => unmapped heard.2.2)
    obtain ⟨n, u, used, c, mapped⟩ : ∃ n u, g.subscription n = some u ∧ ∃ c : Fin 4, u.map[c] = some ch := by
      simpa using unmapped
    obtain ⟨m, d, assigned⟩ := Image.assignment_mapped venue ⟨u, used, mapped⟩
    rw [assigned] at headphone
    exact Bool.false_ne_true headphone

/-- The headphone switch of a tick (R154, R156). -/
theorem State.switchHeadphones_switches (image : v.stc.image = some g) (running : v.cap.running = true) :
    State.headphonesSwitch g v v.switchHeadphones := by
  let u : State := if v.venue then v.withPly { v.ply with inForce := mapAll (fun q => some q.selection) v.pos.positions }
    else v
  have same : u = v.withPly { v.ply with inForce := u.ply.inForce } := by
    dsimp only [u]
    split <;> rfl
  have uImage : u.stc.image = some g := by
    rw [same]
    exact image
  have uRunning : u.cap.running = true := by
    rw [same]
    exact running
  have uVenue : u.venue = v.venue := by
    rw [same]
    rfl
  have switched : v.switchHeadphones = u.computeChannels Assignment.isHeadphone := rfl
  have heardBy (ch : Fin 32) : (g.assignment u.venue ch).isHeadphone = true ↔ v.stc.straps.role = .venue
      ∧ (∃ p : Fin 4, (g.positions[p]).headphone = ch) ∧ ∀ n u, g.subscription n = some u → ∀ c : Fin 4, u.map[c] ≠ some ch := by
    rw [Image.assignment_isHeadphone, uVenue, State.venue_eq_true]
  rw [switched]
  refine ⟨fun p => ?_, fun ch heard => ?_, fun ch deaf => ?_, ?_⟩
  · rw [State.computeChannels_inForce]
    dsimp only [u]
    by_cases venue : v.stc.straps.role = .venue
    · rw [if_pos (State.venue_eq_true.mpr venue), if_pos venue]
      exact mapAll_get ..
    · rw [if_neg (fun h => venue (State.venue_eq_true.mp h)), if_neg venue]
  · exact State.computeChannels_carries uImage uRunning ((heardBy ch).mpr heard)
  · rw [State.computeChannels_passed uImage (.inr (Bool.eq_false_iff.mpr fun heard => deaf ((heardBy ch).mp heard)))]
    rw [same]
    rfl
  · rw [State.computeChannels_running uImage uRunning]
    generalize (u.computeChannels _).ply.channels = channels
    rw [same]
    rfl

/-- What a headphone switch does is of the straps, the panel and the playout before it. -/
theorem State.headphonesSwitch_congr (switches : State.headphonesSwitch g v t) (stc : v.stc = s.stc) (pos : v.pos = s.pos)
    (ply : v.ply = s.ply) : State.headphonesSwitch g s t := by
  unfold State.headphonesSwitch at *
  rw [stc, pos, ply] at switches
  exact switches

/-! ## The ticks that build nothing -/

/-- A block tick that is due is taken (R93). -/
theorem State.exec_blockTick (due : s.cap.tickDue = true) : exec .blockTick s = .next s.blockTick :=
  (State.takeEvent_nowIf State.blockTick).trans (congrArg Host.Outcome.next (if_pos due))

/-- The opening tick (R93). -/
theorem State.blockTick_opens (image : s.stc.image = some g) (stopped : s.cap.running = false) :
    s.blockTick = (s.openingTick g).switchHeadphones := by
  simp only [State.blockTick, image, stopped, Bool.not_false, if_true]

/-- The wrap tick (R95). -/
theorem State.blockTick_wraps (image : s.stc.image = some g) (running : s.cap.running = true) (zero : s.cap.count = 0) :
    s.blockTick = s.wrapTick.switchHeadphones := by
  simp only [State.blockTick, image, running, Bool.not_true, Bool.false_eq_true, if_false]
  exact congrArg State.switchHeadphones (if_pos zero)

/-- A tick that builds (R93). -/
theorem State.blockTick_builds (image : s.stc.image = some g) (running : s.cap.running = true) (later : s.cap.count ≠ 0) :
    s.blockTick = (s.buildingTick g).switchHeadphones := by
  simp only [State.blockTick, image, running, Bool.not_true, Bool.false_eq_true, if_false]
  exact congrArg State.switchHeadphones (if_neg later)

/-- Switching the headphones changes the playout alone (R156). -/
theorem State.switchHeadphones_eq (v : State) : v.switchHeadphones = { v with ply := v.switchHeadphones.ply } := by
  refine State.eq_of_items ?_ ?_ ?_ ?_ ?_ ?_ ?_ ?_ ?_ ?_ rfl ?_ ?_ ?_ ?_ ?_ <;> simp

end

/-- Settles O35: the ports open or the stores are emptied, and the headphones are switched. -/
theorem openingAndWrapTicks : Obligations.OpeningAndWrapTicks := by
  refine fun s g image due => ⟨fun stopped => ?_, fun running zero => ?_⟩
  · let v := s.openingTick g
    have switched := State.switchHeadphones_switches (v := v) image rfl
    have eq := v.switchHeadphones_eq
    have cap : v.switchHeadphones.cap = v.cap := by simp
    refine ⟨v.switchHeadphones, (State.exec_blockTick due).trans (congrArg _ (State.blockTick_opens image stopped)), ?_,
      fun q => ?_, State.headphonesSwitch_congr switched rfl rfl rfl, ?_⟩
    · rw [cap]
      rfl
    · rw [cap]
      have store : v.cap.stores[q] = { (s.cap.stores[q]).emptied with
          shifting := if g.capture[q].listen then none else some s.cap.count } := ofFn_get ..
      rw [store]
      exact ⟨rfl, rfl, rfl⟩
    · rw [cap]
      exact eq
  · let v := s.wrapTick
    have switched := State.switchHeadphones_switches (v := v) image running
    have eq := v.switchHeadphones_eq
    have cap : v.switchHeadphones.cap = v.cap := by simp
    refine ⟨v.switchHeadphones, (State.exec_blockTick due).trans (congrArg _ (State.blockTick_wraps image running zero)), ?_,
      fun q => ?_, State.headphonesSwitch_congr switched rfl rfl rfl, ?_⟩
    · rw [cap, ← zero]
      rfl
    · rw [cap]
      exact mapAll_get ..
    · rw [cap]
      exact eq

end Sys2Proof.Machine

/-! SUPPORT. The tick that builds blocks: the statuses fixed, the blocks assembled, the frames offered (06 R94 to R101). -/

namespace Sys2Proof.Machine

section
variable {s t u : State} {g : Image} {gates : Vector (Vector Bool 4) 4} {statuses : Vector BlockStatus 2}

/-! ## Statuses -/

/-- Fixing a status changes the port's store alone of the ports (R94). -/
theorem State.fixStatus_cap (b : Nat) (s : State) (q : Fin 2) : (s.fixStatus b q).cap = { s.cap with
    stores := modifyAt s.cap.stores q fun p => { p with status := blockStatus b p.frameCount } } := by
  unfold State.fixStatus
  dsimp only
  split <;> rfl

/-- A status other than OK is counted against its port (R94). -/
theorem State.fixStatus_counter (b : Nat) (s : State) (q : Fin 2) (c : Counter) : (s.fixStatus b q).counter c =
    if c = .irregular q ∧ blockStatus b (s.cap.stores[q]).frameCount ≠ .ok then min 65535 (s.counter c + 1)
    else s.counter c := by
  unfold State.fixStatus
  dsimp only
  split
  next ok => exact (if_neg fun h => h.2 ok).symm
  next bad =>
    rw [State.counter_countOne, State.counter_raise]
    by_cases same : c = .irregular q
    · rw [if_pos same, if_pos ⟨same, bad⟩]
      rfl
    · rw [if_neg same, if_neg fun h => same h.1]
      rfl

/-- A status other than OK is raised (R94). -/
theorem State.fixStatus_flag (b : Nat) (s : State) (q : Fin 2) : (s.fixStatus b q).flag .captureFault = true ↔
    s.flag .captureFault = true ∨ blockStatus b (s.cap.stores[q]).frameCount ≠ .ok := by
  unfold State.fixStatus
  dsimp only
  split
  next ok => exact (or_iff_left fun h => h ok).symm
  next bad =>
    refine iff_of_true ?_ (.inr bad)
    rw [State.flag_countOne, State.flag_raise]
    rfl

/-- The state with the status of every port fixed (R94). -/
def State.statusesFixed (b : Nat) (s : State) : State := (List.finRange 2).foldl (State.fixStatus b) s

/-- The ports are fixed in turn. -/
theorem State.statusesFixed_eq (b : Nat) (s : State) : s.statusesFixed b = (s.fixStatus b 0).fixStatus b 1 := rfl

/-- The count of a port's frames is not of the other's status. -/
theorem State.fixStatus_store (b : Nat) (s : State) (q p : Fin 2) : (s.fixStatus b q).cap.stores[p] =
    if p = q then { s.cap.stores[q] with status := blockStatus b (s.cap.stores[q]).frameCount } else s.cap.stores[p] := by
  rw [State.fixStatus_cap]
  exact modifyAt_get ..

/-- Of the ports the statuses alone change (R94). -/
theorem State.statusesFixed_cap (b : Nat) (s : State) :
    (s.statusesFixed b).cap = { s.cap with stores := (s.statusesFixed b).cap.stores } := by
  rw [State.statusesFixed_eq, State.fixStatus_cap, State.fixStatus_cap]

/-- Each port's status is of its own frames (R94). -/
theorem State.statusesFixed_store (b : Nat) (s : State) (p : Fin 2) : (s.statusesFixed b).cap.stores[p] =
    { s.cap.stores[p] with status := blockStatus b (s.cap.stores[p]).frameCount } := by
  rw [State.statusesFixed_eq]
  match p with
  | 0 => rw [State.fixStatus_store, if_neg (by decide), State.fixStatus_store, if_pos rfl]
  | 1 => rw [State.fixStatus_store, if_pos rfl, State.fixStatus_store, if_neg (by decide)]

/-- Each port's status is counted against it (R94). -/
theorem State.statusesFixed_counter (b : Nat) (s : State) (p : Fin 2) : (s.statusesFixed b).counter (.irregular p) =
    if blockStatus b (s.cap.stores[p]).frameCount = .ok then s.counter (.irregular p)
    else min 65535 (s.counter (.irregular p) + 1) := by
  rw [State.statusesFixed_eq, State.fixStatus_counter, State.fixStatus_store, State.fixStatus_counter]
  match p with
  | 0 => simp
  | 1 => simp

/-- CAPTURE_FAULT is raised for a port that is not OK (R94). -/
theorem State.statusesFixed_flag (b : Nat) (s : State) : (s.statusesFixed b).flag .captureFault = true ↔
    s.flag .captureFault = true ∨ ∃ q : Fin 2, blockStatus b (s.cap.stores[q]).frameCount ≠ .ok := by
  rw [State.statusesFixed_eq, State.fixStatus_flag, State.fixStatus_flag, State.fixStatus_store, if_neg (by decide),
    Fin.exists_fin_two, or_assoc]

/-- Fixing the statuses changes the ports and the Service Port alone (R94). -/
theorem State.statusesFixed_same (b : Nat) (s : State) : s.statusesFixed b =
    { s with cap := (s.statusesFixed b).cap, svp := (s.statusesFixed b).svp } := by
  rw [State.statusesFixed_eq]
  refine State.eq_of_items ?_ ?_ ?_ ?_ ?_ ?_ ?_ ?_ rfl ?_ ?_ ?_ ?_ rfl ?_ ?_ <;> simp

/-! ## The frames built -/

/-- The frame a sourced stream's block becomes: of a HELD stream (R98, R100). -/
def State.blockOf (s : State) (g : Image) (gates : Vector (Vector Bool 4) 4) (statuses : Vector BlockStatus 2)
    (i : Fin 4) : Option AudioFrame :=
  match g.source i, s.pru.claims[i] with
  | some c, .held => some (s.buildAudio g i c gates statuses)
  | _, _ => none

/-- A frame is built of a configured stream that is HELD (R98, R100). -/
theorem State.blockOf_some {i : Fin 4} {f : AudioFrame} (built : s.blockOf g gates statuses i = some f) :
    ∃ c, g.source i = some c ∧ s.pru.claims[i] = .held ∧ f = s.buildAudio g i c gates statuses := by
  unfold State.blockOf at built
  split at built
  next c source held => exact ⟨c, source, held, (Option.some.inj built).symm⟩
  next => exact absurd built (by simp)

/-- A HELD stream's block is built (R98, R100). -/
theorem State.blockOf_held {i : Fin 4} {c : Source} (source : g.source i = some c) (held : s.pru.claims[i] = .held) :
    s.blockOf g gates statuses i = some (s.buildAudio g i c gates statuses) := by
  simp only [State.blockOf, source, held]

/-- A frame is built exactly of a configured stream that is HELD (R98, R100). -/
theorem State.blockOf_isSome (s : State) (i : Fin 4) :
    (s.blockOf g gates statuses i).isSome = ((g.source i).isSome && s.pru.claims[i] == .held) := by
  unfold State.blockOf
  cases g.source i with
  | none => rfl
  | some c => cases s.pru.claims[i] <;> rfl

/-- What a frame is built of: the strap, the claims, and the ports without the sequences of the other streams (R98). -/
theorem State.blockOf_congr {i : Fin 4} (stc : t.stc = s.stc) (pru : t.pru = s.pru)
    (cap : t.cap = { s.cap with seqs := t.cap.seqs }) (seq : t.cap.seqs[i] = s.cap.seqs[i]) :
    t.blockOf g gates statuses i = s.blockOf g gates statuses i := by
  have audio (c : Source) : t.buildAudio g i c gates statuses = s.buildAudio g i c gates statuses := by
    unfold State.buildAudio State.blockPayload State.channelSample State.address
    rw [seq, stc, cap]
    rfl
  unfold State.blockOf
  rw [pru]
  simp only [audio]

/-- The next block sequence of a stream (R100). -/
def State.nextSequence (s : State) (i : Fin 4) : State :=
  s.withCap { s.cap with seqs := modifyAt s.cap.seqs i (· + 1) }

/-- A stream whose block is built (R98, R101). -/
theorem State.assembleOne_built {i : Fin 4} {f : AudioFrame} (built : s.blockOf g gates statuses i = some f) :
    s.assembleOne g gates statuses i =
      if s.atc.state = .active then (s.nextSequence i).offerAudio f else s.nextSequence i := by
  obtain ⟨c, source, held, rfl⟩ := State.blockOf_some built
  simp only [State.assembleOne, source, held]
  rfl

/-- A stream that has no block (R100). -/
theorem State.assembleOne_none {i : Fin 4} (idle : s.blockOf g gates statuses i = none) :
    s.assembleOne g gates statuses i = s := by
  unfold State.assembleOne
  split
  next c source held => exact absurd (idle.symm.trans (State.blockOf_held source held)) (by simp)
  next => rfl

/-- An offer does not look at the ports. -/
theorem State.offerAudio_withCap (s : State) (f : AudioFrame) (c : Cap) :
    (s.withCap c).offerAudio f = (s.offerAudio f).withCap c := by
  unfold State.offerAudio
  by_cases room : s.inq.audio.length < Config.audioCapacity
  · rw [if_pos room]
    exact if_pos room
  · rw [if_neg room]
    exact if_neg room

/-- Offers do not look at the ports. -/
theorem State.offers_withCap (frames : List AudioFrame) (s : State) (c : Cap) :
    frames.foldl State.offerAudio (s.withCap c) = (frames.foldl State.offerAudio s).withCap c := by
  induction frames generalizing s with
  | nil => rfl
  | cons f fs ih => rw [List.foldl_cons, List.foldl_cons, State.offerAudio_withCap, ih]

/-- What assembling the blocks of some streams comes to: their sequences advance, and in ACTIVE the frames built join the
own audio queue in turn (R98, R100, R101). -/
structure State.Assembled (g : Image) (gates : Vector (Vector Bool 4) 4) (statuses : Vector BlockStatus 2) (l : List (Fin 4))
    (s t : State) : Prop where
  cap : t.cap = { s.cap with seqs := t.cap.seqs }
  seqs : ∀ i, t.cap.seqs[i] =
    if i ∈ l ∧ (s.blockOf g gates statuses i).isSome = true then s.cap.seqs[i] + 1 else s.cap.seqs[i]
  joined : s.atc.state = .active →
    t = ((l.filterMap (s.blockOf g gates statuses)).foldl State.offerAudio s).withCap t.cap
  idle : s.atc.state ≠ .active → t = s.withCap t.cap

/-- The ports as one stream's block is assembled (R98). -/
theorem State.assembleOne_cap {i : Fin 4} {f : AudioFrame} (built : s.blockOf g gates statuses i = some f) :
    (s.assembleOne g gates statuses i).cap = (s.nextSequence i).cap := by
  rw [State.assembleOne_built built]
  split
  · simp
  · rfl

/-- Every stream's block is assembled in turn (R98). -/
theorem State.assembled_foldl (l : List (Fin 4)) (distinct : l.Nodup) (s : State) :
    State.Assembled g gates statuses l s (l.foldl (State.assembleOne g gates statuses) s) := by
  induction l generalizing s with
  | nil => exact ⟨rfl, fun i => (if_neg (by simp)).symm, fun _ => rfl, fun _ => rfl⟩
  | cons i l ih =>
    obtain ⟨apart, rest⟩ := List.nodup_cons.mp distinct
    rw [List.foldl_cons]
    cases built : s.blockOf g gates statuses i with
    | none =>
      rw [State.assembleOne_none built]
      obtain ⟨cap, seqs, joined, idle⟩ := ih rest s
      refine ⟨cap, fun j => (seqs j).trans ?_, fun active => ?_, idle⟩
      · by_cases same : j = i
        · rw [same, built, if_neg (by simp), if_neg (by simp)]
        · simp [same]
      · rw [List.filterMap_cons_none built]
        exact joined active
    | some f =>
      have one := State.assembleOne_built built
      have oneCap := State.assembleOne_cap built
      have stc : (s.assembleOne g gates statuses i).stc = s.stc := by simp
      have pru : (s.assembleOne g gates statuses i).pru = s.pru := by simp
      have atc : (s.assembleOne g gates statuses i).atc = s.atc := by simp
      generalize s.assembleOne g gates statuses i = u at *
      have seq (j : Fin 4) (other : j ≠ i) : u.cap.seqs[j] = s.cap.seqs[j] := by
        rw [oneCap]
        exact modifyAt_other s.cap.seqs other _
      have same (j : Fin 4) (other : j ≠ i) : u.blockOf g gates statuses j = s.blockOf g gates statuses j :=
        State.blockOf_congr stc pru (by rw [oneCap]; rfl) (seq j other)
      have frames : l.filterMap (u.blockOf g gates statuses) = l.filterMap (s.blockOf g gates statuses) :=
        List.filterMap_congr fun j member => same j fun h => apart (h ▸ member)
      obtain ⟨cap, seqs, joined, idle⟩ := ih rest u
      generalize l.foldl (State.assembleOne g gates statuses) u = t at *
      refine ⟨?_, fun j => (seqs j).trans ?_, fun active => ?_, fun inactive => ?_⟩
      · rw [cap, oneCap]
        rfl
      · by_cases here : j = i
        · subst here
          rw [if_neg (fun h => apart h.1), if_pos ⟨List.mem_cons_self, by rw [built]; rfl⟩, oneCap]
          exact modifyAt_self ..
        · rw [same j here, seq j here]
          simp [here]
      · rw [List.filterMap_cons_some built, List.foldl_cons]
        have first : u = (s.offerAudio f).withCap u.cap := by
          rw [oneCap, one, if_pos active]
          exact State.offerAudio_withCap s f _
        calc t = ((l.filterMap (s.blockOf g gates statuses)).foldl State.offerAudio u).withCap t.cap := by
              rw [← frames]
              exact joined (by rw [atc]; exact active)
          _ = _ := by
              rw [first, State.offers_withCap]
              rfl
      · have first : u = s.withCap u.cap := by
          rw [oneCap, one, if_neg inactive]
          rfl
        calc t = u.withCap t.cap := idle (by rw [atc]; exact inactive)
          _ = _ := by
              rw [first]
              rfl

/-! ## The own audio queue -/

/-- A queue that keeps the last 8 of what joins it. -/
abbrev keptOf (q : List AudioFrame) : List AudioFrame := q.drop (q.length - 8)

/-- Frames offered in turn: the queue keeps the last 8, and each frame pushed out is counted and reported (R47). -/
theorem State.offers_kept (frames : List AudioFrame) (s : State) (fits : s.inq.audio.length ≤ 8) :
    (frames.foldl State.offerAudio s).inq = { s.inq with audio := keptOf (s.inq.audio ++ frames) }
    ∧ (s.counter .audioDropped ≤ 65535 → (frames.foldl State.offerAudio s).counter .audioDropped
        = min 65535 (s.counter .audioDropped + ((s.inq.audio ++ frames).length - 8)))
    ∧ ((frames.foldl State.offerAudio s).flag .audioDropped = true ↔
        s.flag .audioDropped = true ∨ 8 < (s.inq.audio ++ frames).length) := by
  induction frames generalizing s with
  | nil =>
    have none : (s.inq.audio ++ []).length - 8 = 0 := by simp; omega
    refine ⟨?_, fun low => ?_, ?_⟩
    · rw [keptOf, none, List.drop_zero, List.append_nil]
      rfl
    · rw [none, Nat.add_zero, Nat.min_eq_right low]
      rfl
    · exact (or_iff_left (by simp; omega)).symm
  | cons f fs ih =>
    rw [List.foldl_cons]
    by_cases room : s.inq.audio.length < Config.audioCapacity
    · let u := s.withInq { s.inq with audio := s.inq.audio ++ [f] }
      have offered : s.offerAudio f = u := if_pos room
      have queue : s.inq.audio ++ f :: fs = u.inq.audio ++ fs := List.append_cons ..
      have short : u.inq.audio.length ≤ 8 := by
        show (s.inq.audio ++ [f]).length ≤ 8
        rw [List.length_append]
        exact room
      rw [offered, queue]
      exact ih u short
    · let u := ((s.countOne .audioDropped).raise .audioDropped).withInq { s.inq with audio := s.inq.audio.drop 1 ++ [f] }
      have full : s.inq.audio.length = 8 := Nat.le_antisymm fits (Nat.le_of_not_lt room)
      have offered : s.offerAudio f = u := if_neg room
      have queue : (s.inq.audio ++ f :: fs).drop 1 = u.inq.audio ++ fs := by
        show _ = s.inq.audio.drop 1 ++ [f] ++ fs
        rw [List.drop_append_of_le_length (by omega), List.append_cons]
      have length : (s.inq.audio ++ f :: fs).length = (u.inq.audio ++ fs).length + 1 := by
        rw [← queue, List.length_drop]
        simp
        omega
      have atLeast : 8 ≤ (u.inq.audio ++ fs).length := by
        rw [List.length_append]
        show 8 ≤ (s.inq.audio.drop 1 ++ [f]).length + _
        simp
        omega
      have counted : u.counter .audioDropped = min 65535 (s.counter .audioDropped + 1) := by
        show ((s.countOne .audioDropped).raise .audioDropped).counter .audioDropped = _
        rw [State.counter_raise, State.counter_countOne, if_pos rfl]
      have raised : u.flag .audioDropped = true := by
        show ((s.countOne .audioDropped).raise .audioDropped).flag .audioDropped = true
        rw [State.flag_raise]
        rfl
      obtain ⟨inq, counter, flag⟩ := ih u (by show (s.inq.audio.drop 1 ++ [f]).length ≤ 8; simp; omega)
      rw [offered]
      refine ⟨inq.trans ?_, fun _ => (counter (by omega)).trans ?_, ?_⟩
      · have kept : keptOf (u.inq.audio ++ fs) = keptOf (s.inq.audio ++ f :: fs) := by
          rw [keptOf, keptOf, length, ← queue, List.drop_drop]
          congr 1
          rw [queue]
          omega
        rw [kept]
        rfl
      · rw [counted, length]
        omega
      · refine iff_of_true (flag.mpr (.inl raised)) (.inr ?_)
        omega

/-! ## The building tick -/

/-- What fixing the statuses may report (R94). -/
theorem State.statusesFixed_tells (b : Nat) (s : State) :
    State.Tells {.captureFault} (Set.range Counter.irregular) s (s.statusesFixed b) :=
  State.Tells.foldl (fun s q => (s.tells_fixStatus b q).mono subset_rfl (by simp)) _ s

/-- The statuses of the block just ended (R94). -/
def State.statusesNow (s : State) (g : Image) : Vector BlockStatus 2 :=
  mapAll (·.status) (s.statusesFixed g.block.samples).cap.stores

/-- A port's status is of the count of its frames (R94). -/
theorem State.statusesNow_get (s : State) (g : Image) (q : Fin 2) :
    (s.statusesNow g)[q] = blockStatus g.block.samples (s.cap.stores[q]).frameCount := by
  rw [State.statusesNow, mapAll_get, State.statusesFixed_store]

/-- The frames a tick builds, in configuration order (R98). -/
def State.framesBuilt (s : State) (g : Image) : List AudioFrame :=
  (List.finRange 4).filterMap (s.blockOf g (s.gatesNow g) (s.statusesNow g))

/-- A frame is built of the samples, whatever the statuses recorded at the ports (R98). -/
theorem State.statusesFixed_blockOf (b : Nat) (s : State) :
    (s.statusesFixed b).blockOf g gates statuses = s.blockOf g gates statuses := by
  have sample (ch : Fin 16) (i : Nat) : (s.statusesFixed b).cap.blockSample ch i = s.cap.blockSample ch i := by
    unfold Cap.blockSample
    rw [State.statusesFixed_store]
  have same := s.statusesFixed_same b
  have cap := s.statusesFixed_cap b
  have audio (i : Fin 4) (c : Source) :
      (s.statusesFixed b).buildAudio g i c gates statuses = s.buildAudio g i c gates statuses := by
    unfold State.buildAudio State.blockPayload State.channelSample
    simp only [sample]
    rw [cap, same]
    rfl
  funext i
  unfold State.blockOf
  have pru : (s.statusesFixed b).pru = s.pru := (congrArg State.pru same).trans rfl
  simp only [audio, pru]

/-- A field of the frames built, stream by stream (R98). -/
theorem State.framesBuilt_map {β : Type} (F : AudioFrame → β) (G : Fin 4 → β)
    (each : ∀ i c, g.source i = some c → F (s.buildAudio g i c (s.gatesNow g) (s.statusesNow g)) = G i) :
    (s.framesBuilt g).map F
      = ((List.finRange 4).filter fun i => (g.source i).isSome && s.pru.claims[i] == .held).map G := by
  unfold State.framesBuilt
  induction List.finRange 4 with
  | nil => rfl
  | cons i l ih =>
    have some := s.blockOf_isSome (g := g) (gates := s.gatesNow g) (statuses := s.statusesNow g) i
    cases built : s.blockOf g (s.gatesNow g) (s.statusesNow g) i with
    | none =>
      rw [built] at some
      rw [List.filterMap_cons_none built, List.filter_cons_of_neg (by rw [← some]; simp), ih]
    | some f =>
      obtain ⟨c, source, -, rfl⟩ := State.blockOf_some built
      rw [built] at some
      rw [List.filterMap_cons_some built, List.filter_cons_of_pos (by rw [← some]; rfl), List.map_cons, List.map_cons, ih,
        each i c source]

/-- What a tick that builds does to the ports, the own audio queue and the Service Port (R93 to R101). -/
structure State.Builds (g : Image) (s t : State) : Prop where
  cap : t.cap = { s.cap with
    stores := t.cap.stores, seqs := t.cap.seqs, tickDue := false, blockStamp := s.cap.count, gates := s.gatesNow g }
  store : ∀ q : Fin 2, t.cap.stores[q] = { s.cap.stores[q] with
    frames := [], frameCount := 0, status := blockStatus g.block.samples (s.cap.stores[q]).frameCount }
  seqs : ∀ i : Fin 4, t.cap.seqs[i] =
    if (g.source i).isSome = true ∧ s.pru.claims[i] = .held then s.cap.seqs[i] + 1 else s.cap.seqs[i]
  irregular : ∀ q : Fin 2, t.counter (.irregular q) =
    if blockStatus g.block.samples (s.cap.stores[q]).frameCount = .ok then s.counter (.irregular q)
    else min 65535 (s.counter (.irregular q) + 1)
  fault : t.flag .captureFault = true ↔
    s.flag .captureFault = true ∨ ∃ q : Fin 2, blockStatus g.block.samples (s.cap.stores[q]).frameCount ≠ .ok
  active : s.atc.state = .active → s.inq.audio.length ≤ 8 →
    t.inq.audio = keptOf (s.inq.audio ++ s.framesBuilt g)
    ∧ (s.counter .audioDropped ≤ 65535 → t.counter .audioDropped
        = min 65535 (s.counter .audioDropped + ((s.inq.audio ++ s.framesBuilt g).length - 8)))
    ∧ (t.flag .audioDropped = true ↔ s.flag .audioDropped = true ∨ 8 < (s.inq.audio ++ s.framesBuilt g).length)
  inactive : s.atc.state ≠ .active → t.inq = s.inq ∧ t.flag .audioDropped = s.flag .audioDropped

/-- A tick that builds (R93 to R101). -/
theorem State.buildingTick_builds (s : State) (g : Image) : State.Builds g s (s.buildingTick g) := by
  let fixed := s.statusesFixed g.block.samples
  let built := (List.finRange 4).foldl (State.assembleOne g (s.gatesNow g) (s.statusesNow g)) fixed
  have tick : s.buildingTick g = (built.withCap { built.cap.beginBlock with gates := s.gatesNow g }).decideStart := rfl
  have assembled : State.Assembled g (s.gatesNow g) (s.statusesNow g) (List.finRange 4) fixed built :=
    State.assembled_foldl _ (List.nodup_finRange 4) fixed
  have told : State.Tells {.audioDropped} {.audioDropped} fixed built :=
    State.Tells.foldl (fun u i => u.tells_assembleOne g _ _ i) _ _
  have fixing : State.Tells {.captureFault} (Set.range Counter.irregular) s fixed := s.statusesFixed_tells _
  obtain ⟨builtCap, builtSeqs, joined, idle⟩ := assembled
  have fixedSame : fixed = { s with cap := fixed.cap, svp := fixed.svp } := s.statusesFixed_same _
  have fixedCap : fixed.cap = { s.cap with stores := fixed.cap.stores } := s.statusesFixed_cap _
  have fixedStore (q : Fin 2) : fixed.cap.stores[q] = { s.cap.stores[q] with
    status := blockStatus g.block.samples (s.cap.stores[q]).frameCount } := s.statusesFixed_store _ q
  have fixedInq : fixed.inq = s.inq := (congrArg State.inq fixedSame).trans rfl
  have fixedAtc : fixed.atc = s.atc := (congrArg State.atc fixedSame).trans rfl
  have frames : fixed.blockOf g (s.gatesNow g) (s.statusesNow g) = s.blockOf g (s.gatesNow g) (s.statusesNow g) :=
    s.statusesFixed_blockOf _
  have irregular : ∀ q, fixed.counter (.irregular q) = _ := s.statusesFixed_counter g.block.samples
  have fault : fixed.flag .captureFault = true ↔ _ := s.statusesFixed_flag g.block.samples
  have cap : (s.buildingTick g).cap = { built.cap.beginBlock with gates := s.gatesNow g } := by
    rw [tick]
    simp
  have inq : (s.buildingTick g).inq = built.inq := by
    rw [tick]
    simp
  have svp : (s.buildingTick g).svp = built.svp := by
    rw [tick]
    simp
  generalize s.buildingTick g = t at *
  generalize built = built at *
  generalize fixed = fixed at *
  have counter (c : Counter) : t.counter c = built.counter c := by rw [State.counter, svp]; rfl
  have flag (f : EventFlag) : t.flag f = built.flag f := by rw [State.flag, svp]; rfl
  refine ⟨?_, fun q => ?_, fun i => ?_, fun q => ?_, ?_, fun active fits => ?_, fun inactive => ?_⟩
  · rw [cap, builtCap, fixedCap]
    rfl
  · have emptied : t.cap.stores[q] = (built.cap.stores[q]).emptied := by
      rw [cap]
      exact mapAll_get ..
    have kept : built.cap.stores = fixed.cap.stores := (congrArg Cap.stores builtCap).trans rfl
    rw [emptied, kept, fixedStore]
    rfl
  · have kept : t.cap.seqs = built.cap.seqs := (congrArg Cap.seqs cap).trans rfl
    have first : fixed.cap.seqs = s.cap.seqs := (congrArg Cap.seqs fixedCap).trans rfl
    rw [kept, builtSeqs, frames, State.blockOf_isSome, first]
    simp
  · rw [counter, told.counter_stands (by simp), irregular]
  · rw [flag, (told.flag_stands (by simp)).1, fault]
  · have queue := joined (by rw [fixedAtc]; exact active)
    have before : fixed.counter .audioDropped = s.counter .audioDropped := fixing.counter_stands (by simp)
    have flagBefore : fixed.flag .audioDropped = s.flag .audioDropped := (fixing.flag_stands (by simp)).1
    obtain ⟨kept, counted, raised⟩ := State.offers_kept (s.framesBuilt g) fixed (by rw [fixedInq]; exact fits)
    rw [frames] at queue
    have ofInq : built.inq = ((s.framesBuilt g).foldl State.offerAudio fixed).inq := (congrArg State.inq queue).trans rfl
    have ofSvp : built.svp = ((s.framesBuilt g).foldl State.offerAudio fixed).svp := (congrArg State.svp queue).trans rfl
    have ofCounter : built.counter .audioDropped = ((s.framesBuilt g).foldl State.offerAudio fixed).counter .audioDropped := by
      rw [State.counter, ofSvp]
      rfl
    have ofFlag : built.flag .audioDropped = ((s.framesBuilt g).foldl State.offerAudio fixed).flag .audioDropped := by
      rw [State.flag, ofSvp]
      rfl
    rw [← fixedInq, ← before, ← flagBefore, counter, flag, ofCounter, ofFlag, inq, ofInq]
    exact ⟨congrArg Inq.audio kept, counted, raised⟩
  · have still := idle (by rw [fixedAtc]; exact inactive)
    have ofInq : built.inq = fixed.inq := (congrArg State.inq still).trans rfl
    have ofSvp : built.svp = fixed.svp := (congrArg State.svp still).trans rfl
    rw [flag, inq, ofInq, fixedInq, State.flag, ofSvp]
    exact ⟨rfl, (fixing.flag_stands (by simp)).1⟩

/-- A switch of the headphones changes nothing that a tick builds. -/
theorem State.Builds.switched (builds : State.Builds g s t) : State.Builds g s t.switchHeadphones := by
  rw [State.switchHeadphones_eq]
  exact ⟨builds.cap, builds.store, builds.seqs, builds.irregular, builds.fault, builds.active, builds.inactive⟩

/-- A block tick that builds, with its headphone switch (R93 to R101, R156). -/
theorem State.blockTick_built (image : s.stc.image = some g) (running : s.cap.running = true) (later : s.cap.count ≠ 0) :
    State.Builds g s s.blockTick ∧ State.arbiterActs s.rfw s.blockTick ∧ State.headphonesSwitch g s s.blockTick
    ∧ s.blockTick = { s with cap := s.blockTick.cap, rfw := s.blockTick.rfw, inq := s.blockTick.inq
                             ply := s.blockTick.ply, svp := s.blockTick.svp } := by
  refine ⟨?_, ?_, ?_, ?_⟩
  · rw [State.blockTick_builds image running later]
    exact (s.buildingTick_builds g).switched
  · rw [State.blockTick_builds image running later]
    exact (s.buildingTick_acts g).congr (by simp) (by simp) (by simp) (by simp)
  · rw [State.blockTick_builds image running later]
    have now : (s.buildingTick g).stc.image = some g := by simpa using image
    have still : (s.buildingTick g).cap.running = true := by
      rw [(s.buildingTick_builds g).cap]
      exact running
    exact State.headphonesSwitch_congr (State.switchHeadphones_switches now still) (by simp) (by simp) (by simp)
  · refine State.eq_of_items ?_ ?_ ?_ ?_ rfl rfl ?_ ?_ rfl ?_ rfl ?_ ?_ rfl ?_ ?_ <;> simp

end

/-- Settles O36: the statuses are fixed, the blocks assembled, and the headphones switched. -/
theorem buildingTicksBuild : Obligations.BuildingTicksBuild := by
  intro s g image due running later fits ceilings status statuses built
  have low : s.counter .audioDropped ≤ 65535 := ceilings.1 _
  have member (i : Fin 4) : i ∈ built ↔ (g.source i).isSome = true ∧ s.pru.claims[i] = .held := by
    simp [built]
  obtain ⟨builds, acts, switched, same⟩ := State.blockTick_built image running later
  have cap := builds.cap
  refine ⟨s.blockTick, s.framesBuilt g, State.exec_blockTick due, builds.store, builds.irregular, builds.fault,
    fun i => ?_, ?_, ?_, ?_, ?_, fun active => ?_, builds.inactive, ?_, ?_, ?_, ?_, switched,
    acts, same⟩
  · rw [builds.seqs i]
    simp only [member]
  · exact State.framesBuilt_map _ _ fun i c source => rfl
  · exact State.framesBuilt_map _ _ fun i c source => by rw [source]; rfl
  · exact State.framesBuilt_map _ _ fun i c source => by rw [source]; rfl
  · refine State.framesBuilt_map _ _ fun i c source => ?_
    rw [source]
    show some (c.substituted (s.statusesNow g)) = some _
    rw [Source.substituted]
    congr 2
    funext ch
    rw [State.statusesNow_get]
    exact Bool.eq_iff_iff.mpr (bne_iff_ne.trans decide_eq_true_iff.symm)
  · obtain ⟨queue, counted, raised⟩ := builds.active active fits
    exact ⟨queue, counted low, raised⟩
  all_goals rw [cap]

end Sys2Proof.Machine

/-! SUPPORT. The samples that a built block carries: gated, faded and laid out (06 R96 to R98; 01 R10). -/

namespace Sys2Proof.Machine

/-! ## Fades -/

/-- A quotient truncated toward zero: what is left over is smaller than the divisor and has the dividend's sign (R97). -/
theorem truncated_quotient (x m b : Int) (weight : 0 ≤ m) (positive : 0 < b) :
    ∃ r : Int, x * m = b * (x * m).tdiv b + r ∧ |r| < b ∧ 0 ≤ r * x := by
  refine ⟨(x * m).tmod b, (Int.mul_tdiv_add_tmod ..).symm, ?_, ?_⟩
  · exact abs_lt.mpr ⟨Int.lt_tmod_of_pos _ positive, Int.tmod_lt_of_pos _ positive⟩
  · obtain up | down := le_total 0 x
    · exact Int.mul_nonneg (Int.tmod_nonneg _ (Int.mul_nonneg up weight)) up
    · have left : (x * m).tmod b ≤ 0 := by
        have : 0 ≤ (-x * m).tmod b := Int.tmod_nonneg _ (Int.mul_nonneg (by omega) weight)
        rw [Int.neg_mul, Int.neg_tmod] at this
        omega
      exact Int.mul_nonneg_of_nonpos_of_nonpos left down

/-- A channel that is open at both ticks carries its samples as captured, one closed at both nothing, and the others fade
(R97). -/
theorem gatedSample_fades (was now : Bool) {b j : Nat} (inside : j < b) (x : Int) :
    (was = true → now = true → gatedSample was now b j x = x)
    ∧ (was = false → now = false → gatedSample was now b j x = 0)
    ∧ (was = true → now = false → ∃ r : Int, x * (b - j) = b * gatedSample was now b j x + r ∧ |r| < b ∧ 0 ≤ r * x)
    ∧ (was = false → now = true → ∃ r : Int, x * (j + 1) = b * gatedSample was now b j x + r ∧ |r| < b ∧ 0 ≤ r * x) := by
  refine ⟨?_, ?_, ?_, ?_⟩
  · rintro rfl rfl
    rfl
  · rintro rfl rfl
    rfl
  · rintro rfl rfl
    exact truncated_quotient x (b - j) b (by omega) (by omega)
  · rintro rfl rfl
    exact truncated_quotient x (j + 1) b (by omega) (by omega)

/-! ## Gates -/

section
variable {s : State} {g : Image}

/-- The gate a tick records of a configured channel (R96). -/
theorem State.gatesNow_get {i k : Fin 4} {c : Source} {ch : SourceChannel} (source : g.source i = some c)
    (channel : c.channels[k.val]? = some ch) : (s.gatesNow g)[i][k] = s.gateOpen g ch.gating := by
  have row : (s.gatesNow g)[i] = _ := ofFn_get ..
  rw [row, ofFn_get, source, Option.bind_some, channel]

/-- When a gate is open (R96). -/
theorem State.gateOpen_iff (s : State) (g : Image) (gating : Gating) : s.gateOpen g gating = true ↔
    match gating with
    | .always => True
    | .onAir p => s.venue = false
        ∨ s.pos.held.getLsbD (4 * p.val) = false ∧ s.pos.held.getLsbD (4 * p.val + 1) = false
    | .talk p =>
      if s.venue = true then s.pos.held.getLsbD (4 * p.val + 1) = true
      else ∃ l : Fin 16, (g.inputs[l]).use = .talk ∧ (g.inputs[l]).position.toNat = p.val
        ∧ s.pos.held.getLsbD l.val = true := by
  cases gating with
  | always => simp [State.gateOpen]
  | onAir p => simp [State.gateOpen, State.inputHeld]
  | talk p =>
    cases venue : s.venue with
    | true => simp [State.gateOpen, venue, State.inputHeld]
    | false => simp [State.gateOpen, venue, State.talkInputHeld, State.inputHeld, and_assoc]

/-! ## The layout of a payload -/

/-- The octets of a sample at the stream's width (R10). -/
abbrev widthOf (wide : Bool) : Nat := if wide = true then 3 else 2

/-- A sample has as many octets as the width has. -/
theorem sampleOctets_length (wide : Bool) (x : Sample) : (sampleOctets wide x).length = widthOf wide := by
  cases wide <;> rfl

/-- An octet of a two's complement number (R10). -/
theorem extractLsb'_ofInt (n place : Nat) (v : Int) (inside : place + 8 ≤ n) :
    (BitVec.ofInt n v).extractLsb' place 8 = BitVec.ofInt 8 (v / 2 ^ place) := by
  obtain ⟨k, rfl⟩ := Nat.exists_eq_add_of_le inside
  let rest := v % 2 ^ (place + 8 + k)
  have low : 0 ≤ rest := Int.emod_nonneg _ (by positivity)
  have parts : v = rest + 2 ^ place * (256 * (2 ^ k * (v / 2 ^ (place + 8 + k)))) :=
    calc v = rest + 2 ^ (place + 8 + k) * (v / 2 ^ (place + 8 + k)) := (Int.emod_add_mul_ediv ..).symm
      _ = _ := by
        generalize v / 2 ^ (place + 8 + k) = q
        ring
  have octet : rest / 2 ^ place % 256 = v / 2 ^ place % 256 := by
    conv_rhs => rw [parts]
    rw [Int.add_mul_ediv_left _ _ (by positivity), Int.add_mul_emod_self_left]
  apply BitVec.eq_of_toNat_eq
  rw [BitVec.extractLsb'_toNat, BitVec.toNat_ofInt, BitVec.toNat_ofInt, Nat.shiftRight_eq_div_pow]
  apply Int.natCast_inj.mp
  push_cast
  rw [Int.toNat_of_nonneg low, Int.toNat_of_nonneg (Int.emod_nonneg _ (by decide))]
  exact octet

/-- The octets of a sample, most significant first (R10). -/
theorem sampleOctets_eq (wide : Bool) (v : Sample) : sampleOctets wide v =
    (List.range (widthOf wide)).map fun o => BitVec.ofInt 8 (v / 256 ^ (widthOf wide - 1 - o)) := by
  cases wide with
  | false =>
    have high := extractLsb'_ofInt 16 8 v (by omega)
    have low := extractLsb'_ofInt 16 0 v (by omega)
    simp [sampleOctets, octets16, widthOf, List.range_succ, high, low]
  | true =>
    have high := extractLsb'_ofInt 24 16 v (by omega)
    have mid := extractLsb'_ofInt 24 8 v (by omega)
    have low := extractLsb'_ofInt 24 0 v (by omega)
    simp [sampleOctets, widthOf, List.range_succ, high, mid, low]

/-- Lists of one length laid out in turn: what stands from the i-th on. -/
theorem flatMap_drop {α β : Type} {l : List α} {f : α → List β} {w i : Nat} {x : α} (here : l[i]? = some x)
    (before : ∀ y ∈ l.take i, (f y).length = w) : (l.flatMap f).drop (i * w) = f x ++ (l.drop (i + 1)).flatMap f := by
  induction l generalizing i with
  | nil => simp at here
  | cons y l ih =>
    cases i with
    | zero =>
      obtain rfl : y = x := by simpa using here
      simp
    | succ i =>
      have first : (f y).length = w := before y (by simp)
      have amount : (i + 1) * w = (f y).length + i * w := by rw [first, Nat.succ_mul, Nat.add_comm]
      rw [List.flatMap_cons, amount, ← List.drop_drop, List.drop_left]
      exact ih (by simpa using here) fun z member => before z (by simp [member])

/-- Lists of one length laid out in turn: the i-th. -/
theorem flatMap_slice {α β : Type} {l : List α} {f : α → List β} {w i : Nat} {x : α} (here : l[i]? = some x)
    (before : ∀ y ∈ l.take i, (f y).length = w) : ((l.flatMap f).drop (i * w)).take (f x).length = f x := by
  rw [flatMap_drop here before, List.take_left]

/-- One sample frame of a payload: each channel's sample, channel 0 first (R10). -/
def State.sampleFrame (s : State) (g : Image) (c : Source) (was now : Vector Bool 4) (i : Nat) : List Octet :=
  (List.finRange 4).flatMap fun k =>
    match c.channels[k.val]? with
    | some ch => sampleOctets c.wide (s.channelSample g c ch was[k] now[k] i)
    | none => []

theorem State.blockPayload_eq (s : State) (g : Image) (c : Source) (was now : Vector Bool 4) :
    s.blockPayload g c was now = (List.range g.block.samples).flatMap (s.sampleFrame g c was now) := rfl

/-- What a sample frame holds of a channel that the stream has (R10). -/
theorem State.sampleFrame_channel {c : Source} {k : Fin 4} {ch : SourceChannel} (channel : c.channels[k.val]? = some ch)
    (was now : Vector Bool 4) (i : Nat) :
    ((s.sampleFrame g c was now i).drop (k.val * widthOf c.wide)).take (widthOf c.wide)
      = sampleOctets c.wide (s.channelSample g c ch was[k] now[k] i) := by
  have slice := flatMap_slice (l := List.finRange 4) (w := widthOf c.wide) (x := k)
    (f := fun k => match c.channels[k.val]? with
      | some ch => sampleOctets c.wide (s.channelSample g c ch was[k] now[k] i)
      | none => []) (i := k.val) (by simp) fun y member => by
    have earlier : y.val < k.val := by
      obtain ⟨m, low, rfl⟩ := List.mem_take_iff_getElem.mp member
      simpa using (Nat.lt_min.mp low).1
    have inside : k.val < c.channels.length := (List.getElem?_eq_some_iff.mp channel).1
    rw [List.getElem?_eq_getElem (by omega)]
    exact sampleOctets_length ..
  rw [channel, sampleOctets_length] at slice
  exact slice

/-- The octets of a sample frame (R10). -/
theorem State.sampleFrame_length {c : Source} (few : c.channels.length ≤ 4) (was now : Vector Bool 4) (i : Nat) :
    (s.sampleFrame g c was now i).length = c.channels.length * widthOf c.wide := by
  have each (k : Fin 4) : (match c.channels[k.val]? with
      | some ch => sampleOctets c.wide (s.channelSample g c ch was[k] now[k] i)
      | none => []).length = if k.val < c.channels.length then widthOf c.wide else 0 := by
    by_cases inside : k.val < c.channels.length
    · rw [List.getElem?_eq_getElem inside, if_pos inside]
      exact sampleOctets_length ..
    · rw [List.getElem?_eq_none (Nat.le_of_not_lt inside), if_neg inside]
      rfl
  rw [State.sampleFrame, List.length_flatMap]
  simp only [each]
  generalize widthOf c.wide = w
  generalize c.channels.length = n at few
  have four : List.finRange 4 = [0, 1, 2, 3] := rfl
  rw [four]
  interval_cases n <;> simp <;> omega

/-- What a block's payload holds of a channel at an index (R10). -/
theorem State.blockPayload_slice {c : Source} {k : Fin 4} {ch : SourceChannel} {j : Nat} (few : c.channels.length ≤ 4)
    (channel : c.channels[k.val]? = some ch) (inside : j < g.block.samples) (was now : Vector Bool 4) :
    ((s.blockPayload g c was now).drop ((j * c.channels.length + k.val) * widthOf c.wide)).take (widthOf c.wide)
      = sampleOctets c.wide (s.channelSample g c ch was[k] now[k] j) := by
  have frames := flatMap_drop (l := List.range g.block.samples) (f := s.sampleFrame g c was now) (i := j) (x := j)
    (by simp [inside]) fun i _ => State.sampleFrame_length few was now i
  have place : (j * c.channels.length + k.val) * widthOf c.wide
      = j * (c.channels.length * widthOf c.wide) + k.val * widthOf c.wide := by ring
  have index : k.val < c.channels.length := (List.getElem?_eq_some_iff.mp channel).1
  have room : k.val * widthOf c.wide + widthOf c.wide ≤ (s.sampleFrame g c was now j).length := by
    rw [State.sampleFrame_length few, ← Nat.succ_mul]
    exact Nat.mul_le_mul_right _ index
  rw [place, ← List.drop_drop, State.blockPayload_eq, frames, List.drop_append_of_le_length (by omega),
    List.take_append_of_le_length (by rw [List.length_drop]; omega)]
  exact State.sampleFrame_channel channel was now j

/-- The octets of a block's payload (R10). -/
theorem State.blockPayload_length {c : Source} (few : c.channels.length ≤ 4) (was now : Vector Bool 4) :
    (s.blockPayload g c was now).length = g.block.samples * c.channels.length * widthOf c.wide := by
  rw [State.blockPayload_eq, List.length_flatMap, List.map_congr_left fun i _ => State.sampleFrame_length few was now i,
    List.map_const', List.sum_replicate, List.length_range, smul_eq_mul, Nat.mul_assoc]

end

/-- Settles O37: the sample of the channel, gated, stands at its place in the payload. -/
theorem gatesFadeOverOneBlock : Obligations.GatesFadeOverOneBlock := by
  intro s g i k c ch j image due running later source few channel inside port b raw x was now width
  obtain ⟨builds, -, -, -⟩ := State.blockTick_built image running later
  obtain ⟨steady, shut, out, into⟩ := gatedSample_fades was now inside x
  have gate : now = s.gateOpen g ch.gating := State.gatesNow_get source channel
  have converted : convertWidth (g.capture[port]).wide c.wide raw = x := by
    dsimp only [x]
    cases (g.capture[port]).wide <;> cases c.wide <;> rfl
  have sample : s.channelSample g c ch was now j = gatedSample was now g.block.samples j x :=
    congrArg (gatedSample was now g.block.samples j) converted
  refine ⟨s.blockTick, gatedSample was now g.block.samples j x, State.exec_blockTick due, ?_, steady, shut, out, into, ?_,
    fun held active fits => ?_⟩
  · rw [builds.cap]
  · rw [gate]
    exact s.gateOpen_iff g ch.gating
  · let f := s.buildAudio g i c (s.gatesNow g) (s.statusesNow g)
    have built : f ∈ s.framesBuilt g :=
      List.mem_filterMap.mpr ⟨i, List.mem_finRange i, State.blockOf_held source held⟩
    have few4 : (s.framesBuilt g).length ≤ 4 :=
      (List.length_filterMap_le ..).trans (by simp)
    have kept : f ∈ keptOf (s.inq.audio ++ s.framesBuilt g) := by
      rw [keptOf, List.drop_append_of_le_length (by rw [List.length_append]; omega)]
      exact List.mem_append_right _ built
    have slice := State.blockPayload_slice (s := s) few channel inside s.cap.gates[i] (s.gatesNow g)[i]
    refine ⟨f, ?_, rfl, rfl, rfl, State.blockPayload_length few .., ?_⟩
    · rw [(builds.active active fits).1]
      exact kept
    · rw [← sampleOctets_eq]
      exact slice.trans (congrArg _ sample)

end Sys2Proof.Machine

/-! SUPPORT. What the tests of reception make of a block: stopped, locked on, relocked on (07 R113 to R123; 08 R126,
R127). -/

namespace Sys2Proof.Machine

section
variable {s t : State} {f : RxFrame} {rest : List RxFrame} {a : AudioFrame} {g : Image} {n : Fin 16} {y : Context}
  {answer : Offer}

/-! ## The frame taken -/

/-- The state in which a block has been offered, its context become what the tests make of it (R113). -/
def State.blockOffered (s : State) (rest : List RxFrame) (n : Fin 16) (y : Context) (answer : Offer) : State :=
  ((s.withRx { s.rx with closed := rest }).setContext n fun _ => y).offerEffects n answer

/-- The state in which a block has been offered and forwarded (R38, R113). -/
def State.blockTaken (s : State) (f : RxFrame) (rest : List RxFrame) (n : Fin 16) (y : Context) (answer : Offer) : State :=
  ((s.blockOffered rest n y answer).appendRepeat (forwarded f.octets answer.accepted)).decideStart

/-- The arrival of an AUDIO frame of a subscribed stream: it is offered and goes on (R38, R113). -/
theorem State.exec_audioTaken (takes : s.takes f rest (.audio a)) (service : s.inService = true)
    (image : s.stc.image = some g) (other : a.origin ≠ s.address) (hops : hopsOf f.octets ≠ 0#5)
    (subscribed : g.subscriptionOf a.stream = some n) (offer : (s.srx[n]).offer g a s.cap.count = (y, answer)) :
    exec .frameArrival s = .next (s.blockTaken f rest n y answer) := by
  obtain ⟨arrives, wellFormed, read⟩ := takes
  have offered : (s.withRx { s.rx with closed := rest }).offerToCopier (.audio a)
      = (s.blockOffered rest n y answer, answer.accepted) := by
    have := State.offerToSrx_subscribed (s := s.withRx { s.rx with closed := rest }) service image subscribed
    rwa [State.withRx_srx, State.withRx_cap, offer] at this
  have taken := State.takeFrame_offered (s := s.withRx { s.rx with closed := rest }) read other hops
  rw [offered] at taken
  rw [arrives.exec_eq, State.judgeFrame_wellFormed _ wellFormed, taken]
  rfl

/-- The arrival of an AUDIO frame that no subscription names (R113). -/
theorem State.exec_audioUnsubscribed (takes : s.takes f rest (.audio a)) (service : s.inService = true)
    (image : s.stc.image = some g) (other : a.origin ≠ s.address) (hops : hopsOf f.octets ≠ 0#5)
    (unsubscribed : g.subscriptionOf a.stream = none) : exec .frameArrival s
      = .next (((s.withRx { s.rx with closed := rest }).appendRepeat (forwarded f.octets false)).decideStart) := by
  obtain ⟨arrives, wellFormed, read⟩ := takes
  have here : (s.withRx { s.rx with closed := rest }).inService = true := service
  have offered : (s.withRx { s.rx with closed := rest }).offerToCopier (.audio a)
      = (s.withRx { s.rx with closed := rest }, false) := by
    show (s.withRx { s.rx with closed := rest }).offerToSrx a = _
    simp only [State.offerToSrx, here, State.withRx_stc, image, unsubscribed]
  have taken := State.takeFrame_offered (s := s.withRx { s.rx with closed := rest }) read other hops
  rw [offered] at taken
  rw [arrives.exec_eq, State.judgeFrame_wellFormed _ wellFormed, taken]

/-- The blocks that a block taken leaves alone: those of the ports, the claims, the attachment and the transit list. -/
theorem State.blockTaken_items (s : State) (f : RxFrame) (rest : List RxFrame) (n : Fin 16) (y : Context) (answer : Offer) :
    (s.blockTaken f rest n y answer).srx = s.srx.set n.val y n.isLt
    ∧ (s.blockTaken f rest n y answer).cap = s.cap ∧ (s.blockTaken f rest n y answer).pru = s.pru
    ∧ (s.blockTaken f rest n y answer).atc = s.atc ∧ (s.blockTaken f rest n y answer).trm = s.trm
    ∧ (s.blockTaken f rest n y answer).inq = s.inq
    ∧ (s.blockTaken f rest n y answer).pos = (s.blockOffered rest n y answer).pos := by
  refine ⟨?_, ?_, ?_, ?_, ?_, ?_, ?_⟩
  · simp [State.blockTaken, State.blockOffered, State.setContext, modifyAt]
  all_goals simp [State.blockTaken, State.blockOffered, State.setContext]

/-- With room in the repeat queue the frame joins its tail, rewritten in transit (R38). -/
theorem State.blockTaken_repeats (room : s.rfw.occupancy + f.octets.length ≤ 4096) :
    (s.blockTaken f rest n y answer).rfw.repeats
      = s.rfw.repeats ++ [f.octets.set 2 (transitOctet (hopsOf f.octets - 1) (copiedOf f.octets || answer.accepted))] := by
  rw [State.blockTaken, State.decideStart_repeats, State.appendRepeat_fits (by simpa [State.blockOffered, State.setContext] using room)]
  simp [State.blockOffered, State.setContext, forwarded, rewriteTransit]

/-- A block declined and forwarded reports nothing (R120). -/
theorem State.blockTaken_quiet (room : s.rfw.occupancy + f.octets.length ≤ 4096) :
    (s.blockTaken f rest n y .declined).svp = s.svp := by
  have fits : (s.blockOffered rest n y .declined).rfw.occupancy + (forwarded f.octets Offer.declined.accepted).length
      ≤ 4096 := by
    rw [forwarded_length]
    exact room
  rw [State.blockTaken, State.appendRepeat_fits fits]
  have quiet : (s.blockOffered rest n y .declined).svp = s.svp := rfl
  simpa using quiet

/-- Forwarding reports a drop alone (R40). -/
theorem State.blockTaken_flag {e : EventFlag} (other : e ≠ .repeatOverflow) :
    (s.blockTaken f rest n y answer).flag e = (s.blockOffered rest n y answer).flag e := by
  rw [State.blockTaken, State.flag_decideStart]
  exact ((State.tells_appendRepeat _ _).flag_stands (by simpa using other)).1

/-- A block locked on raises STREAM_LOCKED and no other flag (R126). -/
theorem State.blockOffered_locked (s : State) (rest : List RxFrame) (n : Fin 16) (y : Context) (e : EventFlag) :
    (s.blockOffered rest n y .locked).flag e = (decide (e = .streamLocked) || s.flag e) := by
  have svp : (s.blockOffered rest n y .locked).svp = (s.raise .streamLocked).svp := by
    simp only [State.blockOffered, State.offerEffects]
    split <;> simp <;> rfl
  rw [← State.flag_raise, State.flag, svp]
  rfl

/-- A block relocked on raises STREAM_RELOCKED and no other flag (R127). -/
theorem State.blockOffered_relocked (s : State) (rest : List RxFrame) (n : Fin 16) (y : Context) (e : EventFlag) :
    (s.blockOffered rest n y .relocked).flag e = (decide (e = .streamRelocked) || s.flag e) := by
  have svp : (s.blockOffered rest n y .relocked).svp = (s.raise .streamRelocked).svp := by
    simp only [State.blockOffered, State.offerEffects]
    simp
    rfl
  rw [← State.flag_raise, State.flag, svp]
  rfl

/-- The panel as a block is locked on: the fallback timers of the return programme stop (R170). -/
theorem State.blockOffered_pos (image : s.stc.image = some g) : (s.blockOffered rest n y .locked).pos =
    if g.designated .programme = some n ∧ s.venue = true then
      { s.pos with positions := mapAll (fun q => Position.judged { q with timer := .idle }) s.pos.positions }
    else s.pos := by
  let u := ((s.withRx { s.rx with closed := rest }).setContext n fun _ => y).raise .streamLocked
  have same : u.returnStream = g.designated .programme := by
    have here : u.stc.image = some g := image
    rw [State.returnStream, here]
    rfl
  have offered : s.blockOffered rest n y .locked
      = (if u.returnStream = some n then u.stopFallback else u).refreshStream n := rfl
  have refreshed (v : State) : (v.refreshStream n).pos = v.pos := by simp
  rw [offered, same, refreshed]
  by_cases programme : g.designated .programme = some n
  · rw [if_pos programme, State.stopFallback]
    by_cases venue : s.venue = true
    · exact (congrArg State.pos (if_pos venue)).trans (if_pos (And.intro programme venue)).symm
    · exact (congrArg State.pos (if_neg venue)).trans (if_neg fun h => venue h.2).symm
  · rw [if_neg programme, if_neg fun h => programme h.1]
    rfl

/-! ## The tests -/

/-- A frame of another origin than the context's is counted unclaimed (R113). -/
theorem Context.offer_unclaimed {x : Context} {now : Word} (other : x.origin ≠ some a.origin) :
    x.offer g a now = (x.countOne .unclaimed, .declined) := if_pos other

/-- A frame of another block length is counted format refused (R115). -/
theorem Context.offer_refused {x : Context} {now : Word} (origin : x.origin = some a.origin)
    (code : a.format.blockCode ≠ g.block.code) : x.offer g a now = (x.countOne .formatRefused, .declined) :=
  (if_neg (not_not.mpr origin)).trans (if_pos code)

/-- A frame that passes the first tests is dealt with by the state of the context (R116). -/
theorem Context.offer_byState {x : Context} {now : Word} (origin : x.origin = some a.origin)
    (code : a.format.blockCode = g.block.code) : x.offer g a now =
    match x.state with
    | .waiting => (x.countOne .unclaimed, .declined)
    | .acquiring => (x.lock g a now, .locked)
    | .locked => x.lockedTest g a now := (if_neg (not_not.mpr origin)).trans (if_neg (not_not.mpr code))

/-- The margin test counts no block lost (R129 to R132). -/
theorem Context.marginTest_lost (x : Context) (g : Image) (a : AudioFrame) (now : Word) :
    (x.marginTest g a now).1.counter .lost = x.counter .lost := by
  by_cases late : x.findsLate a
  · rw [Context.marginTest_late late]
    split <;> simp [Context.relock_counter, Context.lateCounted_counter]
  by_cases early : 7 * (g.block.samples : Int) ≤ x.marginOf a.stamp now ∨ 8 ≤ x.queue.length
  · rw [Context.marginTest_early ⟨late, early⟩]
    split <;> simp [Context.relock_counter, Context.earlyCounted_counter]
  · rw [Context.marginTest_inRange late early]
    exact (x.inRange_placed g a now).2.2.2.2

section
variable {x : Context} {now : Word} {d : Nat}

/-- A sequence far behind is a duplicate (R117). -/
theorem Context.lockedTest_duplicate (d_eq : (a.seq - x.expSeq).toNat = d) (far : 32768 ≤ d) :
    x.lockedTest g a now = (x.countOne .duplicate, .declined) := by
  subst d_eq
  exact if_pos far

/-- A sequence far ahead is a jump, and relocked on (R118). -/
theorem Context.lockedTest_jump (d_eq : (a.seq - x.expSeq).toNat = d) (from256 : 256 ≤ d) (near : d < 32768) :
    x.lockedTest g a now = (x.relock g a now, .relocked) := by
  subst d_eq
  exact (if_neg (by omega)).trans (if_pos from256)

/-- A sequence just ahead counts the blocks missing lost, and is judged by its stamp (R119). -/
theorem Context.lockedTest_gap (d_eq : (a.seq - x.expSeq).toNat = d) (near : d < 256) :
    x.lockedTest g a now = if a.stamp = x.expStamp + BitVec.ofNat 32 (g.block.samples * d) then
        ((x.countBy .lost d).advance g.block a).marginTest g a now
      else ((x.countBy .lost d).relock g a now, .relocked) := by
  subst d_eq
  rw [BitVec.ofNat_mul]
  exact (if_neg (by omega)).trans (if_neg (by omega))

end

/-- When a LOCKED context relocks on a block: on a jump, or on a gap whose stamp is not the one expected (R118, R119). -/
theorem Context.lockedTest_relocks {x : Context} {now : Word}
    (relocks : 256 ≤ (a.seq - x.expSeq).toNat ∧ (a.seq - x.expSeq).toNat < 32768
      ∨ (a.seq - x.expSeq).toNat < 256
        ∧ a.stamp ≠ x.expStamp + BitVec.ofNat 32 (g.block.samples * (a.seq - x.expSeq).toNat)) :
    x.lockedTest g a now =
      ((if 256 ≤ (a.seq - x.expSeq).toNat then x else x.countBy .lost (a.seq - x.expSeq).toNat).relock g a now,
        .relocked) := by
  obtain ⟨from256, near⟩ | ⟨near, stamp⟩ := relocks
  · rw [if_pos from256]
    exact Context.lockedTest_jump rfl from256 near
  · rw [if_neg (Nat.not_le.mpr near)]
    exact (Context.lockedTest_gap rfl near).trans (if_neg stamp)

/-- On a sequence just ahead the blocks missing are counted lost, whatever the stamp and the margin (R119). -/
theorem Context.lockedTest_lost {x : Context} {now : Word} (near : (a.seq - x.expSeq).toNat < 256) :
    (x.lockedTest g a now).1.counter .lost = min 65535 (x.counter .lost + (a.seq - x.expSeq).toNat) := by
  have lost := x.counter_countBy .lost .lost (a.seq - x.expSeq).toNat
  rw [Context.lockedTest_gap rfl near]
  split
  · exact (Context.marginTest_lost ..).trans lost
  · exact (Context.relock_counter ..).trans lost

/-- A frame that the first tests stop goes on as it came, one counter of its context moved (R113 to R116, R120). -/
theorem State.exec_audioStopped (takes : s.takes f rest (.audio a)) (service : s.inService = true)
    (image : s.stc.image = some g) (other : a.origin ≠ s.address) (hops : hopsOf f.octets ≠ 0#5)
    (room : s.rfw.occupancy + f.octets.length ≤ 4096) (subscribed : g.subscriptionOf a.stream = some n)
    {c : ContextCounter} (offer : (s.srx[n]).offer g a s.cap.count = ((s.srx[n]).countOne c, .declined)) :
    exec .frameArrival s = .next (State.decideStart { s with
      rx := { s.rx with closed := rest }
      rfw := { s.rfw with
        repeats := s.rfw.repeats ++ [f.octets.set 2 (transitOctet (hopsOf f.octets - 1) (copiedOf f.octets))] }
      srx := s.srx.set n.val ((s.srx[n]).countOne c) n.isLt }) := by
  have forwards : forwarded f.octets false = f.octets.set 2 (transitOctet (hopsOf f.octets - 1) (copiedOf f.octets)) := by
    rw [forwarded, rewriteTransit, Bool.or_false]
  have fits : (s.blockOffered rest n ((s.srx[n]).countOne c) .declined).rfw.occupancy
      + (forwarded f.octets Offer.declined.accepted).length ≤ 4096 := by
    rw [forwarded_length]
    exact room
  rw [State.exec_audioTaken takes service image other hops subscribed offer, State.blockTaken,
    State.appendRepeat_fits fits, Offer.accepted, forwards]
  rfl

end

/-- Settles O38: the offer to an ACQUIRING context is a lock. -/
theorem acquiringContextsLock : Obligations.AcquiringContextsLock := by
  intro s f rest a g n takes acquiring x offset
  obtain ⟨taken, service, image, other, hops, subscribed, origin, code⟩ := takes
  have offer : x.offer g a s.cap.count = (x.lock g a s.cap.count, .locked) := by
    rw [Context.offer_byState origin code, acquiring]
  have step := State.exec_audioTaken taken service image other hops subscribed offer
  obtain ⟨srx, cap, pru, atc, trm, inq, pos⟩ := s.blockTaken_items f rest n (x.lock g a s.cap.count) .locked
  have flag (e : EventFlag) (other : e ≠ .repeatOverflow) :
      (s.blockTaken f rest n (x.lock g a s.cap.count) .locked).flag e = (decide (e = .streamLocked) || s.flag e) :=
    (State.blockTaken_flag other).trans (State.blockOffered_locked ..)
  rw [State.blockOffered_pos image] at pos
  refine ⟨_, step, ⟨a.blockRecord g.block true, srx, rfl, rfl, rfl, rfl, a.blockRecord_holds g.block true⟩, ?_, ?_,
    fun venue programme p => ?_, fun none => ?_, fun room => ?_, cap, pru, atc, trm, inq⟩
  · rw [flag _ (by decide)]
    rfl
  · rw [flag _ (by decide)]
    rfl
  · rw [if_pos ⟨programme, State.venue_eq_true.mpr venue⟩] at pos
    rw [pos]
    have position := mapAll_get (fun q => Position.judged { q with timer := .idle }) s.pos.positions p
    rw [position]
    exact ⟨rfl, rfl⟩
  · rw [pos, if_neg]
    rintro ⟨programme, venue⟩
    obtain gallery | other := none
    · exact absurd (State.venue_eq_true.mp venue) (by rw [gallery]; decide)
    · exact other programme
  · rw [State.blockTaken_repeats room]
    simp [Offer.accepted]

/-- Settles O39: the tests in their order, and the relock. -/
theorem sequenceTestsClassify : Obligations.SequenceTestsClassify := by
  refine ⟨fun s f rest a g takes service image other hops room => ?_, fun s f rest a g n takes locked => ?_⟩
  · intro o declined
    have forwards : forwarded f.octets false = o := by
      rw [forwarded, rewriteTransit, Bool.or_false]
    refine ⟨fun unsubscribed => ?_, fun n subscribed => ?_⟩
    · rw [State.exec_audioUnsubscribed takes service image other hops unsubscribed,
        State.appendRepeat_fits (by rw [forwarded_length]; exact room), forwards]
      rfl
    · intro x stopped
      have stops {c : ContextCounter} (offer : x.offer g a s.cap.count = (x.countOne c, .declined)) :
          exec .frameArrival s = .next (stopped c).decideStart :=
        State.exec_audioStopped takes service image other hops room subscribed offer
      refine ⟨fun stop => ?_, fun origin code => stops (Context.offer_refused origin code)⟩
      by_cases origin : x.origin = some a.origin
      · obtain wrong | ⟨code, waiting⟩ := stop
        · exact absurd origin wrong
        · exact stops ((Context.offer_byState origin code).trans (by rw [waiting]))
      · exact stops (Context.offer_unclaimed origin)
  · intro x d offset relocks goesOn
    have ⟨taken, service, image, other, hops, subscribed, origin, code⟩ := takes
    obtain ⟨y, answer, test⟩ : ∃ y answer, x.lockedTest g a s.cap.count = (y, answer) := ⟨_, _, rfl⟩
    have judged : x.offer g a s.cap.count = (y, answer) := by
      rw [Context.offer_byState origin code, locked]
      exact test
    have step := State.exec_audioTaken taken service image other hops subscribed judged
    obtain ⟨srx, cap, pru, atc, trm, -, -⟩ := s.blockTaken_items f rest n y answer
    have context : (s.blockTaken f rest n y answer).srx[n] = y :=
      (congrArg (fun v : Vector Context 16 => v[n]) srx).trans (Vector.getElem_set_self n.isLt)
    refine ⟨_, step, fun far => ?_, fun near => ?_, fun relocked => ?_, cap, pru, atc, trm⟩
    · have duplicate := Context.lockedTest_duplicate (x := x) (g := g) (now := s.cap.count) rfl far
      obtain ⟨rfl, rfl⟩ := Prod.mk.inj (test.symm.trans duplicate)
      refine ⟨srx, fun room => ?_, fun room => congrArg Svp.flags (State.blockTaken_quiet room)⟩
      rw [State.blockTaken_repeats room, Offer.accepted, Bool.or_false]
    · have lost := Context.lockedTest_lost (x := x) (g := g) (now := s.cap.count) near
      rw [test] at lost
      rw [context]
      exact lost
    · let z : Context := if 256 ≤ d then x else x.countBy .lost d
      have outcome : x.lockedTest g a s.cap.count = (z.relock g a s.cap.count, .relocked) :=
        Context.lockedTest_relocks relocked
      obtain ⟨rfl, rfl⟩ := Prod.mk.inj (test.symm.trans outcome)
      have same : z = { x with counters := z.counters } := by
        dsimp only [z]
        split <;> rfl
      have counter (c : ContextCounter) (other : c ≠ .lost) : z.counter c = x.counter c := by
        dsimp only [z]
        split
        · rfl
        · exact (x.counter_countBy .lost c d).trans (if_neg other)
      have flag (e : EventFlag) (other : e ≠ .repeatOverflow) :
          (s.blockTaken f rest n (z.relock g a s.cap.count) .relocked).flag e
            = (decide (e = .streamRelocked) || s.flag e) :=
        (State.blockTaken_flag other).trans (State.blockOffered_relocked ..)
      refine ⟨fun room => ?_, z.relock g a s.cap.count, a.blockRecord g.block true, srx, ?_, rfl, rfl, rfl, rfl,
        a.blockRecord_holds g.block true, ?_, ?_, ?_, ?_, ?_, ?_, ?_⟩
      · rw [State.blockTaken_repeats room, Offer.accepted, Bool.or_true]
      · rw [same]
        rfl
      · rw [same]
        show some _ = _
        cases x.runOut <;> rfl
      · rw [Context.relock_counter, if_pos (.inr rfl), counter _ (by decide)]
      · rw [Context.relock_counter, if_pos (.inl rfl), counter _ (by decide)]
      · rw [Context.relock_counter, if_neg (by decide), counter _ (by decide)]
      · rw [Context.relock_counter, if_neg (by decide)]
        dsimp only [z]
        split
        · rfl
        · exact x.counter_countBy .lost .lost d
      · rw [flag _ (by decide)]
        rfl
      · rw [flag _ (by decide)]
        rfl

end Sys2Proof.Machine

/-! SUPPORT. What a stream sends at a count, how a run-out ends, and the playout ports (09 R143 to R153). -/

namespace Sys2Proof.Machine

/-! ## The values of a stream -/

/-- A block's sample with its fade is what is left of the product truncated toward zero (R149). -/
theorem fade_truncated (p : Int) {b : Nat} (positive : 0 < b) : ∃ r : Int, p = b * p.tdiv b + r ∧ |r| < b ∧ 0 ≤ r * p := by
  simpa using truncated_quotient p 1 b (by decide) (by omega)

/-- Silence fades to silence. -/
theorem fadeSample_silence (fade : Fade) (b i : Nat) : fadeSample fade b i 0 = 0 := by
  cases fade <;> simp [fadeSample]

section
variable {x : Context} {k : BlockRecord} {fade : Fade} {b i : Nat} {t : Word} {c : Fin 4}

/-- The output sample index of a source index within the output block (R146). -/
theorem Context.outputIndex_eq (short : i < 96)
    (index : t - x.rPlay = x.nextBoundary - BitVec.ofNat 32 b + BitVec.ofNat 32 i) : x.outputIndex b t = i := by
  rw [Context.outputIndex, index, signedDiff, add_sub_cancel_left, BitVec.toInt_eq_toNat_of_lt] <;> simp <;> omega

/-- A LOCKED stream with an output block sends its sample, faded (R146). -/
theorem Context.value_plays (locked : x.state = .locked) (output : x.output = ⟨some k, fade⟩)
    (index : x.outputIndex b t = i) :
    x.value b t c = fadeSample fade b i (((k.samples[i]?).bind (·[c.val]?)).getD 0) := by
  simp only [Context.value, locked, output, index]
  rfl

/-- Without an output block a stream sends its run-out, or is silent (R146, R152). -/
theorem Context.value_idle (idle : x.state ≠ .locked ∨ x.output.source = none) :
    x.value b t c = match x.runOut with
      | some o => o.value b c
      | none => 0 := by
  cases runOut : x.runOut <;> simp only [Context.value, runOut]
  all_goals
    obtain other | free := idle
    · cases state : x.state with
      | locked => exact absurd state other
      | waiting => rfl
      | acquiring => rfl
    · rw [free]
      cases x.state <;> rfl

/-- A run-out sends its block's samples fading out (R152). -/
theorem Context.value_runs (idle : x.state ≠ .locked ∨ x.output.source = none) (runOut : x.runOut = some ⟨some k, i + 1⟩) :
    x.value b t c = fadeSample .out b i (((k.samples[i]?).bind (·[c.val]?)).getD 0) := by
  rw [Context.value_idle idle, runOut]
  rfl

/-- A run-out with no block is silent (R152). -/
theorem RunOut.value_empty (n : Nat) : RunOut.value ⟨none, n⟩ b c = 0 := rfl

/-- A run-out that has sent nothing is silent (R152). -/
theorem RunOut.value_unsent (r : Option BlockRecord) : RunOut.value ⟨r, 0⟩ b c = 0 := by
  cases r <;> rfl

/-- A run-out whose samples have all been sent is silent (R152). -/
theorem RunOut.value_over (whole : k.samples.length = b) : RunOut.value ⟨some k, b + 1⟩ b c = 0 := by
  have sample : k.samples[b]? = none := List.getElem?_eq_none (by omega)
  show fadeSample .out b b (((k.samples[b]?).bind (·[c.val]?)).getD 0) = 0
  rw [sample]
  exact fadeSample_silence ..

end

/-! ## The pins -/

/-- A slot carries 24 bits, most significant first, and 0s after (R143). -/
theorem slotBits_get {width j : Nat} (x : Sample) (room : 24 ≤ width) (inside : j < width) :
    (slotBits width x)[j]? = some (decide (j < 24) && (BitVec.ofInt 24 x).getLsbD (23 - j)) := by
  unfold slotBits
  by_cases bit : j < 24
  · rw [List.getElem?_append_left (by simpa using bit)]
    simp [bit, BitVec.getMsbD]
  · rw [List.getElem?_append_right (by simpa using bit)]
    rw [List.getElem?_replicate, if_pos (by simp; omega), decide_eq_false bit, Bool.false_and]

/-- The bits of a slot are as many as the slot is wide (R143). -/
theorem slotBits_length {width : Nat} (x : Sample) (room : 24 ≤ width) : (slotBits width x).length = width := by
  simp [slotBits]
  omega

/-- The bits of a port's frame, slot 0 first (R143). -/
theorem frameBits_get {width j : Nat} (frame : PortFrame) (i : Fin 8) (room : 24 ≤ width) (inside : j < width) :
    ((List.finRange 8).flatMap fun i => slotBits width frame[i])[i.val * width + j]?
      = some (decide (j < 24) && (BitVec.ofInt 24 frame[i]).getLsbD (23 - j)) := by
  have slots := flatMap_drop (l := List.finRange 8) (f := fun i => slotBits width frame[i]) (w := width) (i := i.val)
    (x := i) (by simp) fun y _ => slotBits_length frame[y] room
  rw [← List.getElem?_drop, slots, List.getElem?_append_left (by rw [slotBits_length _ room]; exact inside)]
  exact slotBits_get _ room inside

section
variable {s : State} {g : Image}

/-- Where a boundary or a tick of the present count is still to be taken (R147, R156). -/
theorem State.countOpen_iff : s.countOpen = true ↔ s.cap.tickDue = true ∨ ∃ n : Fin 16,
    (s.srx[n]).state = .locked ∧ s.cap.count - (s.srx[n]).rPlay = (s.srx[n]).nextBoundary := by
  simp [State.countOpen, Context.atBoundary]

/-- A frame sync latches the 8 values of a RUNNING LISTEN port (R144). -/
theorem State.exec_playoutFrameSync (image : s.stc.image = some g) (q : Fin 4) : exec (.playoutFrameSync q) s = .next
    (if s.cap.running = true ∧ (g.playout[q]).listen = true then
      { s with ply := { s.ply with
        frames := s.ply.frames.set q.val (some (portValues s.channelsAtEdge q)) q.isLt } }
    else s) := by
  show execPlayoutFrameSync q s = _
  by_cases latches : s.cap.running = true ∧ (g.playout[q]).listen = true
  · rw [if_pos latches]
    simp only [execPlayoutFrameSync, image, latches.1]
    exact if_pos latches.2
  · rw [if_neg latches]
    cases running : s.cap.running with
    | false => simp only [execPlayoutFrameSync, image, running]
    | true =>
      simp only [execPlayoutFrameSync, image, running]
      exact if_neg fun listens => latches ⟨running, listens⟩

end

/-- A stream with nothing to send is silent (R146, R152). -/
theorem Context.value_silent {x : Context} {b : Nat} {t : Word} {c : Fin 4}
    (idle : x.state ≠ .locked ∨ x.output.source = none)
    (none : x.runOut = none ∨ (∃ n, x.runOut = some ⟨none, n⟩) ∨ (∃ r, x.runOut = some ⟨r, 0⟩)
      ∨ (∃ k, x.runOut = some ⟨some k, b + 1⟩ ∧ k.samples.length = b)) : x.value b t c = 0 := by
  rw [Context.value_idle idle]
  obtain none | ⟨n, none⟩ | ⟨r, unsent⟩ | ⟨k, spent, whole⟩ := none
  · rw [none]
  · rw [none]
    exact RunOut.value_empty n
  · rw [unsent]
    exact RunOut.value_unsent r
  · rw [spent]
    exact RunOut.value_over whole

/-- Settles O43: by what the stream has to send, and by the mode of the port. -/
theorem streamsFadeAndRunOut : Obligations.StreamsFadeAndRunOut := by
  refine ⟨fun x k fade b t c i frame inside short sample => ?_, fun x b t c => Context.value_silent, fun s g image => ?_⟩
  · intro sent plays runs
    have played (v : Sample) (value : ((k.samples[i]?).bind (·[c.val]?)).getD 0 = v) (h : plays) :
        x.value b t c = fadeSample fade b i v := by
      obtain ⟨locked, output, index⟩ := h
      rw [Context.value_plays locked output (Context.outputIndex_eq (by omega) index), value]
    have ran (v : Sample) (value : ((k.samples[i]?).bind (·[c.val]?)).getD 0 = v) (h : runs) :
        x.value b t c = fadeSample .out b i v := by
      rw [Context.value_runs h.1 h.2, value]
    rw [sample, Option.bind_some] at played ran
    refine ⟨fun v channel => ⟨fun h => ⟨?_, ?_, ?_⟩, fun h => ?_⟩, fun missing h => ?_⟩
    · rintro rfl
      exact played v (by rw [channel]; rfl) h
    · rintro rfl
      rw [played v (by rw [channel]; rfl) h]
      exact fade_truncated _ (by omega)
    · rintro rfl
      rw [played v (by rw [channel]; rfl) h]
      exact fade_truncated _ (by omega)
    · rw [ran v (by rw [channel]; rfl) h]
      exact fade_truncated _ (by omega)
    · obtain h | h := h
      · rw [played 0 (by rw [missing]; rfl) h]
        exact fadeSample_silence ..
      · rw [ran 0 (by rw [missing]; rfl) h]
        exact fadeSample_silence ..
  · refine ⟨fun n o running => ?_, fun q => ?_, fun stopped => ⟨fun q clocking => ?_, fun q => ⟨?_, fun clocking => ?_⟩⟩,
      fun running q => ⟨fun none => ?_, fun frame sent i j room inside => ?_⟩⟩
    · have due : s.runOutEndAt n = s.nowIf (decide (g.block.samples < o.sent)) := by
        simp only [State.runOutEndAt, image, running]
      have step : exec (.runOutEnd n) s = s.takeEvent (s.runOutEndAt n) (·.setContext n Context.endRunOut) := rfl
      rw [step, due, State.takeEvent_nowIf]
      simp only [decide_eq_true_iff]
      rfl
    · intro due shown
      have shows : s.channelsAtEdge = shown := by
        rw [State.channelsAtEdge]
        simp only [State.countOpen_iff]
        rfl
      rw [State.exec_playoutFrameSync image q, shows]
      rfl
    · rw [State.captureClock, image, Option.map_some, clocking, stopped]
      rfl
    · simp only [State.playoutData, image, stopped]
    · rw [State.playoutClock, image, Option.map_some, clocking, stopped]
      rfl
    · simp only [State.playoutData, image, running, none]
    · refine ⟨_, by simp only [State.playoutData, image, running, sent], frameBits_get frame i room inside⟩

end Sys2Proof.Machine

/-! SUPPORT. Key events: the cues they build and the latches they clear (10 R159 to R164, R171, R174). -/

namespace Sys2Proof.Machine

section
variable {s : State} {g : Image} {p q : Fin 4} {d : Address} {c : CueCode} {position : BitVec 4}

/-! ## Building a cue -/

/-- A cue built in ACTIVE with room in the queue waits there (R48, R163). -/
theorem State.buildCue_waits (active : s.atc.state = .active) (room : s.inq.cues.length < 4) :
    s.buildCue d c position = { s with
      pos := { s.pos with cueTag := s.pos.cueTag + 1 }
      inq := { s.inq with cues := s.inq.cues ++ [⟨s.address, d, c, position, s.pos.cueTag⟩] } } :=
  if_pos ⟨active, room⟩

/-- A cue that a full queue refuses is counted and reported undelivered, its tag used (R48, R163). -/
theorem State.buildCue_refused (full : 4 ≤ s.inq.cues.length) :
    s.buildCue d c position = (State.countOne { s with pos := { s.pos with cueTag := s.pos.cueTag + 1 } }
      .cuesRefused).cueUndelivered ⟨s.pos.cueTag, c, position⟩ :=
  if_neg fun h => Nat.not_lt.mpr full h.2

/-- A cue other than a talk request brings about nothing at the panel where it is not delivered (R164). -/
theorem State.cueUndelivered_raises {r : CueReport} (other : s.stc.straps.role = .gallery ∨ r.code ≠ .talkRequest) :
    s.cueUndelivered r = s.raise .cueUndelivered := by
  unfold State.cueUndelivered State.cueOutcome
  split
  next venue code _ =>
    obtain gallery | other := other
    · exact absurd (State.venue_eq_true.mp venue) (by rw [show (s.raise .cueUndelivered).stc = s.stc from rfl, gallery]; decide)
    · exact absurd code other
  next => rfl

/-! ## The keys of a venue -/

/-- TALK pressed (R161). -/
theorem State.keyEvent_talk (venue : s.stc.straps.role = .venue) (press : Bool) :
    s.keyEvent g ⟨4 * p.val + 1, by omega⟩ press = if press = true then s.pressTalk g p else s.releaseTalk g p := by
  rw [State.keyEvent, if_pos (State.venue_eq_true.mpr venue)]
  match p, press with
  | 0, true | 1, true | 2, true | 3, true | 0, false | 1, false | 2, false | 3, false => rfl

/-- ACK pressed, and a release, which does nothing (R161, R171). -/
theorem State.keyEvent_ack (venue : s.stc.straps.role = .venue) (press : Bool) :
    s.keyEvent g ⟨4 * p.val + 2, by omega⟩ press = if press = true then s.pressAck g p else s := by
  rw [State.keyEvent, if_pos (State.venue_eq_true.mpr venue)]
  match p, press with
  | 0, true | 1, true | 2, true | 3, true | 0, false | 1, false | 2, false | 3, false => rfl

/-- COUGH, which acts through gating alone (R162). -/
theorem State.keyEvent_cough (venue : s.stc.straps.role = .venue) (press : Bool) :
    s.keyEvent g ⟨4 * p.val, by omega⟩ press = s := by
  rw [State.keyEvent, if_pos (State.venue_eq_true.mpr venue)]
  match p, press with
  | 0, true | 1, true | 2, true | 3, true | 0, false | 1, false | 2, false | 3, false => rfl

/-- The fourth input is not used (R161). -/
theorem State.keyEvent_unused (venue : s.stc.straps.role = .venue) (press : Bool) :
    s.keyEvent g ⟨4 * p.val + 3, by omega⟩ press = s := by
  rw [State.keyEvent, if_pos (State.venue_eq_true.mpr venue)]
  match p, press with
  | 0, true | 1, true | 2, true | 3, true | 0, false | 1, false | 2, false | 3, false => rfl

/-- A position that its TALK key has set, before a cue is built (R164). -/
def Position.talkKey (x : Position) (press : Bool) (tag : Octet) : Position :=
  Position.judged { x with
    talk := if press = true then .flash else .off, tag := if press = true then some tag else none }

/-- TALK in ACTIVE sets its position and builds the cue of the press or the release (R164). -/
theorem State.talkKey_active (venue : s.stc.straps.role = .venue) (active : s.atc.state = .active) (press : Bool) :
    s.keyEvent g ⟨4 * p.val + 1, by omega⟩ press =
      State.buildCue (s.withPos { s.pos with
          positions := modifyAt s.pos.positions p fun x => x.talkKey press s.pos.cueTag })
        g.gallery (if press = true then .talkRequest else .talkClear) (BitVec.ofNat 4 p.val) := by
  rw [State.keyEvent_talk venue]
  cases press with
  | true => exact if_pos active
  | false => exact if_pos active

/-- What TALK does in ACTIVE (R164). -/
theorem State.talkKey_items (venue : s.stc.straps.role = .venue) (active : s.atc.state = .active) (press : Bool) :
    let t := s.keyEvent g ⟨4 * p.val + 1, by omega⟩ press
    let x := (s.pos.positions[p]).talkKey press s.pos.cueTag
    let cue : CueFrame := ⟨s.address, g.gallery, if press = true then .talkRequest else .talkClear,
      BitVec.ofNat 4 p.val, s.pos.cueTag⟩
    (∀ q : Fin 4, q ≠ p → t.pos.positions[q] = s.pos.positions[q])
    ∧ t.pos.cueTag = s.pos.cueTag + 1
    ∧ (s.inq.cues.length < 4 → t.inq.cues = s.inq.cues ++ [cue] ∧ t.svp = s.svp ∧ t.pos.positions[p] = x)
    ∧ (4 ≤ s.inq.cues.length → t.inq.cues = s.inq.cues ∧ t.flag .cueUndelivered = true
      ∧ t.counter .cuesRefused = min 65535 (s.counter .cuesRefused + 1)
      ∧ (t.pos.positions[p]).talk = .off ∧ (t.pos.positions[p]).tag = none) := by
  intro t x cue
  let u := s.withPos { s.pos with positions := modifyAt s.pos.positions p fun x => x.talkKey press s.pos.cueTag }
  have here : u.pos.positions[p] = x := modifyAt_self ..
  have other (q : Fin 4) (apart : q ≠ p) : u.pos.positions[q] = s.pos.positions[q] := modifyAt_other _ apart _
  have key : t = u.buildCue g.gallery cue.code cue.position := State.talkKey_active venue active press
  by_cases room : s.inq.cues.length < 4
  · rw [key, State.buildCue_waits (s := u) active room]
    exact ⟨other, rfl, fun _ => ⟨rfl, rfl, here⟩, fun full => absurd room (by omega)⟩
  · let v := State.countOne { u with pos := { u.pos with cueTag := u.pos.cueTag + 1 } } .cuesRefused
    rw [key, State.buildCue_refused (s := u) (by exact Nat.le_of_not_lt room)]
    have number : cue.position.toNat = p.val := by
      show (BitVec.ofNat 4 p.val).toNat = p.val
      rw [BitVec.toNat_ofNat]
      omega
    have position (q : Fin 4) : (v.cueUndelivered ⟨u.pos.cueTag, cue.code, cue.position⟩).pos.positions[q] =
        if s.stc.straps.role = .venue ∧ cue.code = .talkRequest ∧ cue.position.toNat = q.val then
          (Position.requestOutcome s.pos.cueTag false u.pos.positions[q]).judged
        else u.pos.positions[q] := State.cueUndelivered_position ..
    have svp := v.cueUndelivered_svp ⟨u.pos.cueTag, cue.code, cue.position⟩
    have lamp : ((v.cueUndelivered ⟨u.pos.cueTag, cue.code, cue.position⟩).pos.positions[p]).talk = .off
        ∧ ((v.cueUndelivered ⟨u.pos.cueTag, cue.code, cue.position⟩).pos.positions[p]).tag = none := by
      rw [position, here]
      cases press with
      | true =>
        rw [if_pos ⟨venue, rfl, number⟩, Position.requestOutcome, if_pos (show x.tag = some s.pos.cueTag from rfl)]
        exact ⟨rfl, rfl⟩
      | false =>
        rw [if_neg fun h => absurd h.2.1 (show CueCode.talkClear ≠ .talkRequest by decide)]
        exact ⟨rfl, rfl⟩
    refine ⟨fun q apart => ?_, ?_, fun less => absurd less room, fun _ => ⟨?_, ?_, ?_, lamp⟩⟩
    · rw [position, if_neg fun h => apart (Fin.ext (h.2.2.symm.trans number)), other q apart]
    · exact congrArg Pos.cueTag (v.cueUndelivered_pos ⟨u.pos.cueTag, cue.code, cue.position⟩).1
    · simp
      rfl
    · rw [State.flag, svp]
      exact (v.flag_raise .cueUndelivered .cueUndelivered).trans (by simp)
    · rw [State.counter, svp]
      exact (State.counter_countOne ..).trans (if_pos rfl)

/-! ## The keys of the gallery -/

/-- A gallery input in ACTIVE builds the cue it is mapped to (R174). -/
theorem State.galleryKey_builds {i : Fin 16} {press : Bool} (gallery : s.stc.straps.role = .gallery)
    (mapped : (g.inputs[i]).use.code press = some c) (active : s.atc.state = .active) :
    s.keyEvent g i press = s.buildCue (g.inputs[i]).venue c (g.inputs[i]).position := by
  have other : ¬ s.venue = true := by rw [State.venue_of_gallery gallery]; decide
  rw [State.keyEvent, if_neg other, State.galleryKey, mapped]
  exact if_pos active

/-- An input that is not mapped, and any outside ACTIVE, does nothing (R174). -/
theorem State.galleryKey_nothing {i : Fin 16} {press : Bool} (gallery : s.stc.straps.role = .gallery)
    (idle : (g.inputs[i]).use.code press = none ∨ s.atc.state ≠ .active) : s.keyEvent g i press = s := by
  have other : ¬ s.venue = true := by rw [State.venue_of_gallery gallery]; decide
  rw [State.keyEvent, if_neg other, State.galleryKey]
  cases mapped : (g.inputs[i]).use.code press with
  | none => rfl
  | some c =>
    obtain unmapped | inactive := idle
    · exact absurd (mapped.symm.trans unmapped) (by simp)
    · exact if_neg inactive

end

/-- Settles O45: by the role and the key. -/
theorem keysBuildCues : Obligations.KeysBuildCues := by
  refine ⟨fun s g p press venue => ?_, fun s g press => ⟨fun venue p => ?_, fun gallery i => ?_⟩⟩
  · intro input t old cue
    by_cases active : s.atc.state = .active
    · obtain ⟨others, tag, waits, refused⟩ := State.talkKey_items (g := g) (p := p) venue active press
      exact ⟨others, fun _ => ⟨tag, waits, refused⟩, fun inactive => absurd active inactive⟩
    · have key : t = if press = true then s.pressTalk g p else s.releaseTalk g p := State.keyEvent_talk venue press
      cases press with
      | true =>
        have nothing : t = s := key.trans (if_neg active)
        rw [nothing]
        exact ⟨fun _ _ => rfl, fun yes => absurd yes active, fun _ => ⟨rfl, rfl, rfl, fun _ => rfl, fun h => absurd h (by decide)⟩⟩
      | false =>
        have released : t = s.setPosition p fun q => { q with talk := .off, tag := none } := key.trans (if_neg active)
        have here : t.pos.positions[p] = Position.judged { old with talk := .off, tag := none } := by
          rw [released]
          exact modifyAt_self ..
        refine ⟨fun q apart => ?_, fun yes => absurd yes active,
          fun _ => ⟨?_, ?_, ?_, fun h => absurd h (by decide), fun _ => ?_⟩⟩
        · rw [released]
          exact modifyAt_other _ apart _
        · rw [released]
          rfl
        · rw [released]
          rfl
        · rw [released]
          rfl
        · rw [here]
          exact ⟨rfl, rfl⟩
  · refine ⟨State.keyEvent_cough venue press, State.keyEvent_unused venue press, State.keyEvent_ack venue false, ?_⟩
    intro heard old
    have pressed : s.keyEvent g ⟨4 * p.val + 2, by omega⟩ true = s.pressAck g p := State.keyEvent_ack venue true
    have played : s.returnHeard g = true ↔ heard := by
      unfold State.returnHeard
      cases programme : g.designated .programme with
      | none => simp [heard, programme]
      | some n => simp [heard, programme]
    refine ⟨fun silent => ?_, fun hears => ?_⟩
    · rw [pressed]
      exact if_neg fun h => silent (played.mp h)
    · rw [pressed]
      exact if_pos (played.mpr hears)
  · intro code
    have mapped : (g.inputs[i]).use.code press = code := by
      dsimp only [code]
      cases (g.inputs[i]).use <;> cases press <;> rfl
    refine ⟨fun idle => State.galleryKey_nothing gallery (by rwa [mapped]), fun c is active room => ?_,
      fun c is active full => ?_⟩
    · rw [State.galleryKey_builds gallery (mapped.trans is) active, State.buildCue_waits active room]
    · rw [State.galleryKey_builds gallery (mapped.trans is) active, State.buildCue_refused full]
      exact State.cueUndelivered_raises (.inl gallery)

end Sys2Proof.Machine

/-! SUPPORT. The key scanner: each input judged, and the key events delivered in their order (10 R158, R159). -/

namespace Sys2Proof.Machine

section
variable {g : Image}

/-! ## What a key event leaves of the panel -/

/-- The panel of a state, but for its positions and the cue tag, taken from another. -/
def State.withPanel (u : State) (p : Pos) : State :=
  u.withPos { p with positions := u.pos.positions, cueTag := u.pos.cueTag }

/-- A cue's outcome looks at no more of the panel than its positions (R165). -/
theorem State.cueUndelivered_withPanel (u : State) (p : Pos) (r : CueReport) :
    (u.withPanel p).cueUndelivered r = (u.cueUndelivered r).withPanel p := by
  unfold State.cueUndelivered State.cueOutcome
  split
  next q venue code position =>
    have here : (u.raise .cueUndelivered).venue = true := venue
    simp only [here, code, position]
    rfl
  next none =>
    split
    next q venue code position => exact (none q venue code position).elim
    next => rfl

/-- An offer of a cue looks at no more of the panel than its positions (R48). -/
theorem State.offerCue_withPanel (u : State) (p : Pos) (f : CueFrame) :
    (u.withPanel p).offerCue f = (u.offerCue f).withPanel p := by
  unfold State.offerCue
  by_cases room : u.atc.state = .active ∧ u.inq.cues.length < Config.cueCapacity
  · rw [if_pos room]
    exact if_pos room
  · rw [if_neg room, ← State.cueUndelivered_withPanel]
    exact if_neg room

/-- Building a cue looks at no more of the panel than its positions and the cue tag (R163). -/
theorem State.buildCue_withPanel (u : State) (p : Pos) (d : Address) (c : CueCode) (position : BitVec 4) :
    (u.withPanel p).buildCue d c position = (u.buildCue d c position).withPanel p :=
  State.offerCue_withPanel (u.withPos { u.pos with cueTag := u.pos.cueTag + 1 }) p _

/-- A key event at a venue looks at no more of the panel than its positions and the cue tag (R161). -/
theorem State.venueKey_withPanel (u : State) (p : Pos) (i : Fin 16) (press : Bool) :
    (u.withPanel p).venueKey g i press = (u.venueKey g i press).withPanel p := by
  have talk (q : Fin 4) : (u.withPanel p).pressTalk g q = (u.pressTalk g q).withPanel p := by
    unfold State.pressTalk
    by_cases active : u.atc.state = .active
    · rw [if_pos active, ← State.buildCue_withPanel]
      exact if_pos active
    · rw [if_neg active]
      exact if_neg active
  have release (q : Fin 4) : (u.withPanel p).releaseTalk g q = (u.releaseTalk g q).withPanel p := by
    unfold State.releaseTalk
    by_cases active : u.atc.state = .active
    · have released : (u.setPosition q fun x => { x with talk := .off, tag := none }).atc.state = .active := active
      dsimp only
      rw [if_pos released, ← State.buildCue_withPanel]
      exact if_pos active
    · have released : ¬ (u.setPosition q fun x => { x with talk := .off, tag := none }).atc.state = .active := active
      dsimp only
      rw [if_neg released]
      exact if_neg active
  have ack (q : Fin 4) : (u.withPanel p).pressAck g q = (u.pressAck g q).withPanel p := by
    unfold State.pressAck
    by_cases heard : u.returnHeard g = true
    · rw [if_pos heard]
      exact if_pos heard
    · rw [if_neg heard]
      exact if_neg heard
  unfold State.venueKey
  generalize i.val % 4 = key
  match key, press with
  | 0, true | 0, false | 2, false | _ + 3, true | _ + 3, false => rfl
  | 1, true => exact talk _
  | 1, false => exact release _
  | 2, true => exact ack _

/-- A key event at the gallery looks at no more of the panel than the cue tag (R174). -/
theorem State.galleryKey_withPanel (u : State) (p : Pos) (i : Fin 16) (press : Bool) :
    (u.withPanel p).galleryKey g i press = (u.galleryKey g i press).withPanel p := by
  unfold State.galleryKey
  cases (g.inputs[i]).use.code press with
  | none => rfl
  | some c =>
    dsimp only
    by_cases active : u.atc.state = .active
    · rw [if_pos active, ← State.buildCue_withPanel]
      exact if_pos active
    · rw [if_neg active]
      exact if_neg active

/-- A key event looks at no more of the panel than its positions and the cue tag (R159). -/
theorem State.keyEvent_withPanel (u : State) (p : Pos) (i : Fin 16) (press : Bool) :
    (u.withPanel p).keyEvent g i press = (u.keyEvent g i press).withPanel p := by
  unfold State.keyEvent
  by_cases venue : u.venue = true
  · rw [if_pos venue, ← State.venueKey_withPanel]
    exact if_pos venue
  · rw [if_neg venue, ← State.galleryKey_withPanel]
    exact if_neg venue

/-- The key events of some inputs, each of its sample, in turn (R159). -/
def State.keyEvents (g : Image) (raw : BitVec 16) (l : List (Fin 16)) (u : State) : State :=
  l.foldl (fun u i => u.keyEvent g i (raw.getLsbD i.val)) u

/-- Key events look at no more of the panel than its positions and the cue tag (R159). -/
theorem State.keyEvents_withPanel (raw : BitVec 16) (l : List (Fin 16)) (u : State) (p : Pos) :
    (u.withPanel p).keyEvents g raw l = (u.keyEvents g raw l).withPanel p := by
  induction l generalizing u with
  | nil => rfl
  | cons i l ih =>
    show ((u.withPanel p).keyEvent g i _).keyEvents g raw l = _
    rw [State.keyEvent_withPanel]
    exact ih _

/-! ## One input judged -/

/-- An input's debounced state set, the others' as they are (R159). -/
theorem setHeld_get (held : BitVec 16) (i j : Fin 16) (press : Bool) :
    (setHeld held i press).getLsbD j.val = if j = i then press else held.getLsbD j.val := by
  have bit : (1#16 <<< i.val).getLsbD j.val = decide (j = i) := by
    by_cases same : j = i
    · subst same
      simp
    · have apart : ¬ j.val = i.val := fun h => same (Fin.ext h)
      simp [same]
      omega
  cases press with
  | true =>
    show (held ||| (1#16 <<< i.val)).getLsbD j.val = _
    rw [BitVec.getLsbD_or, bit]
    by_cases same : j = i <;> simp [same]
  | false =>
    show (held &&& ~~~(1#16 <<< i.val)).getLsbD j.val = _
    rw [BitVec.getLsbD_and, BitVec.getLsbD_not, bit]
    by_cases same : j = i <;> simp [same]

/-- What a scan makes of an input's debounced state and its agreement count (R159). -/
def State.debounced (g : Image) (raw : BitVec 16) (u : State) (i : Fin 16) : Bool × Nat :=
  if raw.getLsbD i.val = u.pos.held.getLsbD i.val then (u.pos.held.getLsbD i.val, 0)
  else if u.pos.agreement[i] + 1 < g.debounce then (u.pos.held.getLsbD i.val, u.pos.agreement[i] + 1)
  else (raw.getLsbD i.val, 0)

/-- A scan changes an input's debounced state (R159). -/
def State.inputChanges (g : Image) (raw : BitVec 16) (u : State) (i : Fin 16) : Bool :=
  raw.getLsbD i.val != u.pos.held.getLsbD i.val && decide (g.debounce ≤ u.pos.agreement[i] + 1)

/-- An input judged: its key event where its state changes, and its own count and state (R159). -/
theorem State.judgeInput_eq (raw : BitVec 16) (u : State) (i : Fin 16) : ∃ held agreement,
    u.judgeInput g raw i = (if u.inputChanges g raw i = true then u.keyEvent g i (raw.getLsbD i.val) else u).withPanel
      { u.pos with held := held, agreement := agreement }
    ∧ ∀ j : Fin 16, (held.getLsbD j.val, agreement[j]) =
        if j = i then u.debounced g raw i else (u.pos.held.getLsbD j.val, u.pos.agreement[j]) := by
  have counts (f : Nat → Nat) (j : Fin 16) :
      (modifyAt u.pos.agreement i f)[j] = if j = i then f u.pos.agreement[i] else u.pos.agreement[j] := modifyAt_get ..
  by_cases agrees : raw.getLsbD i.val = u.pos.held.getLsbD i.val
  · refine ⟨u.pos.held, modifyAt u.pos.agreement i fun _ => 0, ?_, fun j => ?_⟩
    · rw [State.inputChanges, agrees, bne_self_eq_false, Bool.false_and, if_neg Bool.false_ne_true]
      exact if_pos agrees
    · rw [counts, State.debounced, if_pos agrees]
      by_cases same : j = i <;> simp [same]
  have differs : (raw.getLsbD i.val != u.pos.held.getLsbD i.val) = true := bne_iff_ne.mpr agrees
  by_cases early : u.pos.agreement[i] + 1 < g.debounce
  · refine ⟨u.pos.held, modifyAt u.pos.agreement i (· + 1), ?_, fun j => ?_⟩
    · rw [State.inputChanges, decide_eq_false (Nat.not_le.mpr early), Bool.and_false, if_neg Bool.false_ne_true]
      exact (if_neg agrees).trans (if_pos early)
    · rw [counts, State.debounced, if_neg agrees, if_pos early]
      by_cases same : j = i <;> simp [same]
  · refine ⟨setHeld u.pos.held i (raw.getLsbD i.val), modifyAt u.pos.agreement i fun _ => 0, ?_, fun j => ?_⟩
    · rw [State.inputChanges, differs, decide_eq_true (Nat.le_of_not_lt early), Bool.and_true, if_pos rfl,
        ← State.keyEvent_withPanel]
      exact (if_neg agrees).trans (if_neg early)
    · rw [counts, setHeld_get, State.debounced, if_neg agrees, if_neg early]
      by_cases same : j = i <;> simp [same]

/-- The inputs judged in turn: the key events of those that change, in their order, and every input's own count and
state (R158, R159). -/
theorem State.judgeInputs_eq (raw : BitVec 16) (l : List (Fin 16)) (distinct : l.Nodup) (u : State) :
    ∃ held agreement,
      l.foldl (State.judgeInput g raw) u = (u.keyEvents g raw (l.filter (u.inputChanges g raw))).withPanel
        { u.pos with held := held, agreement := agreement }
      ∧ ∀ j : Fin 16, (held.getLsbD j.val, agreement[j]) =
          if j ∈ l then u.debounced g raw j else (u.pos.held.getLsbD j.val, u.pos.agreement[j]) := by
  induction l generalizing u with
  | nil => exact ⟨u.pos.held, u.pos.agreement, rfl, fun j => (if_neg (by simp)).symm⟩
  | cons i l ih =>
    obtain ⟨apart, rest⟩ := List.nodup_cons.mp distinct
    obtain ⟨held, agreement, first, own⟩ := u.judgeInput_eq (g := g) raw i
    let w : State := if u.inputChanges g raw i = true then u.keyEvent g i (raw.getLsbD i.val) else u
    let v : State := w.withPanel { u.pos with held := held, agreement := agreement }
    have one : u.judgeInput g raw i = v := first
    have untouched (j : Fin 16) (other : j ≠ i) :
        v.pos.held.getLsbD j.val = u.pos.held.getLsbD j.val ∧ v.pos.agreement[j] = u.pos.agreement[j] :=
      Prod.mk.inj ((own j).trans (if_neg other))
    obtain ⟨held', agreement', later, others⟩ := ih rest v
    have changes : l.filter (v.inputChanges g raw) = l.filter (u.inputChanges g raw) := by
      refine List.filter_congr fun j member => ?_
      obtain ⟨heldSame, agreementSame⟩ := untouched j fun h => apart (h ▸ member)
      rw [State.inputChanges, heldSame, agreementSame]
      rfl
    have events : u.keyEvents g raw ((i :: l).filter (u.inputChanges g raw))
        = w.keyEvents g raw (l.filter (u.inputChanges g raw)) := by
      by_cases change : u.inputChanges g raw i = true
      · rw [List.filter_cons_of_pos change, show w = _ from if_pos change]
        rfl
      · rw [List.filter_cons_of_neg change, show w = u from if_neg change]
    refine ⟨held', agreement', ?_, fun j => (others j).trans ?_⟩
    · rw [List.foldl_cons, one, later, changes, events, State.keyEvents_withPanel]
      rfl
    · by_cases here : j = i
      · subst here
        rw [if_neg apart, if_pos List.mem_cons_self]
        exact (own j).trans (if_pos rfl)
      · obtain ⟨heldSame, agreementSame⟩ := untouched j here
        have same : v.debounced g raw j = u.debounced g raw j := by
          rw [State.debounced, heldSame, agreementSame]
          rfl
        rw [same, heldSame, agreementSame]
        simp [here]

end

/-- Settles O44: each input is judged for itself, and the key events follow one another. -/
theorem scansDebounce : Obligations.ScansDebounce := by
  intro s g raw free load image
  let n := max s.now (s.pos.scanAt + 1000 * Config.millisecond / g.scanRate)
  let u : State := { s with now := n, pos := { s.pos with scanAt := n } }
  have ready : s.loaded = true := by
    rw [State.loaded, free, load]
    rfl
  have due : s.keyScanAt = some (s.pos.scanAt + 1000 * Config.millisecond / g.scanRate) := by
    simp only [State.keyScanAt, ready, image]
    rfl
  have step : exec (.keyScan raw) s = .next (State.keyScan { s with now := n } raw) :=
    State.takeEvent_due (·.keyScan raw) due
  have scan : State.keyScan { s with now := n } raw = (u.judgeScan g raw).decideStart := by
    simp only [State.keyScan, image]
    rfl
  obtain ⟨held, agreement, judged, own⟩ := State.judgeInputs_eq (g := g) raw (List.finRange 16) (List.nodup_finRange 16) u
  have each (i : Fin 16) : (held.getLsbD i.val, agreement[i]) = u.debounced g raw i :=
    (own i).trans (if_pos (List.mem_finRange i))
  let panel : Pos := { u.pos with held := held, agreement := agreement }
  let changed := (List.finRange 16).filter fun i =>
    raw.getLsbD i.val != s.pos.held.getLsbD i.val && decide (g.debounce ≤ s.pos.agreement[i] + 1)
  have ends : State.keyScan { s with now := n } raw = ((u.keyEvents g raw changed).withPanel panel).decideStart :=
    scan.trans (congrArg State.decideStart judged)
  have pos : (State.keyScan { s with now := n } raw).pos = ((u.keyEvents g raw changed).withPanel panel).pos := by
    rw [ends]
    simp
  have acts := State.keyScan_acts (s := { s with now := n }) image raw
  have now : (State.keyScan { s with now := n } raw).now = n :=
    (State.keyScan_frame { s with now := n } raw).1
  refine ⟨_, step, now, ?_, fun i => ?_, ?_, ?_, ?_, ?_, ?_, ?_, acts, ?_, ?_, ?_, ?_⟩
  · rw [now, pos]
    rfl
  · intro disagrees
    have one := each i
    rw [State.debounced] at one
    rw [pos]
    show _ ∧ _ ∧ _
    refine ⟨fun agrees => ?_, fun differs early => ?_, fun differs late => ?_⟩
    · rw [if_pos (not_not.mp agrees)] at one
      exact Prod.mk.inj one
    · rw [if_neg differs, if_pos (show u.pos.agreement[i] + 1 < g.debounce from early)] at one
      exact Prod.mk.inj one
    · rw [if_neg differs, if_neg (show ¬ u.pos.agreement[i] + 1 < g.debounce from Nat.not_lt.mpr late)] at one
      exact Prod.mk.inj one
  · have heldIs : (State.keyScan { s with now := n } raw).pos.held = held := congrArg Pos.held pos
    have agreementIs : (State.keyScan { s with now := n } raw).pos.agreement = agreement := congrArg Pos.agreement pos
    rw [now, heldIs, agreementIs, ends, ← State.keyEvents_withPanel]
    rfl
  · simp
  · simp
  · simp
  · simp
  · simp
  · simp
  · simp
  · rw [pos]
    rfl
  · rw [pos]
    rfl

end Sys2Proof.Machine

/-! SUPPORT. The structural faults of a configuration record, each test by the fields it looks at (11 R180). -/

namespace Sys2Proof.Machine

section
variable {rec : List Octet} {straps : Straps}

/-! ## The fields the tests look at -/

/-- A field of some bits of an octet, as a quotient and a rest. -/
theorem recordBits_eq (rec : List Octet) (i start len : Nat) :
    recordBits rec i start len = recordNat rec i / 2 ^ start % 2 ^ len := by
  rw [recordBits, BitVec.extractLsb'_toNat, Nat.shiftRight_eq_div_pow, recordNat]

/-- A list that names something twice. -/
theorem hasRepeat_iff {α : Type} [DecidableEq α] (l : List α) : hasRepeat l = true ↔ ¬ l.Nodup := by
  induction l with
  | nil => simp [hasRepeat]
  | cons x l ih =>
    rw [hasRepeat, Bool.or_eq_true, ih, List.nodup_cons, List.contains_iff_mem]
    tauto

/-- A sourced stream entry in use (R180). -/
abbrev sourceUsed (rec : List Octet) (i : Nat) : Prop := i < min 4 (recordNat rec 35)

/-- A channel of a sourced stream entry in use (R183). -/
abbrev channelUsed (rec : List Octet) (i c : Nat) : Prop := sourceUsed rec i ∧ c ≤ recordNat rec (37 + 10 * i) % 4

/-- A subscription entry in use (R180). -/
abbrev subscriptionUsed (rec : List Octet) (n : Nat) : Prop := n < min 16 (recordNat rec 76)

/-- The sourced stream entries in use. -/
theorem mem_usedSources {i : Nat} : i ∈ usedSources rec ↔ sourceUsed rec i := List.mem_range

/-- The subscription entries in use. -/
theorem mem_usedSubscriptions {n : Nat} : n ∈ usedSubscriptions rec ↔ subscriptionUsed rec n := List.mem_range

/-- The channels of a sourced stream entry. -/
theorem mem_usedChannels {i c : Nat} : c ∈ usedChannels rec i ↔ c ≤ recordNat rec (37 + 10 * i) % 4 := by
  rw [usedChannels, List.mem_range, recordBits_eq, Nat.lt_succ_iff, Nat.pow_zero, Nat.div_one,
    show 2 ^ 2 = 4 from rfl]

/-- A playout channel that a channel map names. -/
theorem mem_mappedChannels {ch : Nat} : ch ∈ mappedChannels rec ↔
    ∃ n, subscriptionUsed rec n ∧ ∃ c < 4, recordNat rec (79 + 6 * n + c) = ch ∧ ch ≠ 255 := by
  simp only [mappedChannels, List.mem_flatMap, mem_usedSubscriptions, List.mem_filter, List.mem_map, List.mem_range,
    decide_eq_true_iff]
  constructor
  · rintro ⟨n, used, ⟨c, inside, named⟩, other⟩
    exact ⟨n, used, c, inside, named, other⟩
  · rintro ⟨n, used, c, inside, named, other⟩
    exact ⟨n, used, ⟨c, inside, named⟩, other⟩

/-! ## The tests -/

/-- A code that names no value (R180, order 4). -/
abbrev codeFault (rec : List Octet) (straps : Straps) : Prop :=
  2 < recordNat rec 10 ∨ 3 < recordNat rec 23 ∨ (∃ q < 6, recordNat rec (29 + q) / 2 % 4 = 3)
    ∨ (∃ i c, channelUsed rec i c ∧ recordNat rec (39 + 10 * i + 2 * c) % 4 = 3)
    ∨ (∃ n, subscriptionUsed rec n ∧ 2 < recordNat rec (78 + 6 * n))
    ∨ ¬ straps.role = .venue ∧ ∃ i < 16, 2 < recordNat rec (189 + 3 * i)

/-- A station is a gallery's exactly where it is no venue's (R177). -/
theorem role_gallery_iff (straps : Straps) : (straps.role == .gallery) = true ↔ ¬ straps.role = .venue := by
  cases straps.role <;> decide

/-- Order 4 of R180. -/
theorem badCode_iff : badCode rec straps.role = true ↔ codeFault rec straps := by
  simp only [badCode, Bool.or_eq_true, Bool.and_eq_true, List.any_eq_true, decide_eq_true_iff, mem_usedSources,
    mem_usedSubscriptions, mem_usedChannels, recordBits_eq, role_gallery_iff, List.mem_range, or_assoc]
  refine or_congr Iff.rfl (or_congr Iff.rfl (or_congr Iff.rfl (or_congr ?_ Iff.rfl)))
  constructor
  · rintro ⟨i, used, c, inside, fault⟩
    exact ⟨i, c, ⟨used, inside⟩, by simpa using fault⟩
  · rintro ⟨i, c, ⟨used, inside⟩, fault⟩
    exact ⟨i, used, c, inside, by simpa using fault⟩

/-- An index out of range (R180, order 5). -/
abbrev indexFault (rec : List Octet) (straps : Straps) : Prop :=
  let r := recordNat rec
  4 < r 35 ∨ 16 < r 76 ∨ (∃ i, sourceUsed rec i ∧ 63 < r (36 + 10 * i))
    ∨ (∃ i c, channelUsed rec i c ∧ 15 < r (38 + 10 * i + 2 * c)) ∨ (∃ n, subscriptionUsed rec n ∧ 63 < r (77 + 6 * n))
    ∨ (∃ n, subscriptionUsed rec n ∧ ∃ c < 4, 31 < r (79 + 6 * n + c) ∧ r (79 + 6 * n + c) ≠ 255)
    ∨ straps.role = .venue ∧ (∃ p < 4,
        15 < r (173 + 4 * p) ∨ 31 < r (174 + 4 * p) ∨ 3 < r (175 + 4 * p) ∨ 3 < r (176 + 4 * p))
    ∨ ¬ straps.role = .venue ∧ ((∃ i < 16, r (189 + 3 * i) ≠ 0 ∧ (r (190 + 3 * i) = 0 ∨ 31 < r (190 + 3 * i)
          ∨ 3 < r (191 + 3 * i) ∧ r (191 + 3 * i) ≠ 15))
        ∨ ∃ l < 16, 30 < r (237 + 2 * l) ∨ r (237 + 2 * l) ≠ 0 ∧ 3 < r (238 + 2 * l))

/-- The sourced stream entries whose ID or whose channels are out of range. -/
theorem badSources_iff : ((usedSources rec).any fun s => decide (63 < recordNat rec (36 + 10 * s))
      || (usedChannels rec s).any fun c => decide (15 < recordNat rec (38 + 10 * s + 2 * c))) = true ↔
    (∃ i, sourceUsed rec i ∧ 63 < recordNat rec (36 + 10 * i))
    ∨ ∃ i c, channelUsed rec i c ∧ 15 < recordNat rec (38 + 10 * i + 2 * c) := by
  simp only [Bool.or_eq_true, List.any_eq_true, decide_eq_true_iff, mem_usedSources, mem_usedChannels]
  constructor
  · rintro ⟨i, used, high | ⟨c, inside, high⟩⟩
    · exact .inl ⟨i, used, high⟩
    · exact .inr ⟨i, c, ⟨used, inside⟩, high⟩
  · rintro (⟨i, used, high⟩ | ⟨i, c, ⟨used, inside⟩, high⟩)
    · exact ⟨i, used, .inl high⟩
    · exact ⟨i, used, .inr ⟨c, inside, high⟩⟩

/-- The channel maps that name a playout channel out of range. -/
theorem badMaps_iff : ((mappedChannels rec).any fun ch => decide (31 < ch)) = true ↔
    ∃ n, subscriptionUsed rec n ∧ ∃ c < 4, 31 < recordNat rec (79 + 6 * n + c) ∧ recordNat rec (79 + 6 * n + c) ≠ 255 := by
  simp only [List.any_eq_true, mem_mappedChannels, decide_eq_true_iff]
  constructor
  · rintro ⟨_, ⟨n, used, c, inside, rfl, other⟩, high⟩
    exact ⟨n, used, c, inside, high, other⟩
  · rintro ⟨n, used, c, inside, high, other⟩
    exact ⟨_, ⟨n, used, c, inside, rfl, other⟩, high⟩

/-- The panel of the role that names something out of range (R180). -/
def badPanel (rec : List Octet) : Role → Bool
  | .venue => (List.range 4).any (badPosition rec)
  | .gallery => (List.range 16).any (badInput rec) || (List.range 16).any (badLamp rec)

/-- Order 5 of R180, block by block. -/
theorem badIndex_eq (rec : List Octet) (role : Role) : badIndex rec role =
    (decide (4 < recordNat rec 35) || decide (16 < recordNat rec 76)
      || (usedSources rec).any (fun s => decide (63 < recordNat rec (36 + 10 * s))
          || (usedChannels rec s).any fun c => decide (15 < recordNat rec (38 + 10 * s + 2 * c)))
      || (usedSubscriptions rec).any (fun n => decide (63 < recordNat rec (77 + 6 * n)))
      || (mappedChannels rec).any (fun ch => decide (31 < ch)) || badPanel rec role) := by
  cases role <;> rfl

/-- What the panel of the role names out of range. -/
theorem badPanel_iff : badPanel rec straps.role = true ↔
    straps.role = .venue ∧ (∃ p < 4, 15 < recordNat rec (173 + 4 * p) ∨ 31 < recordNat rec (174 + 4 * p)
        ∨ 3 < recordNat rec (175 + 4 * p) ∨ 3 < recordNat rec (176 + 4 * p))
    ∨ ¬ straps.role = .venue ∧ ((∃ i < 16, recordNat rec (189 + 3 * i) ≠ 0
          ∧ (recordNat rec (190 + 3 * i) = 0 ∨ 31 < recordNat rec (190 + 3 * i)
            ∨ 3 < recordNat rec (191 + 3 * i) ∧ recordNat rec (191 + 3 * i) ≠ 15))
        ∨ ∃ l < 16, 30 < recordNat rec (237 + 2 * l)
          ∨ recordNat rec (237 + 2 * l) ≠ 0 ∧ 3 < recordNat rec (238 + 2 * l)) := by
  have noPosition (x : Nat) : (!cuePosition x) = true ↔ 3 < x ∧ x ≠ 15 := by
    rw [Bool.not_eq_true', Bool.eq_false_iff, Ne, cuePosition_iff]
    omega
  cases straps.role with
  | venue => simp [badPanel, badPosition, or_assoc]
  | gallery => simp [badPanel, badInput, badLamp, or_assoc, noPosition]

/-- Order 5 of R180. -/
theorem badIndex_iff : badIndex rec straps.role = true ↔ indexFault rec straps := by
  rw [badIndex_eq, Bool.or_eq_true, Bool.or_eq_true, Bool.or_eq_true, Bool.or_eq_true, Bool.or_eq_true, badSources_iff,
    badMaps_iff, badPanel_iff]
  simp only [List.any_eq_true, decide_eq_true_iff, mem_usedSubscriptions, or_assoc]

/-- The gallery address is none (R180, order 6). -/
abbrev galleryFault (rec : List Octet) (straps : Straps) : Prop :=
  straps.role = .venue
    ∧ (recordNat rec 25 = 0 ∨ 30 < recordNat rec 25 ∨ recordNat rec 25 = straps.address.toNat)

/-- Order 6 of R180. -/
theorem badGallery_iff : badGallery rec straps = true ↔ galleryFault rec straps := by
  simp [badGallery, or_assoc]

/-- The used stream IDs (R180, order 7). -/
abbrev idsNamed (rec : List Octet) : List Nat :=
  (List.range (recordNat rec 35)).map (fun i => recordNat rec (36 + 10 * i))
    ++ (List.range (recordNat rec 76)).map fun n => recordNat rec (77 + 6 * n)

/-- The designations (R180, order 7). -/
abbrev designationsNamed (rec : List Octet) : List Nat :=
  (List.range (recordNat rec 76)).map fun n => recordNat rec (78 + 6 * n)

/-- An ID or a designation is named twice (R180, order 7). -/
abbrev twiceFault (rec : List Octet) : Prop :=
  ¬ (idsNamed rec).Nodup ∨ 1 < (designationsNamed rec).count 1 ∨ 1 < (designationsNamed rec).count 2

/-- Of the designations the two that may be given once are looked at. -/
theorem nodup_filter_iff (l : List Nat) : (l.filter fun d => d == 1 || d == 2).Nodup ↔ l.count 1 ≤ 1 ∧ l.count 2 ≤ 1 := by
  rw [List.nodup_iff_count_le_one]
  constructor
  · intro once
    have one := once 1
    have two := once 2
    rw [List.count_filter (by decide)] at one two
    exact ⟨one, two⟩
  · rintro ⟨one, two⟩ d
    by_cases given : (d == 1 || d == 2) = true
    · rw [List.count_filter (p := fun d => d == 1 || d == 2) given]
      rw [Bool.or_eq_true, beq_iff_eq, beq_iff_eq] at given
      obtain rfl | rfl := given
      · exact one
      · exact two
    · have none : (l.filter fun d => d == 1 || d == 2).count d = 0 :=
        List.count_eq_zero.mpr fun member => given (List.mem_filter.mp member).2
      omega

/-- Order 7 of R180, of a record whose counts are in range. -/
theorem duplicateId_iff (sources : recordNat rec 35 ≤ 4) (subscriptions : recordNat rec 76 ≤ 16) :
    duplicateId rec = true ↔ twiceFault rec := by
  rw [duplicateId, usedSources, usedSubscriptions, Nat.min_eq_right sources, Nat.min_eq_right subscriptions,
    Bool.or_eq_true, hasRepeat_iff, hasRepeat_iff, nodup_filter_iff]
  unfold twiceFault designationsNamed
  exact or_congr Iff.rfl (by omega)

/-- The playout channels named (R180, order 8). -/
abbrev channelsNamed (rec : List Octet) (straps : Straps) : List Nat :=
  ((List.range (recordNat rec 76)).flatMap fun n =>
      (List.range 4).map fun c => recordNat rec (79 + 6 * n + c)).filter (· ≠ 255)
    ++ if straps.role = .venue then (List.range 4).map fun p => recordNat rec (174 + 4 * p) else []

/-- The playout channels named by channel maps and headphones. -/
theorem channelsNamed_eq (subscriptions : recordNat rec 76 ≤ 16) :
    mappedChannels rec ++ headphoneChannels rec straps.role = channelsNamed rec straps := by
  have headphones : headphoneChannels rec straps.role
      = if straps.role = .venue then (List.range 4).map fun p => recordNat rec (174 + 4 * p) else [] := by
    cases straps.role with
    | gallery => rfl
    | venue =>
      rw [if_pos rfl]
      refine List.map_congr_left fun p _ => ?_
      rw [show 173 + 4 * p + 1 = 174 + 4 * p by omega]
  rw [headphones, mappedChannels, usedSubscriptions, Nat.min_eq_right subscriptions, channelsNamed, List.filter_flatMap]

/-- Order 8 of R180, of a record whose counts are in range. -/
theorem doubleAssignment_iff (subscriptions : recordNat rec 76 ≤ 16) :
    doubleAssignment rec straps.role = true ↔ ¬ (channelsNamed rec straps).Nodup := by
  rw [doubleAssignment, hasRepeat_iff, channelsNamed_eq subscriptions]

/-! ## The order -/

/-- The first fault found, each test being judged only where none before it finds a fault (R180). -/
theorem loadFault_order {strap blank unchecked code index gallery twice double : Prop}
    (strap_iff : badStrap straps.address = true ↔ strap) (blank_iff : (rec.all (· == 0xFF#8)) = true ↔ blank)
    (unchecked_iff : recordCheck (rec.take 269) ≠ field16 rec 269 ↔ unchecked)
    (code_iff : badCode rec straps.role = true ↔ code) (index_iff : badIndex rec straps.role = true ↔ index)
    (gallery_iff : badGallery rec straps = true ↔ gallery) (twice_iff : ¬ index → (duplicateId rec = true ↔ twice))
    (double_iff : ¬ index → (doubleAssignment rec straps.role = true ↔ double)) :
    let early := strap ∨ blank ∨ unchecked
    ((loadFault rec straps = some .badAddress ↔ strap ∨ ¬ early ∧ ¬ code ∧ ¬ index ∧ gallery)
    ∧ (loadFault rec straps = some .noMemory ↔ ¬ strap ∧ blank)
    ∧ (loadFault rec straps = some .checkMismatch ↔ ¬ strap ∧ ¬ blank ∧ unchecked)
    ∧ (loadFault rec straps = some .badCode ↔ ¬ early ∧ code)
    ∧ (loadFault rec straps = some .badIndex ↔ ¬ early ∧ ¬ code ∧ index)
    ∧ (loadFault rec straps = some .duplicateId ↔ ¬ early ∧ ¬ code ∧ ¬ index ∧ ¬ gallery ∧ twice)
    ∧ (loadFault rec straps = some .doubleAssignment ↔ ¬ early ∧ ¬ code ∧ ¬ index ∧ ¬ gallery ∧ ¬ twice ∧ double))
    ∧ (loadFault rec straps = none → ¬ strap ∧ ¬ code ∧ ¬ index ∧ ¬ gallery ∧ ¬ twice ∧ ¬ double) := by
  intro early
  unfold loadFault
  by_cases s : strap
  · rw [if_pos (strap_iff.mpr s)]
    simp [early, s]
  rw [if_neg (mt strap_iff.mp s)]
  by_cases b : blank
  · rw [if_pos (blank_iff.mpr b)]
    simp [early, s, b]
  rw [if_neg (mt blank_iff.mp b)]
  by_cases u : unchecked
  · rw [if_pos (unchecked_iff.mpr u)]
    simp [early, s, b, u]
  rw [if_neg (mt unchecked_iff.mp u)]
  by_cases c : code
  · rw [if_pos (code_iff.mpr c)]
    simp [early, s, b, u, c]
  rw [if_neg (mt code_iff.mp c)]
  by_cases i : index
  · rw [if_pos (index_iff.mpr i)]
    simp [early, s, b, u, c, i]
  rw [if_neg (mt index_iff.mp i)]
  by_cases a : gallery
  · rw [if_pos (gallery_iff.mpr a)]
    simp [early, s, b, u, c, i, a]
  rw [if_neg (mt gallery_iff.mp a)]
  by_cases t : twice
  · rw [if_pos ((twice_iff i).mpr t)]
    simp [early, s, b, u, c, i, a, t]
  rw [if_neg (mt (twice_iff i).mp t)]
  by_cases d : double
  · rw [if_pos ((double_iff i).mpr d)]
    simp [early, s, b, u, c, i, a, t, d]
  · rw [if_neg (mt (double_iff i).mp d)]
    simp [early, s, b, u, c, i, a, t, d]

/-- The address strap names no station (R177). -/
theorem badStrap_iff (a : Address) : badStrap a = true ↔ a = 0#5 ∨ a = 31#5 := by
  simp [badStrap]

/-- An address strap that names a station lies within 1 to 30 (R177). -/
theorem address_of_sound {a : Address} (sound : ¬ (a = 0#5 ∨ a = 31#5)) : 1 ≤ a.toNat ∧ a.toNat ≤ 30 := by
  have bound := a.isLt
  have notZero : a.toNat ≠ 0 := fun h => sound (.inl (BitVec.eq_of_toNat_eq h))
  have notAll : a.toNat ≠ 31 := fun h => sound (.inr (BitVec.eq_of_toNat_eq h))
  omega

/-- The counts of a record without an index out of range. -/
theorem counts_of_inRange (inRange : ¬ indexFault rec straps) : recordNat rec 35 ≤ 4 ∧ recordNat rec 76 ≤ 16 :=
  ⟨Nat.le_of_not_lt fun h => inRange (.inl h), Nat.le_of_not_lt fun h => inRange (.inr (.inl h))⟩

/-- The IDs of a record without an index out of range. -/
theorem ids_of_inRange (inRange : ¬ indexFault rec straps) {id : Nat} (member : id ∈ idsNamed rec) : id ≤ 63 := by
  obtain ⟨sources, subscriptions⟩ := counts_of_inRange inRange
  refine Nat.le_of_not_lt fun high => inRange ?_
  obtain member | member := List.mem_append.mp member
  · obtain ⟨i, below, rfl⟩ := List.mem_map.mp member
    have used : sourceUsed rec i := by rw [sourceUsed, Nat.min_eq_right sources]; exact List.mem_range.mp below
    exact .inr (.inr (.inl ⟨i, used, high⟩))
  · obtain ⟨n, below, rfl⟩ := List.mem_map.mp member
    have used : subscriptionUsed rec n := by
      rw [subscriptionUsed, Nat.min_eq_right subscriptions]; exact List.mem_range.mp below
    exact .inr (.inr (.inr (.inr (.inl ⟨n, used, high⟩))))

/-- The designations of a record whose codes name values. -/
theorem designations_of_coded (coded : ¬ codeFault rec straps) (subscriptions : recordNat rec 76 ≤ 16) {d : Nat}
    (member : d ∈ designationsNamed rec) : d ≤ 2 := by
  obtain ⟨n, below, rfl⟩ := List.mem_map.mp member
  have used : subscriptionUsed rec n := by
    rw [subscriptionUsed, Nat.min_eq_right subscriptions]; exact List.mem_range.mp below
  exact Nat.le_of_not_lt fun high => coded (.inr (.inr (.inr (.inr (.inl ⟨n, used, high⟩)))))

/-- The playout channels of a record without an index out of range. -/
theorem channels_of_inRange (inRange : ¬ indexFault rec straps) {ch : Nat} (member : ch ∈ channelsNamed rec straps) :
    ch ≤ 31 := by
  obtain ⟨-, subscriptions⟩ := counts_of_inRange inRange
  refine Nat.le_of_not_lt fun high => inRange ?_
  rw [← channelsNamed_eq subscriptions] at member
  obtain member | member := List.mem_append.mp member
  · obtain ⟨n, used, c, inside, rfl, other⟩ := mem_mappedChannels.mp member
    exact .inr (.inr (.inr (.inr (.inr (.inl ⟨n, used, c, inside, high, other⟩)))))
  · cases role : straps.role with
    | gallery =>
      rw [role] at member
      exact absurd member (by simp [headphoneChannels])
    | venue =>
      rw [role] at member
      obtain ⟨p, below, rfl⟩ := List.mem_map.mp member
      rw [show 173 + 4 * p + 1 = 174 + 4 * p by omega] at high
      exact .inr (.inr (.inr (.inr (.inr (.inr (.inl ⟨role, p, List.mem_range.mp below, .inr (.inl high)⟩))))))

end

/-- Settles O7: the tests are those of the fields, judged in their order. -/
theorem faultsAreJudgedInOrder : Obligations.FaultsAreJudgedInOrder := by
  have order (rec : List Octet) (straps : Straps) := loadFault_order (rec := rec) (straps := straps)
    (badStrap_iff straps.address) (blank := ∀ o ∈ rec, o = 0xFF#8) (by simp) Iff.rfl badCode_iff badIndex_iff
    badGallery_iff (fun inRange => duplicateId_iff (counts_of_inRange inRange).1 (counts_of_inRange inRange).2)
    (fun inRange => doubleAssignment_iff (counts_of_inRange inRange).2)
  refine ⟨fun rec straps => (order rec straps).1, fun rec straps good => ?_⟩
  obtain ⟨strap, code, index, -, once, distinct⟩ := (order rec straps).2 good
  obtain ⟨sources, subscriptions⟩ := counts_of_inRange index
  obtain ⟨ids, one, two⟩ : (idsNamed rec).Nodup ∧ (designationsNamed rec).count 1 ≤ 1
      ∧ (designationsNamed rec).count 2 ≤ 1 := by
    unfold twiceFault at once
    refine ⟨by tauto, by omega, by omega⟩
  intro sourceIds subscribed designations named
  refine ⟨address_of_sound strap, sources, subscriptions, ids, fun id => ids_of_inRange index, one, two,
    fun d => designations_of_coded code subscriptions, not_not.mp distinct, fun ch => channels_of_inRange index⟩

end Sys2Proof.Machine

/-! SUPPORT. The image of a configuration record, field by field (11 R181 to R183). -/

namespace Sys2Proof.Machine

section
variable {rec : List Octet}

/-! ## The fields of a record -/

/-- A value taken into a range (R181). -/
theorem clampTo_eq {lo hi : Nat} (x : Nat) (range : lo ≤ hi) :
    clampTo lo hi x = if x < lo then lo else if hi < x then hi else x := by
  unfold clampTo
  split
  next low => omega
  next => split <;> omega

/-- A field of two octets, most significant octet first (R183). -/
theorem recordNat16_eq (rec : List Octet) (i : Nat) : recordNat16 rec i = 256 * recordNat rec i + recordNat rec (i + 1) := by
  have low := (octetAt rec (i + 1)).isLt
  show (octetAt rec i ++ octetAt rec (i + 1)).toNat = _
  rw [BitVec.toNat_append, ← Nat.shiftLeft_add_eq_or_of_lt low, Nat.shiftLeft_eq, Nat.mul_comm]
  rfl

/-- A bit of an octet of a record. -/
theorem octetAt_getLsbD (rec : List Octet) (i k : Nat) :
    (octetAt rec i).getLsbD k = decide (recordNat rec i / 2 ^ k % 2 = 1) := by
  rw [BitVec.getLsbD, Nat.testBit_eq_decide_div_mod_eq, recordNat]

/-- The low two bits of an octet of a record. -/
theorem octetAt_low (rec : List Octet) (i : Nat) : ((octetAt rec i).extractLsb' 0 2).toNat = recordNat rec i % 4 :=
  (recordBits_eq rec i 0 2).trans (by rw [Nat.pow_zero, Nat.div_one, show 2 ^ 2 = 4 from rfl])

/-- The next two bits of an octet of a record. -/
theorem octetAt_next (rec : List Octet) (i : Nat) : ((octetAt rec i).extractLsb' 2 2).toNat = recordNat rec i / 4 % 4 :=
  recordBits_eq rec i 2 2

/-! ## The entries of the image -/

/-- The block length of the code (R125). -/
theorem recordBlock_eq (rec : List Octet) :
    (recordNat rec 10 = 0 → (recordBlock rec).samples = 24) ∧ (recordNat rec 10 = 1 → (recordBlock rec).samples = 48)
    ∧ (recordNat rec 10 = 2 → (recordBlock rec).samples = 96) := by
  unfold recordBlock
  refine ⟨fun h => ?_, fun h => ?_, fun h => ?_⟩ <;> rw [h] <;> rfl

/-- The scans per second of the code (R183). -/
theorem scanRateOf_eq (code : Nat) : (code = 0 → scanRateOf code = 250) ∧ (code = 1 → scanRateOf code = 500)
    ∧ (code = 2 → scanRateOf code = 1000) ∧ (code = 3 → scanRateOf code = 2000) := by
  refine ⟨?_, ?_, ?_, ?_⟩ <;> rintro rfl <;> rfl

/-- The attention mask, most significant octet first (R183). -/
theorem mask_getLsbD (rec : List Octet) (f : Fin 18) :
    ((octetAt rec 26 ++ octetAt rec 27 ++ octetAt rec 28 : BitVec 24).extractLsb' 0 18).getLsbD f.val
      = decide (recordNat rec (28 - f.val / 8) / 2 ^ (f.val % 8) % 2 = 1) := by
  rw [← octetAt_getLsbD, BitVec.getLsbD_extractLsb', decide_eq_true f.isLt, Bool.true_and, Nat.zero_add,
    BitVec.getLsbD_append, BitVec.getLsbD_append]
  by_cases last : f.val < 8
  · rw [if_pos last, Nat.div_eq_of_lt last, Nat.mod_eq_of_lt last]
  by_cases middle : f.val - 8 < 8
  · rw [if_neg last, if_pos middle, show f.val / 8 = 1 by omega, show f.val % 8 = f.val - 8 by omega]
  · rw [if_neg last, if_neg middle, show f.val / 8 = 2 by omega, show f.val % 8 = f.val - 8 - 8 by omega]

/-- The mode and the position of a gating octet (R183). -/
theorem readGating_eq (rec : List Octet) (i : Nat) (p : Fin 4) (position : recordNat rec i / 4 % 4 = p.val) :
    (recordNat rec i % 4 = 0 → readGating (octetAt rec i) = .always)
    ∧ (recordNat rec i % 4 = 1 → readGating (octetAt rec i) = .onAir p)
    ∧ (recordNat rec i % 4 = 2 → readGating (octetAt rec i) = .talk p) := by
  have place : ((octetAt rec i).extractLsb' 2 2).toFin = p := Fin.ext ((octetAt_next rec i).trans position)
  have mode {m : BitVec 2} (low : recordNat rec i % 4 = m.toNat) : (octetAt rec i).extractLsb' 0 2 = m :=
    BitVec.eq_of_toNat_eq ((octetAt_low rec i).trans low)
  unfold readGating
  refine ⟨fun low => ?_, fun low => ?_, fun low => ?_⟩
  · rw [mode (m := 0#2) low]
    rfl
  · rw [mode (m := 1#2) low, place]
    rfl
  · rw [mode (m := 2#2) low, place]
    rfl

/-- A sourced stream entry (R183). -/
theorem readSourceEntry_eq (rec : List Octet) (i : Nat) :
    let r := recordNat rec
    let c := readSourceEntry rec i
    (r (36 + 10 * i) ≤ 63 → c.id.toNat = r (36 + 10 * i))
    ∧ c.wide = decide (r (37 + 10 * i) / 2 ^ 2 % 2 = 1) ∧ c.talkback = decide (r (37 + 10 * i) / 2 ^ 6 % 2 = 1)
    ∧ c.channels.length = r (37 + 10 * i) % 4 + 1
    ∧ ∀ k < c.channels.length, ∃ ch, c.channels[k]? = some ch
      ∧ (r (38 + 10 * i + 2 * k) ≤ 15 → ch.capture.val = r (38 + 10 * i + 2 * k))
      ∧ ∀ p : Fin 4, r (39 + 10 * i + 2 * k) / 4 % 4 = p.val →
        (r (39 + 10 * i + 2 * k) % 4 = 0 → ch.gating = .always)
        ∧ (r (39 + 10 * i + 2 * k) % 4 = 1 → ch.gating = .onAir p)
        ∧ (r (39 + 10 * i + 2 * k) % 4 = 2 → ch.gating = .talk p) := by
  intro r c
  have length : c.channels.length = r (37 + 10 * i) % 4 + 1 := by
    show ((usedChannels rec i).map _).length = _
    rw [List.length_map, usedChannels, List.length_range, recordBits_eq, Nat.pow_zero, Nat.div_one,
      show 2 ^ 2 = 4 from rfl]
  refine ⟨fun low => ?_, octetAt_getLsbD .., octetAt_getLsbD .., length, fun k inside => ?_⟩
  · show (BitVec.ofNat 6 (r (36 + 10 * i))).toNat = _
    rw [BitVec.toNat_ofNat]
    omega
  · have used : (usedChannels rec i)[k]? = some k := by
      rw [usedChannels, List.getElem?_range]
      rw [recordBits_eq, Nat.pow_zero, Nat.div_one]
      exact length ▸ inside
    refine ⟨_, List.getElem?_map .. |>.trans (by rw [used]; rfl), fun low => ?_, fun p => readGating_eq rec _ p⟩
    show r (38 + 10 * i + 2 * k) % 16 = _
    omega

/-- A subscription entry (R183). -/
theorem readSubscription_eq (rec : List Octet) (n : Nat) :
    let r := recordNat rec
    let u := readSubscription rec n
    (r (77 + 6 * n) ≤ 63 → u.id.toNat = r (77 + 6 * n))
    ∧ (r (78 + 6 * n) = 0 → u.designation = .none) ∧ (r (78 + 6 * n) = 1 → u.designation = .programme)
    ∧ (r (78 + 6 * n) = 2 → u.designation = .talkback)
    ∧ ∀ c : Fin 4, (∀ ch : Fin 32, r (79 + 6 * n + c.val) = ch.val → u.map[c] = some ch)
      ∧ (r (79 + 6 * n + c.val) = 255 → u.map[c] = none) := by
  intro r u
  have designated : u.designation = readDesignation (r (78 + 6 * n)) := rfl
  have entry (c : Fin 4) : u.map[c] = readMapEntry (r (79 + 6 * n + c.val)) := ofFn_get ..
  refine ⟨fun low => ?_, fun h => ?_, fun h => ?_, fun h => ?_, fun c => ⟨fun ch h => ?_, fun h => ?_⟩⟩
  · show (BitVec.ofNat 6 (r (77 + 6 * n))).toNat = _
    rw [BitVec.toNat_ofNat]
    omega
  · rw [designated, h]
    rfl
  · rw [designated, h]
    rfl
  · rw [designated, h]
    rfl
  · rw [entry, h]
    exact dif_pos ch.isLt
  · rw [entry, h]
    rfl

/-- The slot width of a code (R183). -/
theorem recordWidth_eq (rec : List Octet) (i : Nat) : slotWidth (recordBits rec i 1 2) =
    if recordNat rec i / 2 % 4 = 0 then 16 else if recordNat rec i / 2 % 4 = 1 then 24 else 32 := by
  rw [recordBits_eq, slotWidth]
  rfl

/-- A position record (R183). -/
theorem readPosition_eq (rec : List Octet) (p : Nat) :
    let r := recordNat rec
    let q := readPosition rec p
    (r (173 + 4 * p) ≤ 15 → q.mic.val = r (173 + 4 * p)) ∧ (r (174 + 4 * p) ≤ 31 → q.headphone.val = r (174 + 4 * p))
    ∧ (r (175 + 4 * p) ≤ 3 → q.returnCh.val = r (175 + 4 * p))
    ∧ (r (176 + 4 * p) ≤ 3 → q.talkCh.val = r (176 + 4 * p)) := by
  intro r q
  refine ⟨fun low => ?_, fun low => ?_, fun low => ?_, fun low => ?_⟩
  · exact Nat.mod_eq_of_lt (Nat.lt_succ_of_le low)
  · exact Nat.mod_eq_of_lt (Nat.lt_succ_of_le low)
  · exact Nat.mod_eq_of_lt (Nat.lt_succ_of_le low)
  · exact Nat.mod_eq_of_lt (Nat.lt_succ_of_le low)

/-- A gallery input (R183). -/
theorem readInput_eq (rec : List Octet) (i : Nat) :
    let r := recordNat rec
    let x := readInput rec i
    (r (189 + 3 * i) = 0 → x.use = .unused) ∧ (r (189 + 3 * i) = 1 → x.use = .tally)
    ∧ (r (189 + 3 * i) = 2 → x.use = .talk) ∧ (r (190 + 3 * i) ≤ 31 → x.venue.toNat = r (190 + 3 * i))
    ∧ (r (191 + 3 * i) ≤ 15 → x.position.toNat = r (191 + 3 * i)) := by
  intro r x
  have use : x.use = if r (189 + 3 * i) = 1 then .tally else if r (189 + 3 * i) = 2 then .talk else .unused := rfl
  refine ⟨fun h => ?_, fun h => ?_, fun h => ?_, fun low => ?_, fun low => ?_⟩
  · rw [use, h]
    rfl
  · rw [use, h]
    rfl
  · rw [use, h]
    rfl
  · exact Nat.mod_eq_of_lt (Nat.lt_succ_of_le low)
  · exact Nat.mod_eq_of_lt (Nat.lt_succ_of_le low)

/-- A gallery lamp (R183). -/
theorem readLamp_eq (rec : List Octet) (l : Nat) :
    (recordNat rec (237 + 2 * l) = 0 → readLamp rec l = none)
    ∧ (1 ≤ recordNat rec (237 + 2 * l) → recordNat rec (237 + 2 * l) ≤ 30 → recordNat rec (238 + 2 * l) ≤ 3 →
      ∃ a p, readLamp rec l = some (a, p) ∧ a.toNat = recordNat rec (237 + 2 * l) ∧ p.val = recordNat rec (238 + 2 * l)) := by
  refine ⟨fun unused => if_pos unused, fun used station position => ⟨_, _, if_neg (by omega), ?_, ?_⟩⟩
  · rw [BitVec.toNat_ofNat]
    omega
  · show recordNat rec (238 + 2 * l) % 4 = _
    omega

end

/-- Settles O8: each field of the image is read at its offset. -/
theorem settingsClamped : Obligations.SettingsClamped := by
  intro rec clamp r bit width g
  have clamps {lo hi : Nat} (x : Nat) (range : lo ≤ hi) : clampTo lo hi x = clamp lo hi x := clampTo_eq x range
  have clamped : g.clamped := readImage_clamped rec
  have windowed : g.window ≤ 6 * g.block.samples - g.window := by
    obtain ⟨-, -, -, ⟨low, high⟩, -⟩ := clamped
    omega
  have capture (q : Fin 2) : g.capture[q] = readCapturePort rec q.val := ofFn_get ..
  have playout (q : Fin 4) : g.playout[q] = readPlayoutPort rec q.val := ofFn_get ..
  have position (p : Fin 4) : g.positions[p] = readPosition rec p.val := ofFn_get ..
  have input (i : Fin 16) : g.inputs[i] = readInput rec i.val := ofFn_get ..
  have lamp (l : Fin 16) : g.lamps[l] = readLamp rec l.val := ofFn_get ..
  have sources : g.sources = (usedSources rec).map (readSourceEntry rec) := rfl
  have subscriptions : g.subscriptions = (usedSubscriptions rec).map (readSubscription rec) := rfl
  obtain ⟨b24, b48, b96⟩ := recordBlock_eq rec
  obtain ⟨rate0, rate1, rate2, rate3⟩ := scanRateOf_eq (r 23)
  refine ⟨clamped, ?_, clamps _ (by decide), clamps _ (by decide), ?_, clamps _ (by decide), ?_, clamps _ (by decide), ?_,
    clamps _ (by decide), fun i => ?_, b24, b48, b96, rate0, rate1, rate2, rate3, fun low => ?_, mask_getLsbD rec,
    fun q => ?_, fun q => ?_, fun few => ?_, fun i inside => ?_, fun few => ?_, fun n inside => ?_, fun p => ?_,
    fun i => ?_, fun l => ?_, recordNat16_eq rec 269⟩
  · rw [← recordNat16_eq]
    exact clamps _ (by decide)
  · rw [← recordNat16_eq]
    exact clamps _ windowed
  · rw [← recordNat16_eq]
    exact clamps _ (by decide)
  · rw [← recordNat16_eq]
    exact clamps _ (by decide)
  · exact congrArg BitVec.toNat (ofFn_get (fun i : Fin 10 => octetAt rec i.val) i)
  · show (BitVec.ofNat 5 (r 25)).toNat = r 25
    rw [BitVec.toNat_ofNat]
    omega
  · intro code
    rw [capture]
    have slot : (readCapturePort rec q.val).slotWidth
        = if code = 0 then 16 else if code = 1 then 24 else 32 := recordWidth_eq rec _
    refine ⟨octetAt_getLsbD rec (29 + q.val) 0, fun _ => slot, ?_⟩
    exact congrArg (· && decide (24 ≤ (readCapturePort rec q.val).slotWidth)) (octetAt_getLsbD rec (29 + q.val) 3)
  · intro code
    rw [playout]
    have slot : (readPlayoutPort rec q.val).slotWidth
        = max 24 (if code = 0 then 16 else if code = 1 then 24 else 32) :=
      congrArg (max 24) (recordWidth_eq rec (31 + q.val))
    refine ⟨octetAt_getLsbD rec (31 + q.val) 0, ?_, fun _ => ?_⟩
    · rw [slot]
      exact Nat.le_max_left ..
    · rw [slot]
      dsimp only [width]
      split
      · rfl
      · split <;> rfl
  · rw [sources, List.length_map, usedSources, List.length_range]
    exact Nat.min_eq_right few
  · rw [sources, List.length_map, usedSources, List.length_range] at inside
    refine ⟨readSourceEntry rec i, ?_, readSourceEntry_eq rec i⟩
    rw [sources, List.getElem?_map, usedSources, List.getElem?_range inside]
    rfl
  · rw [subscriptions, List.length_map, usedSubscriptions, List.length_range]
    exact Nat.min_eq_right few
  · rw [subscriptions, List.length_map, usedSubscriptions, List.length_range] at inside
    refine ⟨readSubscription rec n, ?_, readSubscription_eq rec n⟩
    rw [subscriptions, List.getElem?_map, usedSubscriptions, List.getElem?_range inside]
    rfl
  · rw [position]
    exact readPosition_eq rec p.val
  · rw [input]
    exact readInput_eq rec i.val
  · rw [lamp]
    exact readLamp_eq rec l.val

end Sys2Proof.Machine
